-- ==== Sys2Proof/Word.lean ====
section
/-! DEFINITION. The word types of the hub's links: the 16-bit words of frame bodies and request data, the
24-bit frame (section 1.1), and the 64-bit decoder identity. -/

namespace Sys2Proof

/-- A 16-bit frame body, or one word of request or reply data (section 1.1). -/
abbrev Word16 := BitVec 16

/-- A whole frame of the console link or of the rails, bit 23 sent first (section 1.1). -/
abbrev Word24 := BitVec 24

/-- The factory identity of a decoder (00_scope.md, "Car decoders"). -/
abbrev Identity := BitVec 64

end Sys2Proof
end

