-- ==== Sys2Proof/Syntax.lean ====
section
/-! DEFINITION. The commands the hub takes: one constructor for each row of spec/opcode_table.json, with
the fields that the layouts of sections 1.1 and 1.7 and the packings of chapter 9 give it. -/

namespace Sys2Proof

/-- A handset slot 0..23 (00_scope.md, "Identifiers"). -/
abbrev SlotIx := Fin 24

/-- A car record: the car of address `a` is `a - 1` here, so slot `h` and its direct-path car, address
`h + 1`, are the same number (00_scope.md, "Identifiers"). -/
abbrev CarIx := Fin 24

/-- A port 0..15. -/
abbrev PortIx := Fin 16

/-- A zone 0..7. -/
abbrev ZoneIx := Fin 8

/-- The race state of a CYCLE frame (section 1.1, R140). -/
inductive RaceState where
  | grid
  | green
  | caution
  | stop
deriving DecidableEq, Repr

/-- The kind a module announces in HELLO (section 1.7). -/
inductive ModuleKind where
  | switch
  | bay
  | external
deriving DecidableEq, Repr

/-- The commands of spec/opcode_table.json, in the table's order. -/
inductive Instr where
  /-- CYCLE_FRAME (R8): body bits 15..14, 13 and 12..0. -/
  | cycleFrame (race : RaceState) (laneEnable : Bool) (console : BitVec 13)
  /-- DRIVE_FRAME (R30): body bits 15..11, 10..5, 4, 3 and 2. -/
  | driveFrame (slot : BitVec 5) (throttle : BitVec 6) (brake lane pair : Bool)
  /-- HEAD_FRAME (R152): body bits 15..10, 9..8 and 7..0. -/
  | headFrame (code : BitVec 6) (count : BitVec 2) (arg : BitVec 8)
  /-- DATA_FRAME (R152). -/
  | dataFrame (word : Word16)
  /-- FILL_FRAME (R5). -/
  | fillFrame
  /-- AUX_FRAME (R5): of kind 0xC + `kind`. -/
  | auxFrame (kind : Fin 3) (body : Word16)
  /-- FRAME_ERROR (R4). -/
  | frameError
  /-- KIND_ERROR (R4). -/
  | kindError
  /-- FRAME_BROKEN_OFF (R2). -/
  | frameBrokenOff
  /-- CAR_ANSWER_WINDOW_CLOSE (R16): the window after a CAR frame to `address`; ANSWER or SILENT. -/
  | carAnswerWindowClose (address : BitVec 5) (answered : Bool)
  /-- ASSIGN_ANSWER_WINDOW_CLOSE (R17): the window after an ASSIGN frame tagged with `port`. -/
  | assignAnswerWindowClose (port : PortIx) (answered : Bool)
  /-- RAIL_OUTPUT_FREE (R10). -/
  | railOutputFree
  /-- INSERTION_QUEUE_PLACE (R12). -/
  | insertionQueuePlace
  /-- HELLO (R96): module kind and, for SWITCH, whether the flap stands THROWN. -/
  | hello (port : PortIx) (kind : ModuleKind) (thrown : Bool)
  /-- APPROACH (R117): a car code. -/
  | approach (port : PortIx) (code : BitVec 5)
  /-- GUARD (R123): a car code. -/
  | guard (port : PortIx) (code : BitVec 5)
  /-- EXIT_CROSS (R125): a car code. -/
  | exitCross (port : PortIx) (code : BitVec 5)
  /-- EXIT_STRAIGHT (R126): a car code. -/
  | exitStraight (port : PortIx) (code : BitVec 5)
  /-- READY (R103): whether the position reached is THROWN. -/
  | ready (port : PortIx) (thrown : Bool)
  /-- MOVING (R102). -/
  | moving (port : PortIx)
  /-- MODULE_FAULT (R100): the fault code. -/
  | moduleFault (port : PortIx) (code : BitVec 8)
  /-- SELF_THROW (R129): a car code. -/
  | selfThrow (port : PortIx) (code : BitVec 5)
  /-- IDENTITY (R75). -/
  | identity (port : PortIx) (id : Identity)
  /-- PORT_LINE_ERROR (R20). -/
  | portLineError (port : PortIx)
  /-- PORT_MESSAGE_BROKEN_OFF (R20). -/
  | portMessageBrokenOff (port : PortIx)
  /-- PORT_LINE_FREE (R21). -/
  | portLineFree (port : PortIx)
  /-- FLAP_COMMAND_LEFT (R102). -/
  | flapCommandLeft (port : PortIx)
  /-- START_UP_SETTLE_EXPIRY (R139). -/
  | startUpSettleExpiry
  /-- WAKE_SETTLE_EXPIRY (R147). -/
  | wakeSettleExpiry
  /-- SILENCE_DEADLINE_EXPIRY (R143). -/
  | silenceDeadlineExpiry
  /-- OWN_CYCLE_TIMER_EXPIRY (R144). -/
  | ownCycleTimerExpiry
  /-- RESET_DEADLINE_EXPIRY (R96). -/
  | resetDeadlineExpiry (port : PortIx)
  /-- FLAP_DEADLINE_EXPIRY (R102). -/
  | flapDeadlineExpiry (port : PortIx)
  /-- WINDOW_DEADLINE_EXPIRY (R83). -/
  | windowDeadlineExpiry (port : PortIx)
  /-- SHOW_DEADLINE_EXPIRY (R84). -/
  | showDeadlineExpiry (port : PortIx)
  /-- ENTRY_EXPIRY (R128): of the entry that stands at `position` in the zone's list, oldest 0. -/
  | entryExpiry (zone : ZoneIx) (position : Fin 3)
  /-- GUARD_EXPIRY (R124). -/
  | guardExpiry (zone : ZoneIx)
  /-- POWER_ON (R148). -/
  | powerOn
  /-- RESET_PIN_ASSERTION (R148). -/
  | resetPinAssertion
  /-- SUPPLY_DIP (R148). -/
  | supplyDip
  /-- INTERNAL_RESET_RELEASE (R148): the level of the LEGACY strap as sampled. -/
  | internalResetRelease (strapHigh : Bool)
  /-- IDENT (R158). -/
  | ident
  /-- STATUS (R158): argument bit 0. -/
  | status (clearCounters : Bool)
  /-- NOTICES (R169). -/
  | notices
  /-- CAUSE (R158). -/
  | cause
  /-- PORT_ROLE (R95, R159). -/
  | portRole (port : BitVec 8) (role : BitVec 4)
  /-- PORT_MASK (R106, R159). -/
  | portMask (port : BitVec 8) (masked : Bool)
  /-- SECTION_WRITE (R98, R160): the hold time in units of 20 ms, the guard time in units of 10 ms, the flap
  timeout in ms. -/
  | sectionWrite (port zone : BitVec 4) (cap hold guardTime flap : BitVec 8) (threshold : Word16)
  /-- SECTION_READ (R160). -/
  | sectionRead (port : BitVec 8)
  /-- SECTION_COUNTS (R161). -/
  | sectionCounts (port : BitVec 8) (page : BitVec 2) (clearErrors : Bool)
  /-- SECTION_CLEAR (R105). -/
  | sectionClear (port : BitVec 8)
  /-- ZONE_WRITE (R114, R162). -/
  | zoneWrite (zone capacity : BitVec 8)
  /-- ZONE_READ (R114, R162). -/
  | zoneRead (zone : BitVec 8) (page : BitVec 2)
  /-- CURVE_WRITE (R44, R163). -/
  | curveWrite (curve point : BitVec 4) (value : BitVec 8)
  /-- CURVE_READ (R163). -/
  | curveRead (curve half : BitVec 4)
  /-- CAR_WRITE (R25, R164). -/
  | carWrite (address limit : BitVec 8) (curve : BitVec 4) (up down : BitVec 8)
  /-- CAR_READ (R164). -/
  | carRead (address : BitVec 8)
  /-- CAR_IDENTITY (R164). -/
  | carIdentity (address : BitVec 8)
  /-- BIND (R37, R165). -/
  | bind (slot address : BitVec 8)
  /-- UNBIND (R38, R165). -/
  | unbind (slot : BitVec 8)
  /-- FORGET (R39, R165). -/
  | forget (address : BitVec 8)
  /-- PAIR_OPEN (R71, R166): slot 255 is ANY, the window in seconds. -/
  | pairOpen (port slot window : BitVec 8)
  /-- PAIR_CANCEL (R85). -/
  | pairCancel (port : BitVec 8)
  /-- PAIR_READ (R88, R166). -/
  | pairRead (port : BitVec 8) (page : BitVec 2)
  /-- REVIVE (R62). -/
  | revive (address : BitVec 8)
  /-- LIMITS (R163): the timeout in units of 10 ms. -/
  | limits (writeCap writeTimeout : Bool) (cap timeout : BitVec 8)
  /-- MODE (R167): default bay 255 makes the setting absent. -/
  | mode (writeFallback writeBay fallback : Bool) (bay : BitVec 8)
  /-- REST (R145). -/
  | rest
  /-- WAKE (R147). -/
  | wake
  /-- SOFT_RESET (R150). -/
  | softReset
deriving DecidableEq, Repr

end Sys2Proof
end

