-- ==== Sys2Proof/WellFormed.lean ====
section
/-! DEFINITION. Which commands are terms of the table's rows: the fields whose type is wider than the values
the row allows. Identifiers of requests are not among them: out of range they are refused BAD_ARG (R156). -/

namespace Sys2Proof

/-- A valid DRIVE frame names a slot 0..23: with 24..31 it is a frame error (R2). -/
def slotFieldOk (slot : BitVec 5) : Bool := decide (slot.toNat < 24)

/-- A CAR frame names an address 1..24 (section 1.1). -/
def addressFieldOk (address : BitVec 5) : Bool :=
  decide (1 ≤ address.toNat) && decide (address.toNat ≤ 24)

/-- Whether the command is one its row allows. -/
def Instr.wellFormed : Instr → Bool
  | .cycleFrame _ _ _ => true
  | .driveFrame slot _ _ _ _ => slotFieldOk slot
  | .headFrame _ _ _ => true
  | .dataFrame _ => true
  | .fillFrame => true
  | .auxFrame _ _ => true
  | .frameError => true
  | .kindError => true
  | .frameBrokenOff => true
  | .carAnswerWindowClose address _ => addressFieldOk address
  | .assignAnswerWindowClose _ _ => true
  | .railOutputFree => true
  | .insertionQueuePlace => true
  | .hello _ _ _ => true
  | .approach _ _ => true
  | .guard _ _ => true
  | .exitCross _ _ => true
  | .exitStraight _ _ => true
  | .ready _ _ => true
  | .moving _ => true
  | .moduleFault _ _ => true
  | .selfThrow _ _ => true
  | .identity _ _ => true
  | .portLineError _ => true
  | .portMessageBrokenOff _ => true
  | .portLineFree _ => true
  | .flapCommandLeft _ => true
  | .startUpSettleExpiry => true
  | .wakeSettleExpiry => true
  | .silenceDeadlineExpiry => true
  | .ownCycleTimerExpiry => true
  | .resetDeadlineExpiry _ => true
  | .flapDeadlineExpiry _ => true
  | .windowDeadlineExpiry _ => true
  | .showDeadlineExpiry _ => true
  | .entryExpiry _ _ => true
  | .guardExpiry _ => true
  | .powerOn => true
  | .resetPinAssertion => true
  | .supplyDip => true
  | .internalResetRelease _ => true
  | .ident => true
  | .status _ => true
  | .notices => true
  | .cause => true
  | .portRole _ _ => true
  | .portMask _ _ => true
  | .sectionWrite _ _ _ _ _ _ _ => true
  | .sectionRead _ => true
  | .sectionCounts _ _ _ => true
  | .sectionClear _ => true
  | .zoneWrite _ _ => true
  | .zoneRead _ _ => true
  | .curveWrite _ _ _ => true
  | .curveRead _ _ => true
  | .carWrite _ _ _ _ _ => true
  | .carRead _ => true
  | .carIdentity _ => true
  | .bind _ _ => true
  | .unbind _ => true
  | .forget _ => true
  | .pairOpen _ _ _ => true
  | .pairCancel _ => true
  | .pairRead _ _ => true
  | .revive _ => true
  | .limits _ _ _ _ => true
  | .mode _ _ _ _ => true
  | .rest => true
  | .wake => true
  | .softReset => true

end Sys2Proof
end

