-- ==== Sys2Proof/Decode.lean ====
section
/-! DEFINITION. The commands that spec/opcode_table.json's bits spell. The hub is a block: no row of its table
gives bits (every row's "fields" is empty and none has "fixed"), so no word spells a command. The layouts the
spec itself gives, of whole frames and of port line messages, are in Machine/Operands.lean. -/

namespace Sys2Proof

/-- The command a word spells by the table's bits: none, as no row of the table gives bits. -/
def decodeTableWord (_nbits _w : Nat) : Option Instr := none

end Sys2Proof
end

