-- ==== Sys2Proof/Config.lean ====
section
/-! DEFINITION. What the spec leaves open and the model keeps free. Each constant is opaque: nothing can
be proved of its value, so a claim holds whichever order the hub takes and whenever a module sends. -/

namespace Sys2Proof

/-- Free value (log entry 16). At a CYCLE frame that interrupts a partial request, whether the MALFORMED
reply is made before the Console Port chooses what the return window carries (R154 gives both outcomes). -/
opaque Config.replyBeforeWindow : Nat → Bool

/-- Free value (log entry 17). At a HEAD or DATA frame that completes a request while the insertion queue
holds a sequence, whether the request is executed before the frame's own free position takes its frame
(R14 gives both outcomes). -/
opaque Config.requestBeforePosition : Nat → Bool

/-- Free value (log entry 18). At a tick, whether the module at a port begins to send (R21): the spec says neither when a
module sends nor how long, and the table's rows give the end of a module message alone. -/
opaque Config.moduleBegins : Nat → Fin 16 → Bool

end Sys2Proof
end

