-- ==== Sys2Proof/Machine/State.lean ====
section
/-! DEFINITION. The state of the hub as plain data, block by block, with the values of a hard reset. Times are
ticks of the 1 ms timebase: a running deadline is `some` of the tick at which it expires (R141). -/

namespace Sys2Proof.Machine

/-! ### Names the spec gives -/

/-- The part state (R138). -/
inductive PartState where
  | startup
  | run
  | halt
  | rest
  | waking
deriving DecidableEq, Repr

/-- The role of a port (R92). -/
inductive Role where
  | unused
  | switch
  | bay
  | delegated
deriving DecidableEq, Repr

/-- The state of a port (R92). -/
inductive PortState where
  | off
  | resetting
  | absent
  | mismatch
  | dormant
  | straight
  | throwing
  | thrown
  | returning
  | fault
  | ready
deriving DecidableEq, Repr

/-- The standing of a car record (R24). -/
inductive Tenure where
  | free
  | known
  | bound
deriving DecidableEq, Repr

/-- The judgement of a car's rail link (R56). -/
inductive LinkState where
  | active
  | warn
  | passive
  | lost
deriving DecidableEq, Repr

/-- The state of a bay session (R70). -/
inductive SessionState where
  | closed
  | waiting
  | queued
  | sending
  | showDone
  | showFailed
deriving DecidableEq, Repr

/-- How the last session ended (R69). -/
inductive SessionOutcome where
  | done
  | timeout
  | noAddress
  | inUse
  | noAnswer
  | cancelled
  | aborted
deriving DecidableEq, Repr

/-- The value of a bay lamp (section 1.7, R70). -/
inductive Lamp where
  | off
  | slow
  | steady
  | fast
deriving DecidableEq, Repr

/-- The reason of a denial (R117), in the order of the shared encoding of section 9.4. -/
inductive DenyReason where
  | masked
  | fault
  | noCar
  | held
  | race
  | link
  | flapBusy
  | conflict
  | zoneOther
  | guarded
  | full
deriving DecidableEq, Repr

/-- The outcome of a decision on an APPROACH (R117). -/
inductive Verdict where
  | grant
  | pass
  | deny (reason : DenyReason)
deriving DecidableEq, Repr

/-- The status of a reply (R156). -/
inductive Status where
  | ok
  | badArg
  | unknown
  | busy
  | wrongRole
  | full
  | fixed
  | asleep
  | malformed
  | notFound
deriving DecidableEq, Repr

/-! ### What the hub sends -/

/-- A downstream frame by its fields (section 1.1). -/
inductive RailFrame where
  | fill
  | cycle (race : RaceState) (laneEnable : Bool) (console : BitVec 13)
  | car (address : CarIx) (step : Nat) (brake lamp : Bool)
  | assign (address : CarIx)
  | select (k : Fin 4) (bits : Word16)
  | aux (kind : Fin 3) (body : Word16)
deriving DecidableEq, Repr

/-- An answer window, open or to come, of a frame taken for the rail output (R16, R17). An `abandoned` one follows the ASSIGN frame of a
session that has ended since: its result is discarded (R82, log entry 14). -/
inductive AnswerWindow where
  | car (address : CarIx)
  | assign (port : PortIx)
  | abandoned (port : PortIx)
deriving DecidableEq, Repr

/-- A frame for the rail output as the Frame Router builds it at the arrival of its upstream frame (section 1.3), with the
answer window that will follow it (R16, R17). The waiting line holds such frames (R10, log entry 11). -/
structure LineItem where
  rail : RailFrame
  window : Option AnswerWindow
deriving DecidableEq, Repr

/-- A frame of a return window (section 1.1, R18, R19). -/
inductive ReturnFrame where
  | reply (code : BitVec 6) (status : Status) (count : Nat)
  | data (word : Word16)
  | attention (flags : BitVec 12)
deriving DecidableEq, Repr

/-- A message from the hub to a module (section 1.7). -/
inductive HubMsg where
  | throw
  | straight
  | lamp (value : Lamp)
  | moduleReset
  | power (on : Bool)
deriving DecidableEq, Repr

/-! ### Records -/

/-- A pairing sequence in the insertion queue (R12, R78): `sent` of its five frames have left. -/
structure Sequence where
  port : PortIx
  identity : Identity
  address : CarIx
  sent : Nat
deriving DecidableEq, Repr

/-- The slot record (R23). -/
structure Slot where
  binding : Option CarIx
  lastLane : Bool
  lastPair : Bool
  claim : Option PortIx
deriving DecidableEq, Repr

/-- The car record (R24, R25). The tenure is `Car.tenure`, computed by the table of R24. -/
structure Car where
  identity : Option Identity
  holder : Option SlotIx
  reservation : Option PortIx
  curve : Fin 4
  limit : Nat
  up : Nat
  down : Nat
  fine : Nat
  armed : Bool
  link : LinkState
  faults : Nat
  streak : Nat
deriving DecidableEq, Repr

/-- The session record of a BAY port (R69). -/
structure Session where
  state : SessionState
  slot : Option SlotIx
  identity : Option Identity
  address : Option CarIx
  attempts : Nat
  windowDue : Option Nat
  showDue : Option Nat
  outcome : Option SessionOutcome
deriving DecidableEq, Repr

/-- The last decision of a section (R122): the car code as received and the outcome. -/
structure Decision where
  code : BitVec 5
  verdict : Verdict
deriving DecidableEq, Repr

/-- The configuration of a section (R98), times in ms. -/
structure SectionConfig where
  zone : ZoneIx
  cap : Nat
  hold : Nat
  guardTime : Nat
  flapTimeout : Nat
  threshold : Nat
deriving DecidableEq, Repr

/-- The seven decision and exit counters of a section (R99). -/
structure Counters where
  grant : Nat
  deny : Nat
  completed : Nat
  missed : Nat
  expired : Nat
  swept : Nat
  presumed : Nat
deriving DecidableEq, Repr

/-- The port record with its section record (R92, R98, R99) and its line (R21). `flapAwaiting` says that the
leaving of the newest flap command is to start the flap deadline (R102, log entry 19); `moduleSending` that a
module message not yet complete occupies the line (R21), which a tick begins (log entry 18). The last two are the model's
own, for flap reports that come late in RESETTING (R95, R111; log entry 36): `lateMotion` says that a motion of the SWITCH role
was cut off and its end has not been reported, `roleTaken` is the tick at which PORT_ROLE took the SWITCH role. -/
structure Port where
  role : Role
  masked : Bool
  state : PortState
  errors : Nat
  kind : Option ModuleKind
  faultCode : Option (BitVec 8)
  resetDue : Option Nat
  config : SectionConfig
  throws : Nat
  counters : Counters
  lastDecision : Option Decision
  returnPending : Bool
  extension : Nat
  flapDue : Option Nat
  flapAwaiting : Bool
  leaving : Option HubMsg
  waiting : List HubMsg
  moduleSending : Bool
  lateMotion : Bool
  roleTaken : Option Nat
deriving DecidableEq, Repr

/-- The supersede by which an entry took the place of an earlier one of its car in the same list: the tick at which it was
taken, and the port of the earlier entry. The model's own, for R136 (log entry 31). -/
structure Supersede where
  tick : Nat
  port : PortIx
deriving DecidableEq, Repr

/-- A crossing entry (R113). `replaced` is the model's own, for R136: the supersede in its list by which it came, or none (log
entry 31). -/
structure Entry where
  car : Option CarIx
  port : PortIx
  due : Nat
  replaced : Option Supersede
deriving DecidableEq, Repr

/-- A zone guard (R112, R123). -/
structure Guard where
  code : BitVec 5
  due : Nat
deriving DecidableEq, Repr

/-- The zone record (R112). The owner is computed from the list. -/
structure Zone where
  capacity : Nat
  entries : List Entry
  guard : Option Guard
  conflict : Bool
deriving DecidableEq, Repr

/-- The reset cause record (R149). -/
structure Cause where
  power : Bool
  pin : Bool
  supply : Bool
  soft : Bool
deriving DecidableEq, Repr

/-- The request under assembly (R152). -/
structure Assembly where
  code : BitVec 6
  count : BitVec 2
  arg : BitVec 8
  words : List Word16
deriving DecidableEq, Repr

/-- A reply (R155): its data count is the number of its words. -/
structure Reply where
  code : BitVec 6
  status : Status
  words : List Word16
deriving DecidableEq, Repr

/-- The state of the hub, and the queue of the commands that wait for it. -/
@[ext]
structure State where
  /-- The commands that wait, first in first out. -/
  pending : List Instr
  -- Console Port (R2, R18)
  rxBits : List Bool
  returnWindow : List ReturnFrame
  -- Frame Router (R10, R12, R16, R17)
  insertionQueue : List Sequence
  queueWaiting : List PortIx
  railOut : Option RailFrame
  window : Option AnswerWindow
  closing : List AnswerWindow
  waitingLine : List LineItem
  -- Slot Map and Car Table (R23 to R28)
  slots : Vector Slot 24
  cars : Vector Car 24
  directFallback : Bool
  strap : Bool
  -- Throttle Shaper (R44, R45)
  curves : Vector (Vector Nat 9) 4
  cautionCap : Nat
  -- Pairing Engine (R69, R72)
  sessions : Vector (Option Session) 16
  defaultBay : Option PortIx
  -- Port Controller (R92)
  ports : Vector Port 16
  -- Zone Arbiter (R112)
  zones : Vector Zone 8
  -- Run Control (R138 to R149)
  part : PartState
  race : RaceState
  laneEnable : Bool
  now : Nat
  startupDue : Option Nat
  wakeDue : Option Nat
  silenceDue : Option Nat
  ownCycleDue : Option Nat
  silenceTimeout : Nat
  cause : Cause
  resetHeld : Bool
  -- Management Unit (R152, R155, R168, R170)
  assembly : Option Assembly
  replies : List Reply
  notices : BitVec 12
  lastCar : Option CarIx
  lastPort : Option PortIx
  frameErrors : Nat
  kindErrors : Nat
  dropped : Nat
  /-- The model's own: the counter that the free values are read with (log entries 16, 17 and 18). -/
  free : Nat
deriving DecidableEq, Repr

/-- The reasons a step stops with a fault: none. The spec names no condition that stops the hub, so nothing
raises one; that is neither safe nor unsafe. -/
inductive Fault where
deriving DecidableEq, Repr

/-- The reasons a step is refused. -/
inductive Refusal where
  /-- Raised by an arm of exec whose command has no meaning yet; safe. No arm raises it now. -/
  | notModelled (mnemonic : String)
deriving DecidableEq, Repr

/-! ### Values after a hard reset -/

/-- The slot record after a hard reset (R23). -/
def Slot.reset : Slot := ⟨none, false, false, none⟩

/-- The car record after a hard reset (R25). -/
def Car.reset : Car := ⟨none, none, none, 0, 255, 32, 64, 0, false, .active, 0, 0⟩

/-- The linear curve of R44. -/
def linearCurve : Vector Nat 9 := #v[0, 32, 65, 97, 130, 162, 194, 227, 255]

/-- A session record as a port that takes the BAY role starts with it (R69). -/
def Session.fresh : Session := ⟨.closed, none, none, none, 0, none, none, none⟩

/-- Every decision and exit counter at 0 (R99). -/
def Counters.zero : Counters := ⟨0, 0, 0, 0, 0, 0, 0⟩

/-- The section configuration of port `p` after a hard reset (R98). -/
def SectionConfig.reset (p : PortIx) : SectionConfig :=
  ⟨⟨p.val % 8, Nat.mod_lt _ (by decide)⟩, 160, 1500, 300, 60, 0⟩

/-- The port record after a hard reset (R92). -/
def Port.reset (p : PortIx) : Port :=
  { role := .unused, masked := false, state := .off, errors := 0, kind := none, faultCode := none,
    resetDue := none, config := SectionConfig.reset p, throws := 0, counters := Counters.zero,
    lastDecision := none, returnPending := false, extension := 0, flapDue := none, flapAwaiting := false,
    leaving := none, waiting := [], moduleSending := false, lateMotion := false,
    roleTaken := none }

/-- The zone record after a hard reset (R112). -/
def Zone.reset : Zone := ⟨3, [], none, false⟩

/-- The hub at the release of the internal reset (R148), the LEGACY strap sampled at level `strapHigh` (R28) and
the reset cause record as it then stands (R149). The start-up settle has been started at 200 ms (R139). -/
def State.hardReset (strapHigh : Bool) (cause : Cause) (pending : List Instr) : State :=
  { pending := pending, rxBits := [], returnWindow := []
    insertionQueue := [], queueWaiting := [], railOut := none, window := none, closing := [], waitingLine := []
    slots := Vector.replicate 24 Slot.reset, cars := Vector.replicate 24 Car.reset
    directFallback := strapHigh, strap := strapHigh
    curves := Vector.replicate 4 linearCurve, cautionCap := 96
    sessions := Vector.replicate 16 none, defaultBay := none
    ports := Vector.ofFn Port.reset, zones := Vector.replicate 8 Zone.reset
    part := .startup, race := .stop, laneEnable := false, now := 0
    startupDue := some 200, wakeDue := none, silenceDue := none, ownCycleDue := none
    silenceTimeout := 250, cause := cause, resetHeld := false
    assembly := none, replies := [], notices := 0, lastCar := none, lastPort := none
    frameErrors := 0, kindErrors := 0, dropped := 0, free := 0 }

/-- The machine right after reset: the release of the internal reset that follows a power-on, so the cause
record is POWER alone (R149). DESIGN CHOICE (log entry 5): the strap is sampled low. -/
def State.reset : State := State.hardReset false ⟨true, false, false, false⟩ []

end Sys2Proof.Machine
end

