-- ==== Sys2Proof/Machine/Ops.lean ====
section
/-! DEFINITION. The named operations over the hub's records that every block uses: reading and updating one record
of a table, saturating counters, the timebase and the frame every meaning stands in. -/

namespace Sys2Proof.Machine

/-! ### One record of a table -/

/-- The slot record of slot `h` (R23). -/
def State.slot (s : State) (h : SlotIx) : Slot := s.slots[h]

/-- The car record of car `a` (R25). -/
def State.car (s : State) (a : CarIx) : Car := s.cars[a]

/-- The port record of port `p` (R92). -/
def State.port (s : State) (p : PortIx) : Port := s.ports[p]

/-- The zone record of zone `z` (R112). -/
def State.zone (s : State) (z : ZoneIx) : Zone := s.zones[z]

/-- The session of port `p`, present while the port is BAY (R69). -/
def State.session (s : State) (p : PortIx) : Option Session := s.sessions[p]

/-- Change one slot record. -/
def State.modSlot (s : State) (h : SlotIx) (f : Slot → Slot) : State :=
  { s with slots := s.slots.set h (f (s.slot h)) }

/-- Change one car record. -/
def State.modCar (s : State) (a : CarIx) (f : Car → Car) : State :=
  { s with cars := s.cars.set a (f (s.car a)) }

/-- Change every car record, each by a function that knows its address. -/
def State.mapCars (s : State) (f : CarIx → Car → Car) : State :=
  { s with cars := Vector.ofFn fun a => f a (s.car a) }

/-- Change one port record. -/
def State.modPort (s : State) (p : PortIx) (f : Port → Port) : State :=
  { s with ports := s.ports.set p (f (s.port p)) }

/-- Change every port record. -/
def State.mapPorts (s : State) (f : Port → Port) : State :=
  { s with ports := Vector.ofFn fun p => f (s.port p) }

/-- Change one zone record. -/
def State.modZone (s : State) (z : ZoneIx) (f : Zone → Zone) : State :=
  { s with zones := s.zones.set z (f (s.zone z)) }

/-- Write the session of one port. -/
def State.setSession (s : State) (p : PortIx) (x : Option Session) : State :=
  { s with sessions := s.sessions.set p x }

/-- Change the session of one port, if it has one. -/
def State.modSession (s : State) (p : PortIx) (f : Session → Session) : State :=
  s.setSession p ((s.session p).map f)

/-! ### Counters (00_scope.md, "Counters": they saturate at the top of their range) -/

/-- Raise a 16-bit counter. -/
def raise16 (n : Nat) : Nat := if n < 65535 then n + 1 else n

/-- Raise an 8-bit counter. -/
def raise8 (n : Nat) : Nat := if n < 255 then n + 1 else n

/-- Clamp a written value into its range (00_scope.md, "Limits on written values"). -/
def clamp (lo hi n : Nat) : Nat := max lo (min hi n)

/-! ### Car codes and identifiers (00_scope.md, "Conventions") -/

/-- The car of an address or car code 1..24; 0 and 25 upward name none. -/
def carOf (n : Nat) : Option CarIx :=
  if h : 1 ≤ n ∧ n ≤ 24 then some ⟨n - 1, by omega⟩ else none

/-- The address 1..24 of a car. -/
def addressOf (a : CarIx) : Nat := a.val + 1

/-- The slot a number names. -/
def slotOf (n : Nat) : Option SlotIx := if h : n < 24 then some ⟨n, h⟩ else none

/-- The port a number names. -/
def portOf (n : Nat) : Option PortIx := if h : n < 16 then some ⟨n, h⟩ else none

/-- The zone a number names. -/
def zoneOf (n : Nat) : Option ZoneIx := if h : n < 8 then some ⟨n, h⟩ else none

/-! ### Time (R141) -/

/-- The tick at which a deadline of `n` ms started now expires (R141). -/
def State.after (s : State) (n : Nat) : Nat := s.now + n

/-- Whether a deadline has come: it runs, and its tick is reached (R141). -/
def State.reached (s : State) (due : Option Nat) : Bool :=
  match due with
  | none => false
  | some d => decide (d ≤ s.now)

/-- The expiry of a deadline (R141), with the effect `f`. Of a deadline that has been stopped, or restarted to a later
tick, no expiry follows (R111, R142, R151; log entry 4). -/
def State.expire (s : State) (due : Option Nat) (f : State → State) : State := if s.reached due then f s else s

/-! ### The frame of every meaning -/

/-- While the internal reset is held the hub takes nothing (R148); otherwise the command has the effect
`f`. Every meaning but those of the four reset commands stands in this frame. -/
def taken (s : State) (f : State → State) : Host.Outcome State Fault Refusal :=
  .next (if s.resetHeld then s else f s)

end Sys2Proof.Machine
end

