-- ==== Sys2Proof/Machine/Flags.lean ====
section
/-! DEFINITION. The hub's flag computations: the notice flags with their subjects (R168) and the reset cause
record (R149). -/

namespace Sys2Proof.Machine

/-- The twelve notices (section 1.1). -/
inductive Notice where
  | linkWarn
  | linkLost
  | linkRestored
  | flapFault
  | zoneConflict
  | pairDone
  | pairFailed
  | silence
  | frameErrors
  | portErrors
  | requestDropped
  | serviceDue
deriving DecidableEq, Repr

/-- The place of a notice among the twelve flags: its ATTENTION bit (section 1.1) less 4. -/
def Notice.bit : Notice → Nat
  | .linkWarn => 11
  | .linkLost => 10
  | .linkRestored => 9
  | .flapFault => 8
  | .zoneConflict => 7
  | .pairDone => 6
  | .pairFailed => 5
  | .silence => 4
  | .frameErrors => 3
  | .portErrors => 2
  | .requestDropped => 1
  | .serviceDue => 0

/-- Whether a notice flag is set. -/
def State.hasNotice (s : State) (n : Notice) : Bool := s.notices.getLsbD n.bit

/-- The flags with one set (R168: setting a set flag leaves it set). -/
def setFlag (flags : BitVec 12) (n : Notice) : BitVec 12 := flags ||| BitVec.twoPow 12 n.bit

/-- Set a notice that has no subject (R168): both subjects stand. -/
def State.notify (s : State) (n : Notice) : State := { s with notices := setFlag s.notices n }

/-- Set a notice whose subject is the last car (R168). -/
def State.notifyCar (s : State) (n : Notice) (a : CarIx) : State :=
  { s with notices := setFlag s.notices n, lastCar := some a }

/-- Set a notice whose subject is the last port (R168). -/
def State.notifyPort (s : State) (n : Notice) (p : PortIx) : State :=
  { s with notices := setFlag s.notices n, lastPort := some p }

/-- Clear every flag and both subjects (R168, R169). -/
def State.clearNotices (s : State) : State := { s with notices := 0, lastCar := none, lastPort := none }

/-- The cause record as CAUSE packs it (R158): bit 3 POWER, 2 PIN, 1 SUPPLY, 0 SOFT. -/
def Cause.bits (c : Cause) : Nat :=
  c.power.toNat * 8 + c.pin.toNat * 4 + c.supply.toNat * 2 + c.soft.toNat

/-- The record with no flag (R149, after CAUSE). -/
def Cause.cleared : Cause := ⟨false, false, false, false⟩

end Sys2Proof.Machine
end

