-- ==== Sys2Proof/Machine/Operands.lean ====
section
/-! DEFINITION. The layouts: frames and their check (section 1.1, R1), the classification of upstream frames (R2),
port line messages and their line tests (section 1.7, R20, R21), and the packing of reply words (section 9.4). -/

namespace Sys2Proof.Machine

/-! ### Frames (section 1.1) -/

/-- The check nibble that makes a frame sound (R1): 15 minus the sum of the first five nibbles, modulo 16. -/
def checkNibble (kind : BitVec 4) (body : Word16) : BitVec 4 :=
  15 - (kind + body.extractLsb' 12 4 + body.extractLsb' 8 4 + body.extractLsb' 4 4 + body.extractLsb' 0 4)

/-- The whole frame of a kind and a body, with its check (R1). -/
def frameOf (kind : BitVec 4) (body : Word16) : Word24 := kind ++ body ++ checkNibble kind body

/-- Whether the six nibbles of a frame sum to 15 modulo 16 (R1). -/
def sound (w : Word24) : Bool :=
  w.extractLsb' 20 4 + w.extractLsb' 16 4 + w.extractLsb' 12 4 + w.extractLsb' 8 4 + w.extractLsb' 4 4
    + w.extractLsb' 0 4 == 15#4

/-- The bits of a race state (section 1.1). -/
def RaceState.bits : RaceState → BitVec 2
  | .grid => 0
  | .green => 1
  | .caution => 2
  | .stop => 3

/-- The race state of two bits (section 1.1). -/
def RaceState.ofBits (b : BitVec 2) : RaceState :=
  if b = 0 then .grid else if b = 1 then .green else if b = 2 then .caution else .stop

/-- The body of a CYCLE frame (section 1.1). -/
def cycleBody (race : RaceState) (laneEnable : Bool) (console : BitVec 13) : Word16 :=
  RaceState.bits race ++ BitVec.ofBool laneEnable ++ console

/-- The command that the arrival of a whole upstream frame is: the three tests of R2 in their order, then the
layout of the frame's kind. -/
def upstreamCommand (w : Word24) : Instr :=
  let kind := w.extractLsb' 20 4
  let body : Word16 := w.extractLsb' 4 16
  if sound w = false then .frameError
  else if kind = 0 then .fillFrame
  else if kind = 1 then
    .cycleFrame (RaceState.ofBits (body.extractLsb' 14 2)) (body.getLsbD 13) (body.extractLsb' 0 13)
  else if kind = 2 then
    if (body.extractLsb' 11 5).toNat < 24 then
      .driveFrame (body.extractLsb' 11 5) (body.extractLsb' 5 6) (body.getLsbD 4) (body.getLsbD 3) (body.getLsbD 2)
    else .frameError
  else if kind = 3 then .headFrame (body.extractLsb' 10 6) (body.extractLsb' 8 2) (body.extractLsb' 0 8)
  else if kind = 4 then .dataFrame body
  else if kind = 0xC then .auxFrame 0 body
  else if kind = 0xD then .auxFrame 1 body
  else if kind = 0xE then .auxFrame 2 body
  else .kindError

/-- The kind nibble of a downstream frame (section 1.1). -/
def RailFrame.kind : RailFrame → BitVec 4
  | .fill => 0x0
  | .cycle _ _ _ => 0x1
  | .car _ _ _ _ => 0x5
  | .assign _ => 0x6
  | .select k _ => BitVec.ofNat 4 (8 + k.val)
  | .aux kind _ => BitVec.ofNat 4 (12 + kind.val)

/-- The body of a downstream frame (section 1.1). -/
def RailFrame.body : RailFrame → Word16
  | .fill => 0
  | .cycle race laneEnable console => cycleBody race laneEnable console
  | .car a step brake lamp =>
      BitVec.ofNat 5 (addressOf a) ++ BitVec.ofNat 4 step ++ BitVec.ofBool brake ++ BitVec.ofBool lamp ++ (0 : BitVec 5)
  | .assign a => BitVec.ofNat 5 (addressOf a) ++ (0 : BitVec 11)
  | .select _ bits => bits
  | .aux _ body => body

/-- The 24 bits of a downstream frame, its check included (R1). -/
def RailFrame.word (f : RailFrame) : Word24 := frameOf f.kind f.body

/-- The hub's own CYCLE frame of HALT (R1, R144): STOP, lane changes disabled, zero console bits. -/
def ownCycle : RailFrame := .cycle .stop false 0

/-- The value of a status (section 1.1). -/
def Status.bits : Status → Nat
  | .ok => 0
  | .badArg => 1
  | .unknown => 2
  | .busy => 3
  | .wrongRole => 4
  | .full => 5
  | .fixed => 6
  | .asleep => 7
  | .malformed => 8
  | .notFound => 9

/-- The 24 bits of a return frame (section 1.1, R1, R19). -/
def ReturnFrame.word : ReturnFrame → Word24
  | .reply code status count =>
      frameOf 7 (code ++ BitVec.ofNat 4 (Status.bits status) ++ BitVec.ofNat 3 count ++ (0 : BitVec 3))
  | .data w => frameOf 4 w
  | .attention flags => frameOf 1 (flags ++ (0 : BitVec 4))

/-- The frames a reply fills of its return window (R18): its REPLY frame, then its DATA frames in order. -/
def Reply.frames (r : Reply) : List ReturnFrame :=
  .reply r.code r.status r.words.length :: r.words.map .data

/-! ### Port line messages (section 1.7) -/

/-- The bits of a short message (R21): type, argument and the check that makes the four nibbles sum to 15. -/
def shortMessage (type : BitVec 4) (arg : BitVec 8) : Word16 :=
  type ++ arg ++ (15 - (type + arg.extractLsb' 4 4 + arg.extractLsb' 0 4) : BitVec 4)

/-- The bits of a lamp value (section 1.7). -/
def Lamp.bits : Lamp → BitVec 8
  | .off => 0
  | .slow => 1
  | .steady => 2
  | .fast => 3

/-- The 16 bits of a hub message (section 1.7, R21). -/
def HubMsg.word : HubMsg → Word16
  | .throw => shortMessage 1 0
  | .straight => shortMessage 2 0
  | .lamp v => shortMessage 3 (Lamp.bits v)
  | .moduleReset => shortMessage 4 0
  | .power on => shortMessage 5 (if on then 1 else 0)

/-- The command that the completion of a short module message is (R20): the line tests, then the type's
layout. A type nibble of 0xA begins a long message, so a short one never has it. -/
def shortCommand (p : PortIx) (w : Word16) : Instr :=
  let type := w.extractLsb' 12 4
  let code : BitVec 5 := w.extractLsb' 4 5
  if w.extractLsb' 12 4 + w.extractLsb' 8 4 + w.extractLsb' 4 4 + w.extractLsb' 0 4 ≠ 15#4 then .portLineError p
  else if type = 1 then
    if w.extractLsb' 10 2 = 1#2 then .hello p .switch (w.getLsbD 4)
    else if w.extractLsb' 10 2 = 2#2 then .hello p .bay (w.getLsbD 4)
    else if w.extractLsb' 10 2 = 3#2 then .hello p .external (w.getLsbD 4)
    else .portLineError p
  else if type = 2 then .approach p code
  else if type = 3 then .guard p code
  else if type = 4 then .exitCross p code
  else if type = 5 then .exitStraight p code
  else if type = 6 then .ready p (w.getLsbD 4)
  else if type = 7 then .moving p
  else if type = 8 then .moduleFault p (w.extractLsb' 4 8)
  else if type = 9 then .selfThrow p code
  else .portLineError p

/-- The check byte of an identity (R20): 255 minus the sum of its eight bytes modulo 256. -/
def identityCheck (id : Identity) : BitVec 8 :=
  255 - (id.extractLsb' 56 8 + id.extractLsb' 48 8 + id.extractLsb' 40 8 + id.extractLsb' 32 8
    + id.extractLsb' 24 8 + id.extractLsb' 16 8 + id.extractLsb' 8 8 + id.extractLsb' 0 8)

/-- The command that the completion of a long module message, type nibble 0xA, is (R20). -/
def longCommand (p : PortIx) (w : BitVec 80) : Instr :=
  if identityCheck (w.extractLsb' 12 64) = w.extractLsb' 4 8 then .identity p (w.extractLsb' 12 64)
  else .portLineError p

/-! ### Reply words (section 9.4) -/

/-- A field of a reply word: bits `hi` to `lo`. -/
structure Field where
  hi : Nat
  lo : Nat
  value : Nat
deriving DecidableEq, Repr

/-- A reply word from its fields. The bits that no field of a packing names are 0: the model's choice, where the spec says
so for some words alone (log entry 33). -/
def word16 (fields : List Field) : Word16 :=
  BitVec.ofNat 16 ((fields.map fun f => f.value % 2 ^ (f.hi - f.lo + 1) * 2 ^ f.lo).sum)

/-- A reply word that is one number. -/
def wordOf (n : Nat) : Word16 := word16 [⟨15, 0, n⟩]

/-- A reply word of two bytes. -/
def bytes (high low : Nat) : Word16 := word16 [⟨15, 8, high⟩, ⟨7, 0, low⟩]

/-- The four words of an identity, bits 63..48 first (R164). -/
def identityWords (id : Identity) : List Word16 :=
  [id.extractLsb' 48 16, id.extractLsb' 32 16, id.extractLsb' 16 16, id.extractLsb' 0 16]

/-- Part states by number (section 9.4). -/
def PartState.code : PartState → Nat
  | .startup => 0
  | .run => 1
  | .halt => 2
  | .rest => 3
  | .waking => 4

/-- Roles by number (section 9.4). -/
def Role.code : Role → Nat
  | .unused => 0
  | .switch => 1
  | .bay => 2
  | .delegated => 3

/-- The role a number names (R159). -/
def roleOf (n : Nat) : Option Role :=
  if n = 0 then some .unused else if n = 1 then some .switch else if n = 2 then some .bay
  else if n = 3 then some .delegated else none

/-- Port states by number (section 9.4). -/
def PortState.code : PortState → Nat
  | .off => 0
  | .resetting => 1
  | .absent => 2
  | .mismatch => 3
  | .dormant => 4
  | .straight => 5
  | .throwing => 6
  | .thrown => 7
  | .returning => 8
  | .fault => 9
  | .ready => 10

/-- Module kinds by number, absent 0 (section 9.4). -/
def kindCode : Option ModuleKind → Nat
  | none => 0
  | some .switch => 1
  | some .bay => 2
  | some .external => 3

/-- Tenures by number (section 9.4). -/
def Tenure.code : Tenure → Nat
  | .free => 0
  | .known => 1
  | .bound => 2

/-- Link states by number (section 9.4). -/
def LinkState.code : LinkState → Nat
  | .active => 0
  | .warn => 1
  | .passive => 2
  | .lost => 3

/-- Session states by number (section 9.4). -/
def SessionState.code : SessionState → Nat
  | .closed => 0
  | .waiting => 1
  | .queued => 2
  | .sending => 3
  | .showDone => 4
  | .showFailed => 5

/-- Session outcomes by number, absent 0 (section 9.4). -/
def outcomeCode : Option SessionOutcome → Nat
  | none => 0
  | some .done => 1
  | some .timeout => 2
  | some .noAddress => 3
  | some .inUse => 4
  | some .noAnswer => 5
  | some .cancelled => 6
  | some .aborted => 7

/-- Deny reasons by number (section 9.4). -/
def DenyReason.code : DenyReason → Nat
  | .masked => 1
  | .fault => 2
  | .noCar => 3
  | .held => 4
  | .race => 5
  | .link => 6
  | .flapBusy => 7
  | .conflict => 8
  | .zoneOther => 9
  | .guarded => 10
  | .full => 11

/-- Decision outcomes by number (section 9.4). -/
def Verdict.code : Verdict → Nat
  | .grant => 1
  | .pass => 2
  | .deny _ => 3

/-- The reason of a verdict by number, none 0 (section 9.4). -/
def Verdict.reasonCode : Verdict → Nat
  | .deny r => r.code
  | _ => 0

end Sys2Proof.Machine
end

