-- ==== Sys2Proof/Machine/SlotMap.lean ====
section
/-! DEFINITION. The Slot Map and Car Table (chapter 2): resolution, driving slots, the lane edge, the bindings, the
reservations and the pairing commit. -/

namespace Sys2Proof.Machine

/-- The tenure of a car record, by the table of R24. -/
def Car.tenure (c : Car) : Tenure :=
  match c.holder, c.identity with
  | some _, _ => .bound
  | none, some _ => .known
  | none, none => .free

/-- The car a DRIVE frame from slot `h` resolves to (R26): its binding, else its direct-path car. -/
def State.resolve (s : State) (h : SlotIx) : Option CarIx :=
  match (s.slot h).binding with
  | some a => some a
  | none =>
    if s.directFallback ∧ (s.car h).holder = none ∧ (s.car h).reservation = none then some h else none

/-- The slot that drives car `a` (R27): its holder, else the slot of its direct path. -/
def State.drivingSlot (s : State) (a : CarIx) : Option SlotIx :=
  match (s.car a).holder with
  | some h => some h
  | none =>
    if s.directFallback ∧ (s.car a).reservation = none ∧ (s.slot a).binding = none then some a else none

/-- Whether car `a` is driven (R27). -/
def State.driven (s : State) (a : CarIx) : Bool := (s.drivingSlot a).isSome

/-! ### The ARMED latch (R31, R33, R36) -/

/-- Clear the latch of one car (R33). -/
def State.disarm (s : State) (a : CarIx) : State := s.modCar a fun c => { c with armed := false }

/-- Clear the latch of every car (R33). -/
def State.disarmAll (s : State) : State := s.mapCars fun _ c => { c with armed := false }

/-- Clear the latch of every car whose holder or driving slot differs from what it was `before` (R36). -/
def State.disarmMoved (before after : State) : State :=
  after.mapCars fun a c =>
    if c.holder = (before.car a).holder ∧ after.drivingSlot a = before.drivingSlot a then c
    else { c with armed := false }

/-- Whether the race record reads GREEN with lane changes enabled (R31, R140). -/
def State.laneOpen (s : State) : Bool := decide (s.race = .green) && s.laneEnable

/-- Whether a lane edge of a frame resolved to car `a` is acted on (R31). -/
def State.laneEdgeTaken (s : State) (a : CarIx) : Bool :=
  decide ((s.car a).reservation = none) && decide ((s.car a).link ≠ .lost) && decide (s.part = .run) && s.laneOpen

/-- Judge the lane flag of a DRIVE frame from slot `h` that resolved to `target` (R31): an edge toggles the latch. -/
def State.laneEdge (s : State) (h : SlotIx) (target : Option CarIx) (lane : Bool) : State :=
  match target with
  | none => s
  | some a =>
    if lane = true ∧ (s.slot h).lastLane = false ∧ s.laneEdgeTaken a then
      s.modCar a fun c => { c with armed := !c.armed }
    else s

/-- Write the flags of a DRIVE frame into the slot record (R30 step 4). -/
def State.writeFlags (s : State) (h : SlotIx) (lane pair : Bool) : State :=
  s.modSlot h fun x => { x with lastLane := lane, lastPair := pair }

/-! ### Bindings: a slot's binding and its car's holder change in one step (R24) -/

/-- Remove the binding of slot `h`; its car loses its holder. -/
def State.dropBinding (s : State) (h : SlotIx) : State :=
  match (s.slot h).binding with
  | none => s
  | some b => (s.modSlot h fun x => { x with binding := none }).modCar b fun c => { c with holder := none }

/-- Remove the holder of car `a`; that slot loses its binding. -/
def State.dropHolder (s : State) (a : CarIx) : State :=
  match (s.car a).holder with
  | none => s
  | some g => (s.modSlot g fun x => { x with binding := none }).modCar a fun c => { c with holder := none }

/-- Bind slot `h` to car `a` (R37 steps 1 to 3): another car of the slot and another holder of the car go first. -/
def State.bindTo (s : State) (h : SlotIx) (a : CarIx) : State :=
  let s1 := if (s.slot h).binding = some a then s else s.dropBinding h
  let s2 := if (s1.car a).holder = some h then s1 else s1.dropHolder a
  (s2.modSlot h fun x => { x with binding := some a }).modCar a fun c => { c with holder := some h }

/-- BIND once accepted (R37). -/
def State.bindCar (s : State) (h : SlotIx) (a : CarIx) : State := s.disarmMoved (s.bindTo h a)

/-- UNBIND once accepted (R38). -/
def State.unbindSlot (s : State) (h : SlotIx) : State := s.disarmMoved (s.dropBinding h)

/-- FORGET once accepted (R39). A FREE car is left as it is, its latch included (log entry 20). -/
def State.forgetCar (s : State) (a : CarIx) : State :=
  if (s.car a).tenure = .free then s
  else s.disarmMoved ((s.dropHolder a).modCar a fun c => { c with identity := none, armed := false })

/-- Reserve car `a` for the session of port `p` (R40): the latch is cleared, and R36 applies. -/
def State.reserve (s : State) (a : CarIx) (p : PortIx) : State :=
  s.disarmMoved (s.modCar a fun c => { c with reservation := some p, armed := false })

/-- Release the reservation of car `a` (R41); R36 applies. -/
def State.release (s : State) (a : CarIx) : State :=
  s.disarmMoved (s.modCar a fun c => { c with reservation := none })

/-- The car records with identity `id` taken from every record but `a` (R42 step 3). -/
def State.clearIdentity (s : State) (a : CarIx) (id : Identity) : State :=
  s.mapCars fun b c => if b ≠ a ∧ c.identity = some id then { c with identity := none } else c

/-- The pairing commit (R42): slot `h` is bound to car `a` with identity `id`, the car's fine speed, latch and link
are reset, the reservation is released, and R36 applies. -/
def State.commit (s : State) (h : SlotIx) (a : CarIx) (id : Identity) : State :=
  s.disarmMoved (((s.bindTo h a).clearIdentity a id).modCar a fun c =>
    { c with identity := some id, fine := 0, armed := false, link := .active, faults := 0, streak := 0,
             reservation := none })

/-- Change the direct fallback setting (R29); R36 applies to the driven set. -/
def State.setFallback (s : State) (on : Bool) : State := s.disarmMoved { s with directFallback := on }

/-- The car record that holds an identity (R76 check 2). -/
def State.carWithIdentity (s : State) (id : Identity) : Option CarIx :=
  (List.finRange 24).find? fun a => decide ((s.car a).identity = some id)

/-- The lowest-numbered car record that is FREE and has no reservation (R76 check 3). -/
def State.lowestFree (s : State) : Option CarIx :=
  (List.finRange 24).find? fun a => decide ((s.car a).tenure = .free) && decide ((s.car a).reservation = none)

end Sys2Proof.Machine
end

