-- ==== Sys2Proof/Machine/Lines.lean ====
section
/-! DEFINITION. The Port Controller (chapter 6 and R20 to R22): the port lines, the flap machine, role errors and module
start-up. -/

namespace Sys2Proof.Machine

/-- Whether a hub message is a flap command. -/
def HubMsg.isFlap : HubMsg → Bool
  | .throw | .straight => true
  | .lamp _ | .moduleReset | .power _ => false

/-- Issue a message on a port's line (R21): it leaves at once when the line is free, else it waits behind those
issued before it. -/
def Port.issue (q : Port) (m : HubMsg) : Port :=
  if q.leaving.isNone && q.waiting.isEmpty && !q.moduleSending then { q with leaving := some m }
  else { q with waiting := q.waiting ++ [m] }

/-- Whether the working states of R94 hold the port. -/
def PortState.working : PortState → Bool
  | .straight | .throwing | .thrown | .returning | .fault | .ready => true
  | .off | .resetting | .absent | .mismatch | .dormant => false

/-! ### Errors (R20, R93) -/

/-- A line error or a role error at port `p` (R20, R93): the count rises and PORT_ERRORS is set. -/
def State.portError (s : State) (p : PortIx) : State :=
  (s.modPort p fun q => { q with errors := raise8 q.errors }).notifyPort .portErrors p

/-- The completion of a module message at port `p` (R20, R94): in OFF the receiver does not listen; otherwise the line
no longer carries a module message and `f` handles it. The model's choice for a message under way when PORT_ROLE takes the
port to OFF: its completion is not heard there, so the hub holds the line occupied until PORT_LINE_FREE (log entry 18). -/
def State.onMessage (s : State) (p : PortIx) (f : State → State) : State :=
  if (s.port p).state = .off then s else f (s.modPort p fun q => { q with moduleSending := false })

/-! ### The flap (R100 to R105) -/

/-- A flap motion begins with `command` (R101, R104): the deadline waits for the command to leave (R102). -/
def Port.startMotion (q : Port) (command : HubMsg) (motion : PortState) : Port :=
  { q.issue command with
    state := motion, extension := 0, returnPending := false, flapDue := none, flapAwaiting := true }

/-- STRAIGHT is issued and the port enters RETURNING (R96, R103, R104, R105). -/
def Port.startReturn (q : Port) : Port := q.startMotion .straight .returning

/-- A throw counted at port `p` (R101, R107): SERVICE_DUE at or above a threshold that is not 0. -/
def State.countThrow (s : State) (p : PortIx) : State :=
  let s1 := s.modPort p fun q => { q with throws := raise16 q.throws }
  if (s.port p).config.threshold ≠ 0 ∧ (s.port p).config.threshold ≤ (s1.port p).throws then
    s1.notifyPort .serviceDue p
  else s1

/-- The arbiter's throw request at a grant (R101). -/
def State.requestThrow (s : State) (p : PortIx) : State :=
  match (s.port p).state with
  | .straight => (s.modPort p fun q => q.startMotion .throw .throwing).countThrow p
  | .throwing => s.modPort p fun q => { q with returnPending := false }
  | .off | .resetting | .absent | .mismatch | .dormant | .thrown | .returning | .fault | .ready => s

/-- The arbiter's return request (R104). -/
def State.requestReturn (s : State) (p : PortIx) : State :=
  match (s.port p).state with
  | .thrown => s.modPort p Port.startReturn
  | .throwing => s.modPort p fun q => { q with returnPending := true }
  | .off | .resetting | .absent | .mismatch | .dormant | .straight | .returning | .fault | .ready => s

/-- The motion of a port forgotten: return-pending, extension count, flap deadline and awaited command (R95, R97, R109,
R110). -/
def Port.clearMotion (q : Port) : Port :=
  { q with returnPending := false, extension := 0, flapDue := none, flapAwaiting := false }

/-- Flap commands still waiting on the line discarded (R97, R100). -/
def Port.discardFlap (q : Port) : Port := { q with waiting := q.waiting.filter fun m => !m.isFlap }

/-- The port record at entry to FAULT (R100). -/
def Port.intoFault (q : Port) : Port := { q.clearMotion.discardFlap with state := .fault }

/-- Entry to FAULT at a deadline expiry or a wrong READY (R100): STRAIGHT is issued once, FLAP_FAULT is set. -/
def State.flapFails (s : State) (p : PortIx) : State :=
  (s.modPort p fun q => q.intoFault.issue .straight).notifyPort .flapFault p

/-- A MODULE_FAULT taken in a working state of a SWITCH port (R100): the code is recorded and FLAP_FAULT is set; the port
enters FAULT unless it is in FAULT already. -/
def State.takeModuleFault (s : State) (p : PortIx) (code : BitVec 8) : State :=
  State.notifyPort
    (s.modPort p fun q => { (if q.state = .fault then q else q.intoFault) with faultCode := some code }) .flapFault p

/-- A READY taken by a SWITCH port (R103). -/
def State.takeReady (s : State) (p : PortIx) (thrown : Bool) : State :=
  match (s.port p).state with
  | .throwing =>
    if thrown then
      if (s.port p).returnPending then s.modPort p Port.startReturn
      else s.modPort p fun q => { q with state := .thrown, flapDue := none, flapAwaiting := false }
    else s.flapFails p
  | .returning =>
    if thrown then s.flapFails p
    else s.modPort p fun q => { q with state := .straight, flapDue := none, flapAwaiting := false }
  | .off | .resetting | .absent | .mismatch | .dormant | .straight | .thrown | .fault | .ready => s

/-- A MOVING taken by a SWITCH port (R102). -/
def State.takeMoving (s : State) (p : PortIx) : State :=
  if ((s.port p).state = .throwing ∨ (s.port p).state = .returning) ∧ (s.port p).extension < 2 then
    s.modPort p fun q =>
      { q with extension := q.extension + 1, flapDue := some (s.after q.config.flapTimeout), flapAwaiting := false }
  else s

/-- Whether a flap command is the one whose motion the port is in (R102). -/
def commandOf (m : HubMsg) (st : PortState) : Bool :=
  match m with
  | .throw => decide (st = .throwing)
  | .straight => decide (st = .returning)
  | .lamp _ | .moduleReset | .power _ => false

/-- The message leaving a line has left (R21). If it is the newest flap command, the port is still in the state it put
the port into and no MOVING has started the deadline, the deadline starts at tick `due` (R102; log entry 19). -/
def Port.messageLeft (q : Port) (due : Nat) : Port :=
  match q.leaving with
  | none => q
  | some m =>
    if q.flapAwaiting && commandOf m q.state && !q.waiting.any HubMsg.isFlap then
      { q with leaving := none, flapDue := some due, flapAwaiting := false }
    else { q with leaving := none }

/-- The next message waiting begins to leave (R21). -/
def Port.nextMessage (q : Port) : Port :=
  match q.waiting with
  | [] => q
  | m :: rest => { q with leaving := some m, waiting := rest }

/-- A port line becomes free (R21): what was leaving has left, no module message occupies the line, and the next hub
message begins to leave. -/
def Port.lineFree (q : Port) (due : Nat) : Port := { q.messageLeft due with moduleSending := false }.nextMessage

/-- A flap command finishes leaving (R102); any other message leaving is not concerned. -/
def Port.flapCommandLeft (q : Port) (due : Nat) : Port :=
  if q.leaving.any HubMsg.isFlap then q.messageLeft due else q

/-! ### Bay lamps (R70, R108) -/

/-- The lamp of a session state (R70). -/
def SessionState.lamp : SessionState → Lamp
  | .closed => .off
  | .waiting | .queued | .sending => .slow
  | .showDone => .steady
  | .showFailed => .fast

/-- The engine asks for a lamp value (R70): LAMP is sent when the port is READY. -/
def State.sendLamp (s : State) (p : PortIx) (v : Lamp) : State :=
  if (s.port p).state = .ready then s.modPort p fun q => q.issue (.lamp v) else s

/-- The lamp of the session's state asked for as the port comes to READY (R70). -/
def State.sendSessionLamp (s : State) (p : PortIx) : State :=
  match s.session p with
  | none => s
  | some x => s.sendLamp p x.state.lamp

/-! ### Start-up (R96) -/

/-- Whether a module kind matches a role (section 6.3). -/
def kindMatches : Role → ModuleKind → Bool
  | .switch, .switch => true
  | .bay, .bay => true
  | .delegated, .external => true
  | .unused, _ => false
  | .switch, .bay | .switch, .external | .bay, .switch | .bay, .external | .delegated, .switch | .delegated, .bay => false

/-- A HELLO starts up port `p` (R96). -/
def State.startUp (s : State) (p : PortIx) (kind : ModuleKind) (thrown : Bool) : State :=
  let s1 := s.modPort p fun q =>
    { q with kind := some kind, resetDue := none, lateMotion := false, roleTaken := none }
  if kindMatches (s.port p).role kind then
    match (s.port p).role with
    | .switch => s1.modPort p fun q => if thrown then q.startReturn else { q with state := .straight }
    | .bay => (s1.modPort p fun q => { q with state := .ready }).sendSessionLamp p
    | .delegated => s1.modPort p fun q => { q with state := .ready }
    | .unused => s1
  else (s1.modPort p fun q => { q with state := .mismatch }).portError p

end Sys2Proof.Machine
end

