-- ==== Sys2Proof/Machine/Arbiter.lean ====
section
/-! DEFINITION. The Zone Arbiter (chapter 7): the decision on an approach, crossing entries and how they leave, guards,
exits and self-throws. -/

namespace Sys2Proof.Machine

/-- The zone that port `p` feeds (R98). -/
def State.zoneOfPort (s : State) (p : PortIx) : ZoneIx := (s.port p).config.zone

/-- Whether zone `z`'s list holds an entry of port `p`. -/
def Zone.holds (z : Zone) (p : PortIx) : Bool := z.entries.any fun e => decide (e.port = p)

/-- Whether zone `z`'s list holds an entry of a port other than `p` (R117 check 10, R129 step 2). -/
def Zone.holdsOther (z : Zone) (p : PortIx) : Bool := z.entries.any fun e => decide (e.port ≠ p)

/-- The owner of a zone (R112): the port of its oldest entry. -/
def Zone.owner (z : Zone) : Option PortIx := z.entries.head?.map (·.port)

/-- The place of car `a`'s entry in a zone's list, oldest 0. -/
def Zone.placeOf (z : Zone) (a : CarIx) : Option Nat := z.entries.findIdx? fun e => decide (e.car = some a)

/-- Whether any crossing list holds an entry of port `p` (R98). -/
def State.portHolds (s : State) (p : PortIx) : Bool := (List.finRange 8).any fun z => (s.zone z).holds p

/-- Whether car `a` stands in an entry of any crossing list (R39, R131). -/
def State.crossing (s : State) (a : CarIx) : Bool :=
  (List.finRange 8).any fun z => (s.zone z).entries.any fun e => decide (e.car = some a)

/-! ### How entries leave (R115) -/

/-- The list without the entry at one place; the conflict flag is cleared when the list is empty (R115 step 3). -/
def Zone.without (z : Zone) (k : Nat) : Zone :=
  { z with entries := z.entries.eraseIdx k, conflict := z.conflict && !(z.entries.eraseIdx k).isEmpty }

/-- Ask SWITCH port `p` to return when zone `z` holds no entry of it (R115 step 2). -/
def State.returnIfDone (s : State) (z : ZoneIx) (p : PortIx) : State :=
  if (s.port p).role = .switch ∧ (s.zone z).holds p = false then s.requestReturn p else s

/-- The entry at place `k` of zone `z` leaves (R115): steps 1 to 3, and the counter of its reason at its port. -/
def State.removeEntry (s : State) (z : ZoneIx) (k : Nat) (count : Counters → Counters) : State :=
  match (s.zone z).entries[k]? with
  | none => s
  | some e =>
    ((s.modZone z fun x => x.without k).returnIfDone z e.port).modPort e.port fun q =>
      { q with counters := count q.counters }

/-- Where car `a`'s entry stands: its zone and place (R116 allows one). -/
def State.findEntry (s : State) (a : CarIx) : Option (ZoneIx × Nat) :=
  (List.finRange 8).findSome? fun z => ((s.zone z).placeOf a).map fun k => (z, k)

/-- Supersede (R116) before an entry of car `a` at port `p`: any earlier entry of the car leaves. For an earlier entry
of `p` itself the return test is made after the append, and finds the new entry, so it asks nothing. -/
def State.supersede (s : State) (a : CarIx) (p : PortIx) : State :=
  match s.findEntry a with
  | none => s
  | some (z, k) =>
    if ((s.zone z).entries[k]?).map (·.port) = some p then s.modZone z fun x => x.without k
    else s.removeEntry z k id

/-- Every entry of port `p` leaves its zone's list as ABANDONED (R133): no return of `p`, no counter. -/
def State.abandon (s : State) (p : PortIx) : State :=
  if (s.zone (s.zoneOfPort p)).holds p then
    s.modZone (s.zoneOfPort p) fun x =>
      let rest := x.entries.filter fun e => decide (e.port ≠ p)
      { x with entries := rest, conflict := x.conflict && !rest.isEmpty }
  else s

/-- The mark of an entry of `car` that is to join the list of zone `z` (R136, log entry 31): when the car stands in that list
already, so that the new entry takes the place of the old one, the present tick and the old entry's port. -/
def State.replacing (s : State) (z : ZoneIx) (car : Option CarIx) : Option Supersede :=
  car.bind fun a => ((s.zone z).entries.find? fun e => decide (e.car = some a)).map fun e => ⟨s.now, e.port⟩

/-- Append an entry of port `p` with the expiry of its section's hold time (R113). -/
def State.appendEntry (s : State) (z : ZoneIx) (car : Option CarIx) (p : PortIx) (replaced : Option Supersede) :
    State :=
  s.modZone z fun x => { x with entries := x.entries ++ [⟨car, p, s.after (s.port p).config.hold, replaced⟩] }

/-! ### The decision on an approach (R117) -/

/-- Whether an entry is not the car's own (R117 check 12). -/
def Entry.notOf (a : CarIx) (e : Entry) : Bool := decide (e.car ≠ some a)

/-- The check chain of R117 for a driven car, from check 4 on. -/
def State.decideCar (s : State) (p : PortIx) (a : CarIx) : Verdict :=
  let c := s.car a
  let z := s.zone (s.zoneOfPort p)
  if c.armed = false ∧ c.reservation = none ∧ c.link ≠ .lost then .pass
  else if c.reservation ≠ none then .deny .held
  else if s.part ≠ .run ∨ s.laneOpen = false then .deny .race
  else if c.link = .passive ∨ c.link = .lost then .deny .link
  else if (s.port p).state = .returning then .deny .flapBusy
  else if z.conflict then .deny .conflict
  else if z.holdsOther p then .deny .zoneOther
  else if z.guard.isSome then .deny .guarded
  else if z.capacity ≤ (z.entries.filter (Entry.notOf a)).length then .deny .full
  else .grant

/-- Whether the port state gives FAULT at check 2 of R117. -/
def PortState.deniesFault : PortState → Bool
  | .fault | .resetting | .absent | .mismatch | .dormant => true
  | .off | .straight | .throwing | .thrown | .returning | .ready => false

/-- The decision on an APPROACH with car code `code` at SWITCH port `p` (R117). -/
def State.decideApproach (s : State) (p : PortIx) (code : BitVec 5) : Verdict :=
  if (s.port p).masked then .deny .masked
  else if (s.port p).state.deniesFault then .deny .fault
  else
    match carOf code.toNat with
    | none => .deny .noCar
    | some a => if s.driven a then s.decideCar p a else .deny .noCar

/-- Write the last decision of a section and raise its counter (R122). -/
def State.recordDecision (s : State) (p : PortIx) (code : BitVec 5) (v : Verdict) : State :=
  s.modPort p fun q =>
    { q with lastDecision := some ⟨code, v⟩
             counters := match v with
               | .grant => { q.counters with grant := raise16 q.counters.grant }
               | .pass => q.counters
               | .deny _ => { q.counters with deny := raise16 q.counters.deny } }

/-- The steps of a grant of car `a` at port `p` (R119). -/
def State.grantCar (s : State) (p : PortIx) (code : BitVec 5) (a : CarIx) : State :=
  let z := s.zoneOfPort p
  ((((s.disarm a).supersede a p).appendEntry z (some a) p (s.replacing z (some a))).recordDecision p code
    .grant).requestThrow p

/-- The steps of a PASS or a DENY (R121, R122): the early return is asked of a port in THROWING or THROWN alone, the two
states in which a return request acts (R104). -/
def State.refuseCar (s : State) (p : PortIx) (code : BitVec 5) (v : Verdict) : State :=
  (s.recordDecision p code v).requestReturn p

/-- An APPROACH that a SWITCH port forwards (R117, R119, R121). -/
def State.approach (s : State) (p : PortIx) (code : BitVec 5) : State :=
  match s.decideApproach p code, carOf code.toNat with
  | .grant, some a => s.grantCar p code a
  | .grant, none => s
  | .pass, _ => s.refuseCar p code .pass
  | .deny r, _ => s.refuseCar p code (.deny r)

/-! ### Guards and exits (R123 to R127) -/

/-- Whether a car code names a car that stands in an entry of zone `z`'s list (R123). -/
def Zone.namesEntry (z : Zone) (code : BitVec 5) : Bool :=
  match carOf code.toNat with
  | none => false
  | some a => z.entries.any fun e => decide (e.car = some a)

/-- A GUARD that port `p` forwards (R123). -/
def State.takeGuard (s : State) (p : PortIx) (code : BitVec 5) : State :=
  let z := s.zoneOfPort p
  if (s.zone z).namesEntry code then s
  else if (s.port p).config.guardTime = 0 then s
  else s.modZone z fun x => { x with guard := some ⟨code, s.after (s.port p).config.guardTime⟩ }

/-- SWEPT counted at port `p` (R125, R127). -/
def State.countSwept (s : State) (p : PortIx) : State :=
  s.modPort p fun q => { q with counters := { q.counters with swept := raise16 q.counters.swept } }

/-- Whether an exit that names car `a`, taken at tick `now`, finds an entry (R125, R126). One that comes together with a supersede
of the car's entry and is taken after it finds none of the car (R136): it passes over an entry that took the place of an
earlier one at this same tick. That "together" is the same tick is the model's reading (log entry 31). -/
def Entry.foundByName (now : Nat) (a : CarIx) (e : Entry) : Bool :=
  decide (e.car = some a) && decide (e.replaced.map Supersede.tick ≠ some now)

/-- Whether a presumed exit at port `p`, taken at tick `now`, finds an entry (R127). It removes entries of `p` alone, so R136
concerns it only where the earlier entry too was one of `p` (log entry 31). -/
def Entry.foundByPort (now : Nat) (p : PortIx) (e : Entry) : Bool :=
  decide (e.port = p) && decide (e.replaced ≠ some ⟨now, p⟩)

/-- The place of the oldest entry that an exit finds in zone `z`'s list. -/
def State.exitPlace (s : State) (z : ZoneIx) (found : Nat → Entry → Bool) : Option Nat :=
  (s.zone z).entries.findIdx? (found s.now)

/-- An EXIT_CROSS that port `p` forwards (R125, R127, R136). -/
def State.takeExitCross (s : State) (p : PortIx) (code : BitVec 5) : State :=
  let z := s.zoneOfPort p
  match carOf code.toNat with
  | some a =>
    match s.exitPlace z fun now => Entry.foundByName now a with
    | some k => s.removeEntry z k fun n => { n with completed := raise16 n.completed }
    | none => s.countSwept p
  | none =>
    match s.exitPlace z fun now => Entry.foundByPort now p with
    | some k => s.removeEntry z k fun n => { n with presumed := raise16 n.presumed }
    | none => s.countSwept p

/-- An EXIT_STRAIGHT that port `p` forwards (R126, R127, R136). -/
def State.takeExitStraight (s : State) (p : PortIx) (code : BitVec 5) : State :=
  let z := s.zoneOfPort p
  match carOf code.toNat with
  | some a =>
    match s.exitPlace z fun now => Entry.foundByName now a with
    | some k => s.removeEntry z k fun n => { n with missed := raise16 n.missed }
    | none => s
  | none => s

/-! ### Self-throws (R107, R129, R130) -/

/-- Step 1 of R129: the supersede, and the latch of a driven car. -/
def State.selfThrowCar (s : State) (p : PortIx) (car : Option CarIx) : State :=
  match car with
  | none => s
  | some a => if (s.supersede a p).driven a then (s.supersede a p).disarm a else s.supersede a p

/-- Step 2 of R129: the conflict (R130). -/
def State.markConflict (s : State) (p : PortIx) (z : ZoneIx) : State :=
  if (s.zone z).holdsOther p then
    (s.modZone z fun x => { x with conflict := true }).notifyPort .zoneConflict p
  else s

/-- Step 3 of R129: the displacement of the oldest of three entries. -/
def State.displace (s : State) (z : ZoneIx) : State :=
  if 3 ≤ (s.zone z).entries.length then s.removeEntry z 0 id else s

/-- A SELF_THROW taken at DELEGATED port `p` (R107, R129). -/
def State.takeSelfThrow (s : State) (p : PortIx) (code : BitVec 5) : State :=
  let z := s.zoneOfPort p
  let car := carOf code.toNat
  ((((s.countThrow p).selfThrowCar p car).markConflict p z).displace z).appendEntry z car p
    (s.replacing z car)

end Sys2Proof.Machine
end

