-- ==== Sys2Proof/Machine/LinkMonitor.lean ====
section
/-! DEFINITION. The Link Monitor (chapter 4): what an answer result does to a car's link fields. -/

namespace Sys2Proof.Machine

/-- The link state outside LOST (R56). -/
def linkOf (faults : Nat) : LinkState := if faults < 96 then .active else if faults < 128 then .warn else .passive

/-- Link fields at ACTIVE, count 0 and streak 0 (R61, R62, R63, R64). -/
def Car.linkReset (c : Car) : Car := { c with link := .active, faults := 0, streak := 0 }

/-- Write a car's count and the link state that follows from it (R56), and set LINK_WARN on the change from ACTIVE to
WARN (R60). -/
def State.setFaults (s : State) (a : CarIx) (n : Nat) : State :=
  let s1 := s.modCar a fun c => { c with faults := n, link := linkOf n }
  if (s.car a).link = .active ∧ linkOf n = .warn then s1.notifyCar .linkWarn a else s1

/-- Entry to LOST (R58): count 255, streak 0, the latch cleared, LINK_LOST set. -/
def State.loseLink (s : State) (a : CarIx) : State :=
  (s.modCar a fun c => { c with link := .lost, faults := 255, streak := 0, armed := false }).notifyCar .linkLost a

/-- The restore after 24 answers (R61). -/
def State.restoreLink (s : State) (a : CarIx) : State := (s.modCar a Car.linkReset).notifyCar .linkRestored a

/-- A result applied to a car that is LOST (R61). -/
def State.lostResult (s : State) (a : CarIx) (answered : Bool) : State :=
  if answered then
    if 24 ≤ (s.car a).streak + 1 then s.restoreLink a else s.modCar a fun c => { c with streak := c.streak + 1 }
  else s.modCar a fun c => { c with streak := 0 }

/-- A result applied to a car (R57): R61 while it is LOST, else R58 for SILENT and R59 for ANSWER. -/
def State.linkResult (s : State) (a : CarIx) (answered : Bool) : State :=
  if (s.car a).link = .lost then s.lostResult a answered
  else if answered then s.setFaults a ((s.car a).faults - 1)
  else if 255 < (s.car a).faults + 8 then s.loseLink a
  else s.setFaults a ((s.car a).faults + 8)

end Sys2Proof.Machine
end

