-- ==== Sys2Proof/Machine/Rail.lean ====
section
/-! DEFINITION. The Frame Router (chapter 1): what leaves on the rail output, the waiting line of HALT, the insertion
queue and the answer windows. -/

namespace Sys2Proof.Machine

/-- The answer window that follows a frame other than ASSIGN (R16): a CAR frame's. -/
def RailFrame.answerWindow : RailFrame → Option AnswerWindow
  | .car a _ _ _ => some (.car a)
  | .fill | .cycle _ _ _ | .assign _ | .select _ _ | .aux _ _ => none

/-- A frame starts to leave with the answer window that will follow it. A window still open is closed early by it,
its result owed (R16). -/
def State.send (s : State) (f : RailFrame) (w : Option AnswerWindow) : State :=
  { s with railOut := some f, window := w, closing := s.closing ++ s.window.toList }

/-- A frame that no sequence of the insertion queue gives, with its window. -/
def LineItem.frame (f : RailFrame) : LineItem := ⟨f, f.answerWindow⟩

/-- A frame that has been built starts to leave. -/
def State.leave (s : State) (x : LineItem) : State := s.send x.rail x.window

/-- Whether the positions share the rail output through the waiting line (R10): in HALT, and in RUN until the line is
empty. -/
def State.sharing (s : State) : Bool :=
  decide (s.part = .halt) || (decide (s.part = .run) && !s.waitingLine.isEmpty)

/-- A frame falls due on the shared output (R10): it leaves when the output is free, else it waits; while two wait it
is discarded. -/
def State.fallDue (s : State) (x : LineItem) : State :=
  if s.railOut.isNone && s.waitingLine.isEmpty then s.leave x
  else if s.waitingLine.length < 2 then { s with waitingLine := s.waitingLine ++ [x] }
  else s

/-- The frame of an upstream position: R6, R10 while the output is shared, and nothing in REST (R11). -/
def State.position (s : State) (x : LineItem) : State :=
  if s.part = .rest then s else if s.sharing then s.fallDue x else s.leave x

/-- The frame that a free position takes (R9), the first not yet sent of the oldest sequence or FILL, and the insertion
queue without it: the sequence leaves the queue with its ASSIGN frame (R14), whose window is tagged with its port (R17). -/
def takeFree (queue : List Sequence) : LineItem × List Sequence :=
  match queue with
  | [] => (.frame .fill, [])
  | q :: rest =>
    if h : q.sent < 4 then
      (.frame (.select ⟨q.sent, h⟩ (q.identity.extractLsb' (16 * q.sent) 16)), { q with sent := q.sent + 1 } :: rest)
    else (⟨.assign q.address, some (.assign q.port)⟩, rest)

/-- Whether the position of an upstream frame is discarded (R10): two frames wait already on the shared output. -/
def State.lineFull (s : State) : Bool := s.sharing && decide (2 ≤ s.waitingLine.length)

/-- The free position of an upstream frame. It takes its frame at the arrival of the upstream frame (section 1.3, R9, log
entry 11); in REST (R11), and when it is discarded (R10), it takes none. -/
def State.freePosition (s : State) : State :=
  if s.part = .rest ∨ s.lineFull then s
  else State.position { s with insertionQueue := (takeFree s.insertionQueue).2 } (takeFree s.insertionQueue).1

/-- The rail output becomes free (R10): the oldest in the waiting line leaves. It is not free while an answer window
is open. -/
def State.railFree (s : State) : State :=
  if s.window.isSome then s
  else
    match s.waitingLine with
    | [] => { s with railOut := none }
    | x :: rest => State.leave { s with railOut := none, waitingLine := rest } x

/-- The close of the oldest answer window that `f` names (R16, R17), which it answers with the state after: none if no
such window is owed. A window closed early goes first; the close of the open one frees the output. -/
def State.closeWindow (s : State) (f : AnswerWindow → Bool) : Option (AnswerWindow × State) :=
  match s.closing.find? f with
  | some w => some (w, { s with closing := s.closing.erase w })
  | none =>
    match s.window.filter f with
    | some w => some (w, { s with window := none, railOut := none })
    | none => none

/-- Whether a window follows an ASSIGN frame tagged with port `p` (R17). -/
def AnswerWindow.tagged (p : PortIx) (w : AnswerWindow) : Bool := decide (w = .assign p) || decide (w = .abandoned p)

/-- A window whose session, at port `p`, ends: its result will be discarded (R82). -/
def AnswerWindow.abandon (p : PortIx) (w : AnswerWindow) : AnswerWindow := if w = .assign p then .abandoned p else w

/-- The same for the window to come of a frame that waits. -/
def LineItem.abandon (p : PortIx) (x : LineItem) : LineItem := { x with window := x.window.map (AnswerWindow.abandon p) }

/-- The session of port `p` ends: a result still owed to it, or to come of its ASSIGN frame that waits to leave, will be
discarded (R14, R82). -/
def State.abandonWindows (s : State) (p : PortIx) : State :=
  { s with window := s.window.map (AnswerWindow.abandon p), closing := s.closing.map (AnswerWindow.abandon p)
           waitingLine := s.waitingLine.map (LineItem.abandon p) }

/-! ### The insertion queue (R12, R14) -/

/-- The sequence of a session: its port, identity and reserved address, none of its frames sent (R78). -/
def Session.sequence (x : Session) (p : PortIx) : Option Sequence :=
  match x.identity, x.address with
  | some id, some a => some ⟨p, id, a, 0⟩
  | _, _ => none

/-- Append the sequence of the session of port `p`, which enters SENDING (R12). -/
def State.appendSequence (s : State) (p : PortIx) : State :=
  match (s.session p).bind (·.sequence p) with
  | none => s
  | some q =>
    State.modSession { s with insertionQueue := s.insertionQueue ++ [q] } p fun x => { x with state := .sending }

/-- The session of port `p` reaches QUEUED and asks to enqueue (R12): it enters SENDING when a place is free and none
waits before it, else it waits in QUEUED (log entry 15). -/
def State.enqueue (s : State) (p : PortIx) : State :=
  let s1 := s.modSession p fun x => { x with state := .queued }
  if s1.insertionQueue.length < 3 ∧ s1.queueWaiting = [] then s1.appendSequence p
  else { s1 with queueWaiting := s1.queueWaiting ++ [p] }

/-- A place falls free (R12): the session that has waited longest takes it. -/
def State.queuePlace (s : State) : State :=
  match s.queueWaiting with
  | [] => s
  | p :: rest =>
    if s.insertionQueue.length < 3 then State.appendSequence { s with queueWaiting := rest } p else s

/-- Remove the sequence of port `p` with its unsent frames, and its place among those that wait (R12, R14). -/
def State.removeSequence (s : State) (p : PortIx) : State :=
  { s with insertionQueue := s.insertionQueue.filter fun q => decide (q.port ≠ p)
           queueWaiting := s.queueWaiting.filter fun q => decide (q ≠ p) }

end Sys2Proof.Machine
end

