-- ==== Sys2Proof/Machine/Pairing.lean ====
section
/-! DEFINITION. The Pairing Engine (chapter 5): opening, gesture, lookup, reservation, answer, failure and abort. -/

namespace Sys2Proof.Machine

/-- Whether a session is open (R69). -/
def SessionState.isOpen : SessionState → Bool
  | .waiting | .queued | .sending => true
  | .closed | .showDone | .showFailed => false

/-- Whether a session holds a reservation (R69). -/
def SessionState.holdsCar : SessionState → Bool
  | .queued | .sending => true
  | .waiting | .closed | .showDone | .showFailed => false

/-- The session of a port in the BAY role (R69). -/
def State.baySession (s : State) (p : PortIx) : Option Session :=
  if (s.port p).role = .bay then s.session p else none

/-- Write a session whose state was `old`, and ask for the lamp when its value changes (R70). -/
def State.showSession (s : State) (p : PortIx) (old : SessionState) (x : Session) : State :=
  let s1 := s.setSession p (some x)
  if old.lamp = x.state.lamp then s1 else s1.sendLamp p x.state.lamp

/-- Write the claim of a slot, if a slot is named (R69). -/
def State.claimSlot (s : State) (h : Option SlotIx) (claim : Option PortIx) : State :=
  match h with
  | none => s
  | some h => s.modSlot h fun x => { x with claim := claim }

/-! ### Opening (R71, R73) -/

/-- The session as it opens (R69, R71, R73): the fields cleared, WAITING, the window deadline started. -/
def Session.opened (h : Option SlotIx) (due : Nat) : Session :=
  ⟨.waiting, h, none, none, 0, some due, none, none⟩

/-- Open the session of port `p`, now in state `old`, for `h` with a window of `ms` (R71, R73). -/
def State.openSession (s : State) (p : PortIx) (old : SessionState) (h : Option SlotIx) (ms : Nat) : State :=
  (s.claimSlot h (some p)).showSession p old (Session.opened h (s.after ms))

/-! ### Ending (R81, R86) -/

/-- Steps 1 to 4 of R81 for the session `x` of port `p`: no waiting, no sequence, no reservation, no claim. An ASSIGN
result still owed to it will be discarded (R82). -/
def State.releaseSession (s : State) (p : PortIx) (x : Session) : State :=
  let s1 := (s.removeSequence p).abandonWindows p
  let s2 := match x.address with
    | none => s1
    | some a => if x.state.holdsCar then s1.release a else s1
  s2.claimSlot x.slot none

/-- The session of port `p` fails with a reason (R81). -/
def State.failSession (s : State) (p : PortIx) (x : Session) (why : SessionOutcome) : State :=
  ((s.releaseSession p x).showSession p x.state
    { x with state := .showFailed, windowDue := none, outcome := some why, showDue := some (s.after 2000) }).notifyPort
    .pairFailed p

/-- A session closed without a show (R86, R87). -/
def Session.closed (x : Session) : Session :=
  { x with state := .closed, windowDue := none, showDue := none
           outcome := if x.state.isOpen then some .aborted else x.outcome }

/-- A role change aborts the session of port `p` (R86): no lamp is asked for. -/
def State.abortSession (s : State) (p : PortIx) : State :=
  match s.session p with
  | none => s
  | some x =>
    if x.state.isOpen then
      ((s.releaseSession p x).setSession p (some x.closed)).notifyPort .pairFailed p
    else s.setSession p (some x.closed)

/-! ### Lookup and reservation (R76, R77) -/

/-- Whether another session that is QUEUED or SENDING holds identity `id` (R76 check 1). -/
def State.identityInUse (s : State) (p : PortIx) (id : Identity) : Bool :=
  (List.finRange 16).any fun q =>
    decide (q ≠ p) && (s.session q).any fun x => x.state.holdsCar && decide (x.identity = some id)

/-- The session `x` of port `p` takes car `a` (R77). -/
def State.reserveFor (s : State) (p : PortIx) (x : Session) (a : CarIx) : State :=
  ((s.reserve a p).setSession p (some { x with address := some a, windowDue := none })).enqueue p

/-- The lookup of a session that holds both slot and identity (R76). -/
def State.lookup (s : State) (p : PortIx) (x : Session) (id : Identity) : State :=
  if s.identityInUse p id then s.failSession p x .inUse
  else
    match s.carWithIdentity id with
    | some a => if (s.car a).reservation.isSome then s.failSession p x .inUse else s.reserveFor p x a
    | none =>
      match s.lowestFree with
      | none => s.failSession p x .noAddress
      | some a => s.reserveFor p x a

/-- Write the session of port `p`, and go on to the lookup when it holds both slot and identity (R73, R75). -/
def State.fillSession (s : State) (p : PortIx) (x : Session) : State :=
  let s1 := s.setSession p (some x)
  match x.slot, x.identity with
  | some _, some id => s1.lookup p x id
  | _, _ => s1

/-- An IDENTITY handed to the engine (R75). -/
def State.takeIdentity (s : State) (p : PortIx) (id : Identity) : State :=
  match s.session p with
  | none => s
  | some x =>
    if x.state = .waiting ∧ id ≠ 0 ∧ id ≠ BitVec.allOnes 64 then s.fillSession p { x with identity := some id } else s

/-! ### The gesture (R73) -/

/-- Whether the session of a port is WAITING with no slot (R73 step 2). -/
def Session.wantsSlot (x : Session) : Bool := decide (x.state = .waiting) && x.slot.isNone

/-- The lowest-numbered BAY port whose session is WAITING with no slot (R73 step 2). -/
def State.waitingBay (s : State) : Option PortIx :=
  (List.finRange 16).find? fun p => (s.baySession p).any Session.wantsSlot

/-- Step 2 of R73: the slot joins the session `x` of port `p`. -/
def State.joinSession (s : State) (p : PortIx) (h : SlotIx) : State :=
  match s.session p with
  | none => s
  | some x => (s.claimSlot (some h) (some p)).fillSession p { x with slot := some h }

/-- Step 3 of R73: the default bay opens, if it names a BAY port whose session is not open. -/
def State.openDefault (s : State) (h : SlotIx) : State :=
  match s.defaultBay with
  | none => s
  | some p =>
    match s.baySession p with
    | none => s
    | some x => if x.state.isOpen then s else s.openSession p x.state (some h) 30000

/-- A pair gesture of slot `h` (R73). -/
def State.gesture (s : State) (h : SlotIx) : State :=
  if (s.slot h).claim.isSome then s
  else
    match s.waitingBay with
    | some p => s.joinSession p h
    | none => s.openDefault h

/-- Judge the pair flag of a DRIVE frame from slot `h` (R35): an edge is a gesture. -/
def State.pairEdge (s : State) (h : SlotIx) (pair : Bool) : State :=
  if pair = true ∧ (s.slot h).lastPair = false then s.gesture h else s

/-! ### The answer (R79, R80, R82) -/

/-- An ANSWER handed to the session `x` of port `p` in SENDING (R79). -/
def State.commitSession (s : State) (p : PortIx) (x : Session) (h : SlotIx) (a : CarIx) (id : Identity) : State :=
  ((((s.commit h a id).claimSlot (some h) none).showSession p x.state
    { x with state := .showDone, outcome := some .done, showDue := some (s.after 2000) }).notifyCar .pairDone a)

/-- A SILENT handed to the session `x` of port `p` in SENDING (R80). -/
def State.silentAttempt (s : State) (p : PortIx) (x : Session) : State :=
  let x1 := { x with attempts := x.attempts + 1 }
  if x1.attempts < 3 then (s.setSession p (some x1)).enqueue p else s.failSession p x1 .noAnswer

/-- An ASSIGN result handed to the session of port `p` (R17): discarded unless it is SENDING (R82). -/
def State.assignResult (s : State) (p : PortIx) (answered : Bool) : State :=
  match s.session p with
  | none => s
  | some x =>
    if x.state = .sending then
      if answered then
        match x.slot, x.address, x.identity with
        | some h, some a, some id => s.commitSession p x h a id
        | _, _, _ => s
      else s.silentAttempt p x
    else s

end Sys2Proof.Machine
end

