-- ==== Sys2Proof/Machine/Shaper.lean ====
section
/-! DEFINITION. The Throttle Shaper (chapter 3): the five stages from a DRIVE frame to a speed step. -/

namespace Sys2Proof.Machine

/-- The entry that names car `a`, in any zone (R116, R131). -/
def State.entryOf (s : State) (a : CarIx) : Option Entry :=
  (List.finRange 8).findSome? fun z => (s.zone z).entries.find? fun e => decide (e.car = some a)

/-- The cross cap of car `a` (R51, R131): that of the section of its entry's port, read now. -/
def State.crossCap (s : State) (a : CarIx) : Option Nat := (s.entryOf a).map fun e => (s.port e.port).config.cap

/-- Stage 1, hard zero (R48). -/
def State.hardZero (s : State) (a : CarIx) : Bool :=
  decide ((s.car a).link = .lost) || (s.car a).reservation.isSome
    || decide (s.part = .startup) || decide (s.part = .waking) || decide (s.part = .halt)
    || decide (s.race = .grid) || decide (s.race = .stop)

/-- The segment of a raw throttle (R49). -/
def curveSegment (t : Nat) : Fin 8 := ⟨min (t / 8) 7, by omega⟩

/-- Stage 2, the curve value (R49): the point on the line, an exact half rounded upward, floor toward minus infinity. -/
def curveValue (points : Vector Nat 9) (t : Nat) : Int :=
  let i := curveSegment t
  let k : Int := (t : Int) - 8 * i.val
  let w : Int := if i.val = 7 then 7 else 8
  let p : Int := points[i.val]
  let d : Int := (points[i.val + 1] : Int) - p
  p + Int.fdiv (2 * d * k + w) (2 * w)

/-- The ceiling Q of stage 3 (R50): the least of the limit, the cross cap when present, and the caution cap under
CAUTION. -/
def State.ceiling (s : State) (a : CarIx) : Nat :=
  let q := match s.crossCap a with
    | none => (s.car a).limit
    | some c => min (s.car a).limit c
  if s.race = .caution then min q s.cautionCap else q

/-- The target T of stage 3 (R50). -/
def State.target (s : State) (a : CarIx) (throttle : Nat) (brake : Bool) : Nat :=
  min (if brake then 0 else (curveValue s.curves[(s.car a).curve] throttle).toNat) (s.ceiling a)

/-- Stage 4, slew (R52): from the target, the fine speed, the up and down values and the ceiling. -/
def slew (t s up down q : Nat) (brake : Bool) : Nat :=
  min (if brake then 0 else if s ≤ t then min t (s + up) else max t (s - down)) q

/-- Stage 5, the speed step of a fine speed (R53). -/
def speedStep (fine : Nat) : Nat := min 15 ((fine + 8) / 16)

/-- The new fine speed of a shaped DRIVE frame (R47, R48, R52). -/
def State.shapedFine (s : State) (a : CarIx) (throttle : Nat) (brake : Bool) : Nat :=
  if s.hardZero a then 0
  else slew (s.target a throttle brake) (s.car a).fine (s.car a).up (s.car a).down (s.ceiling a) brake

/-- Shape a DRIVE frame for car `a` (R47): the new fine speed is written into the car record. -/
def State.shape (s : State) (a : CarIx) (throttle : Nat) (brake : Bool) : State :=
  s.modCar a fun c => { c with fine := s.shapedFine a throttle brake }

/-- The CAR frame of a shaped DRIVE frame (R7, R55): under hard zero step 0 and brake 1; the lamp is the latch. -/
def State.carFrame (s : State) (a : CarIx) (throttle : Nat) (brake : Bool) : RailFrame :=
  .car a (if s.hardZero a then 0 else speedStep (s.shapedFine a throttle brake)) (brake || s.hardZero a)
    (s.car a).armed

/-- Every fine speed 0 (R46). -/
def State.zeroFine (s : State) : State := s.mapCars fun _ c => { c with fine := 0 }

end Sys2Proof.Machine
end

