-- ==== Sys2Proof/Machine/RunControl.lean ====
section
/-! DEFINITION. Run Control (chapter 8): the race record, HALT, rest and wake, and the resets. -/

namespace Sys2Proof.Machine

/-- The silence deadline started or restarted at the silence timeout (R142). -/
def State.startSilence (s : State) : State := { s with silenceDue := some (s.after s.silenceTimeout) }

/-- The part enters RUN, and the silence deadline starts (R142). -/
def State.enterRun (s : State) : State := State.startSilence { s with part := .run }

/-- The race record written from a valid CYCLE frame (R140): unless it then reads GREEN with lane changes enabled, every
latch is cleared. -/
def State.writeRace (s : State) (race : RaceState) (laneEnable : Bool) : State :=
  let s1 := { s with race := race, laneEnable := laneEnable }
  if s1.laneOpen then s1 else s1.disarmAll

/-- Entry to HALT (R143, R144): latches cleared, fine speeds 0, SILENCE set, the first own CYCLE frame due at once and
the next 20 ms later. -/
def State.enterHalt (s : State) : State :=
  let s1 := (s.disarmAll.zeroFine).notify .silence
  State.fallDue { s1 with part := .halt, silenceDue := none, ownCycleDue := some (s.after 20) } (.frame ownCycle)

/-! ### Ports at rest, wake and soft reset (R109, R110) -/

/-- A port at entry to REST (R109). -/
def Port.rest (q : Port) : Port :=
  if q.state = .off then q
  else { (Port.issue { q with waiting := [] } (.power false)).clearMotion with
    resetDue := none, state := .dormant, lateMotion := false, roleTaken := none }

/-- A port at the wake, its reset deadline to expire at tick `due` (R109). -/
def Port.wake (due : Nat) (q : Port) : Port :=
  if q.state = .dormant then { q.issue (.power true) with state := .resetting, resetDue := some due } else q

/-- Counts that a soft reset clears, at an OFF port too (R22, R99, R110). -/
def Port.clearCounts (q : Port) : Port := { q with counters := Counters.zero, lastDecision := none, errors := 0 }

/-- MODULE_RESET issued and the reset deadline started to expire at tick `due` (R95, R110). -/
def Port.resetModule (q : Port) (due : Nat) : Port :=
  { q.issue .moduleReset with state := .resetting, resetDue := some due }

/-- POWER(ON) for a DORMANT port (R110 step 2). -/
def Port.powerIfDormant (q : Port) : Port := if q.state = .dormant then q.issue (.power true) else q

/-- Whether the flap of a SWITCH port moves, which forbids REST (R145). -/
def Port.flapMoving (q : Port) : Bool :=
  decide (q.role = .switch) && (decide (q.state = .throwing) || decide (q.state = .returning))

/-- A port at a soft reset (R110). A motion that it cuts off may still be reported (log entry 36). -/
def Port.softReset (q : Port) (due : Nat) : Port :=
  if q.state = .off then q.clearCounts
  else
    { (Port.resetModule (Port.powerIfDormant { q with waiting := [] }) due).clearMotion.clearCounts with
      faultCode := none, lateMotion := q.lateMotion || q.flapMoving }

/-! ### Rest and wake (R145, R147) -/

/-- Whether a REST request is accepted (R145). -/
def State.canRest (s : State) : Bool :=
  decide (s.part = .run) && ((List.finRange 16).all fun p => !(s.port p).flapMoving)
    && ((List.finRange 8).all fun z => (s.zone z).entries.isEmpty)
    && ((List.finRange 16).all fun p => (s.session p).all fun x => decide (x.state = .closed))

/-- Entry to REST (R145): the deadline stops, the ports go DORMANT, fine speeds 0, the waiting line is discarded. -/
def State.enterRest (s : State) : State :=
  let s1 := (s.mapPorts Port.rest).zeroFine
  { s1 with part := .rest, silenceDue := none, waitingLine := [] }

/-- The wake begins (R147): steps 2 and 3. -/
def State.beginWake (s : State) : State :=
  let s1 := s.mapPorts (Port.wake (s.after 100))
  { s1 with part := .waking, wakeDue := some (s.after 20) }

/-- What Run Control does with a valid CYCLE frame besides the race record (R142, R144, R147). -/
def State.cycleRun (s : State) : State :=
  match s.part with
  | .run => s.startSilence
  | .halt => State.enterRun { s with ownCycleDue := none }
  | .rest => s.beginWake
  | .startup | .waking => s

/-! ### Resets (R148 to R150) -/

/-- The internal reset is asserted (R148): what leaves is cut off, an open window gives no result; the cause record
becomes `cause` (R149). -/
def State.holdReset (s : State) (cause : Cause) : State :=
  let s1 := s.mapPorts fun q => { q with leaving := none, moduleSending := false }
  { s1 with resetHeld := true, cause := cause, railOut := none, window := none, closing := [],
            returnWindow := [], rxBits := [] }

/-- The release of the internal reset (R148): every block at its hard-reset values, the strap sampled. -/
def State.releaseReset (s : State) (strapHigh : Bool) : State :=
  { State.hardReset strapHigh s.cause s.pending with free := s.free }

/-- An answer window at a soft reset, which ends every session: an ASSIGN result will be discarded (R82, R87). -/
def AnswerWindow.cut : AnswerWindow → AnswerWindow
  | .assign p => .abandoned p
  | .car a => .car a
  | .abandoned p => .abandoned p

/-- A car record at a soft reset (R43, R64). -/
def Car.softReset (c : Car) : Car := { c.linkReset with reservation := none, armed := false, fine := 0 }

/-- A zone record at a soft reset (R134). -/
def Zone.softReset (z : Zone) : Zone := { z with entries := [], guard := none, conflict := false }

/-- The tables at a soft reset (R43, R64, R87, R110, R134). -/
def State.softResetTables (s : State) : State :=
  { s with slots := Vector.ofFn fun h => { s.slot h with claim := none }
           cars := Vector.ofFn fun a => (s.car a).softReset
           sessions := Vector.ofFn fun p => (s.session p).map Session.closed
           ports := Vector.ofFn fun p => (s.port p).softReset (s.after 100)
           zones := Vector.ofFn fun z => (s.zone z).softReset }

/-- The soft reset (R150), without its reply: the queue of replies is left empty. -/
def State.softReset (s : State) : State :=
  { s.softResetTables with
    insertionQueue := [], queueWaiting := [], waitingLine := []
    window := s.window.map AnswerWindow.cut, closing := s.closing.map AnswerWindow.cut
    part := .startup, race := .stop, laneEnable := false
    startupDue := some (s.after 200), wakeDue := none, silenceDue := none, ownCycleDue := none
    cause := { s.cause with soft := true }
    assembly := none, replies := [], notices := 0, lastCar := none, lastPort := none
    frameErrors := 0, kindErrors := 0, dropped := 0 }

end Sys2Proof.Machine
end

