-- ==== Sys2Proof/Machine/Management.lean ====
section
/-! DEFINITION. The Management Unit (chapter 9): the reply queue and what each request does and replies. -/

namespace Sys2Proof.Machine

/-- What a request makes of a state: the next state, the status and the data words of its reply. -/
abbrev Answer := State × Status × List Word16

/-- A refusal changes nothing and carries no data (R156). -/
def refuse (s : State) (status : Status) : Answer := (s, status, [])

/-- An accepted request. -/
def accept (s : State) (words : List Word16) : Answer := (s, .ok, words)

/-! ### The reply queue (R153 to R155) -/

/-- A request dropped at a full reply queue (R153 check 1). -/
def State.dropRequest (s : State) : State :=
  State.notify { s with dropped := raise16 s.dropped } .requestDropped

/-- A reply joins the queue at the tail (R155). -/
def State.queueReply (s : State) (r : Reply) : State := { s with replies := s.replies ++ [r] }

/-- A request of a defined code and the right count completes (R153 checks 1 and 4). -/
def State.respond (s : State) (code : BitVec 6) (f : State → Answer) : State :=
  if 4 ≤ s.replies.length then s.dropRequest
  else (f s).1.queueReply ⟨code, (f s).2.1, (f s).2.2⟩

/-- A partial request is interrupted (R154): discarded, and answered MALFORMED or dropped at a full queue. -/
def State.interrupt (s : State) : State :=
  match s.assembly with
  | none => s
  | some r =>
    if 4 ≤ s.replies.length then State.dropRequest { s with assembly := none }
    else State.queueReply { s with assembly := none } ⟨r.code, .malformed, []⟩

/-- The choice of the return window at a CYCLE frame (R18, R19): the oldest reply, which leaves the queue, or else one
ATTENTION frame. -/
def State.openWindow (s : State) : State :=
  match s.replies with
  | [] => { s with returnWindow := [.attention s.notices] }
  | r :: rest => { s with returnWindow := r.frames, replies := rest }

/-! ### Reading the part (R158, R169) -/

/-- The identity data of IDENT (R158). -/
def State.identWords (s : State) : List Word16 :=
  [0x2E71, 0x0624, 0x0011, word16 [⟨1, 1, s.directFallback.toNat⟩, ⟨0, 0, s.strap.toNat⟩]]

/-- IDENT (R158). -/
def reqIdent (s : State) : Answer := accept s s.identWords

/-- R-D1 of STATUS (R158). -/
def State.statusWord (s : State) : Word16 :=
  word16 [⟨15, 13, s.part.code⟩, ⟨12, 11, (RaceState.bits s.race).toNat⟩, ⟨10, 10, s.laneEnable.toNat⟩,
    ⟨9, 9, s.directFallback.toNat⟩, ⟨8, 7, s.insertionQueue.length⟩, ⟨6, 4, s.replies.length⟩]

/-- The words of STATUS (R158). -/
def State.statusWords (s : State) : List Word16 :=
  [s.statusWord, wordOf s.frameErrors, wordOf s.kindErrors, wordOf s.dropped]

/-- STATUS (R158). -/
def reqStatus (clearCounters : Bool) (s : State) : Answer :=
  accept (if clearCounters then { s with frameErrors := 0, kindErrors := 0, dropped := 0 } else s) s.statusWords

/-- The words of NOTICES (R169). With no port noted its port field reads 0 (log entry 32). -/
def State.noticeWords (s : State) : List Word16 :=
  [s.notices ++ (0 : BitVec 4),
   word16 [⟨15, 11, (s.lastCar.map addressOf).getD 0⟩, ⟨4, 4, s.lastPort.isSome.toNat⟩,
     ⟨3, 0, (s.lastPort.map Fin.val).getD 0⟩]]

/-- NOTICES (R169). -/
def reqNotices (s : State) : Answer := accept s.clearNotices s.noticeWords

/-- CAUSE (R149, R158). -/
def reqCause (s : State) : Answer := accept { s with cause := Cause.cleared } [word16 [⟨3, 0, s.cause.bits⟩]]

/-! ### Ports and sections (R95, R98, R105, R106, R159 to R161) -/

/-- How many ports hold the BAY role (R92). -/
def State.bayCount (s : State) : Nat := (List.finRange 16).countP fun p => decide ((s.port p).role = .bay)

/-- The port record at step 3 of R95: the section's run-time state cleared. -/
def Port.clearRun (q : Port) : Port :=
  { q.clearMotion with counters := Counters.zero, lastDecision := none, masked := false, faultCode := none }

/-- What PORT_ROLE, taken at tick `now`, keeps of a SWITCH role for reports that come late in RESETTING (R95, R111; log entry 36):
a motion not yet reported to its end, and that the role was taken at this tick. An OFF port hears none. -/
def Port.keepLate (q : Port) (role : Role) (now : Nat) : Port :=
  if role = .unused then { q with lateMotion := false, roleTaken := none }
  else { q with
    lateMotion := q.lateMotion || q.flapMoving, roleTaken := if q.role = .switch then some now else q.roleTaken }

/-- The port record at step 4 of R95 with the role written, the reset deadline to expire at tick `due`. -/
def Port.takeRole (q : Port) (role : Role) (due : Nat) : Port :=
  let q1 := { q with role := role, waiting := [] }
  if role = .unused then { q1 with state := .off, resetDue := none } else q1.resetModule due

/-- The session of a port whose role is written (R69, R86). -/
def sessionForRole (role : Role) (x : Option Session) : Option Session :=
  if role = .bay then some (x.getD Session.fresh) else none

/-- PORT_ROLE once accepted (R95). -/
def State.writeRole (s : State) (p : PortIx) (role : Role) : State :=
  let s1 := (s.abandon p).abortSession p
  let s2 := s1.modPort p fun q => (q.keepLate role s.now).clearRun.takeRole role (s.after 100)
  s2.setSession p (sessionForRole role (s1.session p))

/-- PORT_ROLE (R95, R159). -/
def reqPortRole (port : BitVec 8) (role : BitVec 4) (s : State) : Answer :=
  match portOf port.toNat, roleOf role.toNat with
  | some p, some r =>
    if s.part = .rest then refuse s .asleep
    else if r = .bay ∧ (s.port p).role ≠ .bay ∧ 4 ≤ s.bayCount then refuse s .full
    else accept (s.writeRole p r) []
  | _, _ => refuse s .badArg

/-- PORT_MASK (R106, R159). -/
def reqPortMask (port : BitVec 8) (masked : Bool) (s : State) : Answer :=
  match portOf port.toNat with
  | none => refuse s .badArg
  | some p =>
    if (s.port p).role ≠ .switch then refuse s .wrongRole
    else accept (s.modPort p fun q => { q with masked := masked }) []

/-- The three words of a section's stored values (R160). -/
def SectionConfig.words (c : SectionConfig) : List Word16 :=
  [bytes c.cap (c.hold / 20), bytes (c.guardTime / 10) c.flapTimeout, wordOf c.threshold]

/-- The configuration that SECTION_WRITE stores (R98, R160): times scaled, then clamped. -/
def sectionConfig (zone : ZoneIx) (cap hold guardTime flap : BitVec 8) (threshold : Word16) : SectionConfig :=
  ⟨zone, cap.toNat, clamp 100 5000 (hold.toNat * 20), clamp 0 2000 (guardTime.toNat * 10), clamp 10 250 flap.toNat,
   threshold.toNat⟩

/-- SECTION_WRITE once accepted (R98, R99). -/
def Port.writeSection (c : SectionConfig) (q : Port) : Port :=
  { q with config := c, throws := 0, counters := Counters.zero, lastDecision := none }

/-- SECTION_WRITE (R98, R160). -/
def reqSectionWrite (port zone : BitVec 4) (cap hold guardTime flap : BitVec 8) (threshold : Word16) (s : State) :
    Answer :=
  match portOf port.toNat, zoneOf zone.toNat with
  | some p, some z =>
    let c := sectionConfig z cap hold guardTime flap threshold
    if z ≠ s.zoneOfPort p ∧ s.portHolds p then refuse s .busy
    else accept (s.modPort p (Port.writeSection c)) c.words
  | _, _ => refuse s .badArg

/-- The words of SECTION_READ (R160). -/
def Port.readWords (q : Port) : List Word16 :=
  word16 [⟨15, 14, q.role.code⟩, ⟨13, 13, q.masked.toNat⟩, ⟨12, 9, q.state.code⟩, ⟨8, 7, kindCode q.kind⟩,
    ⟨2, 0, q.config.zone.val⟩] :: q.config.words

/-- SECTION_READ (R160). -/
def reqSectionRead (port : BitVec 8) (s : State) : Answer :=
  match portOf port.toNat with
  | none => refuse s .badArg
  | some p => accept s (s.port p).readWords

/-- The words of the last decision in page 2 (R161): absent reads as outcome 0, code 0, reason 0. -/
def decisionFields (d : Option Decision) : List Field :=
  match d with
  | none => []
  | some d => [⟨15, 11, d.code.toNat⟩, ⟨10, 9, d.verdict.code⟩, ⟨8, 5, d.verdict.reasonCode⟩]

/-- One page of a port's counts (R161). -/
def Port.countWords (q : Port) (page : BitVec 2) : List Word16 :=
  if page = 0 then [wordOf q.throws, wordOf q.counters.grant, wordOf q.counters.deny, wordOf q.counters.completed]
  else if page = 1 then
    [wordOf q.counters.missed, wordOf q.counters.expired, wordOf q.counters.swept, wordOf q.counters.presumed]
  else
    [word16 (decisionFields q.lastDecision ++ [⟨0, 0, q.faultCode.isSome.toNat⟩]),
     bytes q.errors ((q.faultCode.map BitVec.toNat).getD 0)]

/-- SECTION_COUNTS (R161). -/
def reqSectionCounts (port : BitVec 8) (page : BitVec 2) (clearErrors : Bool) (s : State) : Answer :=
  match portOf port.toNat with
  | none => refuse s .badArg
  | some p =>
    if page = 3 then refuse s .badArg
    else
      accept (if clearErrors then s.modPort p fun q => { q with errors := 0 } else s) ((s.port p).countWords page)

/-- A port at SECTION_CLEAR (R105). -/
def Port.clearSection (q : Port) : Port :=
  let q1 := { q with counters := Counters.zero, lastDecision := none }
  if q.role = .switch ∧ q.state = .fault then { q1.startReturn with faultCode := none } else q1

/-- SECTION_CLEAR (R105, R159). -/
def reqSectionClear (port : BitVec 8) (s : State) : Answer :=
  match portOf port.toNat with
  | none => refuse s .badArg
  | some p =>
    if s.part = .rest then refuse s .asleep
    else if (s.port p).role = .unused ∨ (s.port p).role = .bay then refuse s .wrongRole
    else accept (s.modPort p Port.clearSection) []

/-- ZONE_WRITE (R114, R162). -/
def reqZoneWrite (zone capacity : BitVec 8) (s : State) : Answer :=
  match zoneOf zone.toNat with
  | none => refuse s .badArg
  | some z =>
    let n := clamp 1 3 capacity.toNat
    accept (s.modZone z fun x => { x with capacity := n }) [word16 [⟨1, 0, n⟩]]

/-- Page 0 of ZONE_READ (R162). With no owner or no guard, the owner port and the guard's car code read 0 (log entry 32). -/
def State.zoneWords (s : State) (x : Zone) : List Word16 :=
  [word16 [⟨15, 14, x.capacity⟩, ⟨13, 13, x.conflict.toNat⟩, ⟨12, 11, x.entries.length⟩,
     ⟨10, 10, x.owner.isSome.toNat⟩, ⟨9, 6, (x.owner.map Fin.val).getD 0⟩, ⟨5, 5, x.guard.isSome.toNat⟩,
     ⟨4, 0, (x.guard.map fun g => g.code.toNat).getD 0⟩],
   wordOf ((x.guard.map fun g => g.due - s.now).getD 0)]

/-- Pages 1 to 3 of ZONE_READ (R162): one entry. With none at the place, its car and port read 0 (log entry 32). -/
def State.entryWords (s : State) (e : Option Entry) : List Word16 :=
  match e with
  | none => [0, 0]
  | some e => [word16 [⟨15, 15, 1⟩, ⟨14, 10, (e.car.map addressOf).getD 0⟩, ⟨3, 0, e.port.val⟩], wordOf (e.due - s.now)]

/-- ZONE_READ (R114, R162). -/
def reqZoneRead (zone : BitVec 8) (page : BitVec 2) (s : State) : Answer :=
  match zoneOf zone.toNat with
  | none => refuse s .badArg
  | some z =>
    if page = 0 then accept s (s.zoneWords (s.zone z))
    else accept s (s.entryWords (s.zone z).entries[page.toNat - 1]?)

/-! ### Curves, cars and bindings (R25, R37 to R39, R44, R62, R163 to R165) -/

/-- Write one point of one curve (R44). -/
def State.writePoint (s : State) (c : Fin 4) (k : Fin 9) (v : Nat) : State :=
  { s with curves := s.curves.set c (s.curves[c].set k v) }

/-- The curve a number names. -/
def curveOf (n : Nat) : Option (Fin 4) := if h : n < 4 then some ⟨n, h⟩ else none

/-- The point a number names. -/
def pointOf (n : Nat) : Option (Fin 9) := if h : n < 9 then some ⟨n, h⟩ else none

/-- CURVE_WRITE (R44, R163). -/
def reqCurveWrite (curve point : BitVec 4) (value : BitVec 8) (s : State) : Answer :=
  match curveOf curve.toNat, pointOf point.toNat with
  | some c, some k => accept (s.writePoint c k value.toNat) []
  | _, _ => refuse s .badArg

/-- The words of one half of a curve (R163). Beside P8 its byte is 0 (log entry 33). -/
def halfWords (v : Vector Nat 9) (half : Nat) : List Word16 :=
  if half = 0 then [bytes v[0] v[1], bytes v[2] v[3], bytes v[4] v[5], bytes v[6] v[7]] else [bytes 0 v[8]]

/-- CURVE_READ (R44, R163). -/
def reqCurveRead (curve half : BitVec 4) (s : State) : Answer :=
  match curveOf curve.toNat with
  | none => refuse s .badArg
  | some c => if 2 ≤ half.toNat then refuse s .badArg else accept s (halfWords s.curves[c] half.toNat)

/-- The words of CAR_WRITE's echo (R164). -/
def Car.paramWords (c : Car) : List Word16 := [word16 [⟨15, 8, c.limit⟩, ⟨3, 0, c.curve.val⟩], bytes c.up c.down]

/-- The parameters that CAR_WRITE stores (R25, R164): an up or down of 0 is stored as 1. -/
def Car.setParams (limit : Nat) (curve : Fin 4) (up down : Nat) (c : Car) : Car :=
  { c with limit := limit, curve := curve, up := max 1 up, down := max 1 down }

/-- CAR_WRITE (R25, R164). -/
def reqCarWrite (addr limit : BitVec 8) (curve : BitVec 4) (up down : BitVec 8) (s : State) : Answer :=
  match carOf addr.toNat, curveOf curve.toNat with
  | some a, some k =>
    let s1 := s.modCar a (Car.setParams limit.toNat k up.toNat down.toNat)
    accept s1 (s1.car a).paramWords
  | _, _ => refuse s .badArg

/-- The words of CAR_READ (R164). With no holder or no reservation, its slot or port reads 0 (log entry 32). -/
def Car.readWords (c : Car) : List Word16 :=
  [word16 [⟨15, 14, c.tenure.code⟩, ⟨13, 13, c.holder.isSome.toNat⟩, ⟨12, 8, (c.holder.map Fin.val).getD 0⟩,
     ⟨7, 7, c.reservation.isSome.toNat⟩, ⟨6, 3, (c.reservation.map Fin.val).getD 0⟩, ⟨2, 2, c.armed.toNat⟩,
     ⟨1, 0, c.curve.val⟩],
   bytes c.limit c.fine, bytes c.up c.down,
   word16 [⟨15, 14, c.link.code⟩, ⟨12, 8, c.streak⟩, ⟨7, 0, c.faults⟩]]

/-- CAR_READ (R25, R68, R164). -/
def reqCarRead (addr : BitVec 8) (s : State) : Answer :=
  match carOf addr.toNat with
  | none => refuse s .badArg
  | some a => accept s (s.car a).readWords

/-- CAR_IDENTITY (R25, R164). -/
def reqCarIdentity (addr : BitVec 8) (s : State) : Answer :=
  match carOf addr.toNat with
  | none => refuse s .badArg
  | some a =>
    match (s.car a).identity with
    | none => refuse s .notFound
    | some id => accept s (identityWords id)

/-- BIND (R37, R165). -/
def reqBind (slot addr : BitVec 8) (s : State) : Answer :=
  match slotOf slot.toNat, carOf addr.toNat with
  | some h, some a =>
    if (s.car a).reservation.isSome then refuse s .busy else accept (s.bindCar h a) []
  | _, _ => refuse s .badArg

/-- UNBIND (R38, R165). -/
def reqUnbind (slot : BitVec 8) (s : State) : Answer :=
  match slotOf slot.toNat with
  | none => refuse s .badArg
  | some h => if (s.slot h).binding.isNone then refuse s .notFound else accept (s.unbindSlot h) []

/-- FORGET (R39, R165). -/
def reqForget (addr : BitVec 8) (s : State) : Answer :=
  match carOf addr.toNat with
  | none => refuse s .badArg
  | some a =>
    if (s.car a).reservation.isSome ∨ s.crossing a then refuse s .busy else accept (s.forgetCar a) []

/-- REVIVE (R62, R165). -/
def reqRevive (addr : BitVec 8) (s : State) : Answer :=
  match carOf addr.toNat with
  | none => refuse s .badArg
  | some a => accept (s.modCar a Car.linkReset) []

/-! ### Pairing (R71, R85, R88, R166) -/

/-- The slot field of PAIR_OPEN (R166): ANY, a slot, or out of range. -/
def pairSlot (n : Nat) : Option (Option SlotIx) := if n = 255 then some none else (slotOf n).map some

/-- PAIR_OPEN (R71, R166). -/
def reqPairOpen (port slot window : BitVec 8) (s : State) : Answer :=
  match portOf port.toNat, pairSlot slot.toNat with
  | some p, some h =>
    if s.part = .rest then refuse s .asleep
    else
      match s.baySession p with
      | none => refuse s .wrongRole
      | some x =>
        if x.state.isOpen then refuse s .busy
        else if h.any fun h => (s.slot h).claim.isSome then refuse s .busy
        else
          let n := clamp 5 120 window.toNat
          accept (s.openSession p x.state h (n * 1000)) [word16 [⟨7, 0, n⟩]]
  | _, _ => refuse s .badArg

/-- PAIR_CANCEL (R85, R166). The model's choice where a completing event comes together with it (log entry 35): each of the two
acts by its own rule in the order taken (R73, R76, R85), also in the cases in which R91's one outcome does not come of that. -/
def reqPairCancel (port : BitVec 8) (s : State) : Answer :=
  match portOf port.toNat with
  | none => refuse s .badArg
  | some p =>
    match s.baySession p with
    | none => refuse s .wrongRole
    | some x => if x.state.isOpen then accept (s.failSession p x .cancelled) [] else refuse s .notFound

/-- Page 0 of PAIR_READ (R166). With no slot held its slot field reads 0 (log entry 32). -/
def Session.readWords (x : Session) : List Word16 :=
  [word16 [⟨15, 13, x.state.code⟩, ⟨12, 10, outcomeCode x.outcome⟩, ⟨9, 8, x.attempts⟩,
     ⟨7, 7, x.identity.isSome.toNat⟩, ⟨6, 6, x.slot.isSome.toNat⟩, ⟨4, 0, (x.slot.map Fin.val).getD 0⟩],
   word16 [⟨4, 0, (x.address.map addressOf).getD 0⟩]]

/-- PAIR_READ (R88, R166). -/
def reqPairRead (port : BitVec 8) (page : BitVec 2) (s : State) : Answer :=
  match portOf port.toNat with
  | none => refuse s .badArg
  | some p =>
    if 2 ≤ page.toNat then refuse s .badArg
    else
      match s.baySession p with
      | none => refuse s .wrongRole
      | some x =>
        if page = 0 then accept s x.readWords
        else
          match x.identity with
          | none => refuse s .notFound
          | some id => accept s (identityWords id)

/-! ### Limits, mode and the part state (R45, R72, R142, R145, R147, R150, R163, R167) -/

/-- The word of LIMITS (R163): the caution cap and the silence timeout in units of 10 ms. -/
def State.limitWords (s : State) : List Word16 := [bytes s.cautionCap (s.silenceTimeout / 10)]

/-- LIMITS (R45, R142, R163). -/
def reqLimits (writeCap writeTimeout : Bool) (cap timeout : BitVec 8) (s : State) : Answer :=
  let s1 := { s with cautionCap := if writeCap then cap.toNat else s.cautionCap
                     silenceTimeout := if writeTimeout then clamp 5 100 timeout.toNat * 10 else s.silenceTimeout }
  accept s1 s1.limitWords

/-- The word of MODE (R167). -/
def State.modeWords (s : State) : List Word16 :=
  [word16 [⟨15, 15, s.directFallback.toNat⟩, ⟨7, 0, (s.defaultBay.map Fin.val).getD 255⟩]]

/-- The default bay setting that a value writes (R72, R167): 0..15 a port, 255 absent, others out of range. -/
def baySetting (n : Nat) : Option (Option PortIx) := if n = 255 then some none else (portOf n).map some

/-- The writes of an accepted MODE (R29, R72, R167). -/
def State.writeMode (s : State) (writeFallback writeBay fallback : Bool) (bay : Option PortIx) : State :=
  let s1 := if writeFallback then s.setFallback fallback else s
  if writeBay then { s1 with defaultBay := bay } else s1

/-- MODE (R28, R29, R72, R167). -/
def reqMode (writeFallback writeBay fallback : Bool) (bay : BitVec 8) (s : State) : Answer :=
  if writeBay ∧ (baySetting bay.toNat).isNone then refuse s .badArg
  else if writeFallback ∧ fallback = false ∧ s.strap then refuse s .fixed
  else
    let s1 := s.writeMode writeFallback writeBay fallback ((baySetting bay.toNat).getD none)
    accept s1 s1.modeWords

/-- REST (R145, R167): its reply carries the identity data, accepted or refused. -/
def reqRest (s : State) : Answer := if s.canRest then (s.enterRest, .ok, s.identWords) else (s, .busy, s.identWords)

/-- WAKE (R147, R167). -/
def reqWake (s : State) : Answer := (if s.part = .rest then s.beginWake else s, .ok, s.identWords)

/-- SOFT_RESET (R150, R155, R167). -/
def reqSoftReset (s : State) : Answer := accept s.softReset []

/-! ### A request that its frames complete (R153, R157) -/

/-- The data count that R157 defines for a code; no count for a code that names no request. -/
def requestCount (code : Nat) : Option Nat :=
  if code = 0 then none
  else if code ∈ [0x07] then some 3
  else if code ∈ [0x0F] then some 2
  else if code ∈ [0x05, 0x06, 0x09, 0x0B, 0x0C, 0x0D, 0x12, 0x15, 0x17, 0x19, 0x1A] then some 1
  else if code ≤ 0x1D then some 0
  else none

/-- Bits 7..4 of an argument. -/
def highNibble (arg : BitVec 8) : BitVec 4 := arg.extractLsb' 4 4

/-- Bits 3..0 of an argument. -/
def lowNibble (arg : BitVec 8) : BitVec 4 := arg.extractLsb' 0 4

/-- Bits 15..8 of a data word. -/
def highByte (w : Word16) : BitVec 8 := w.extractLsb' 8 8

/-- Bits 7..0 of a data word. -/
def lowByte (w : Word16) : BitVec 8 := w.extractLsb' 0 8

/-- The request of a code with its argument and data words unpacked (section 9.4). A code that names no request is not
executed; `requestCount` answers it first (R153). -/
def requestBody (code : Nat) (arg : BitVec 8) (d1 d2 d3 : Word16) : State → Answer :=
  match code with
  | 0x01 => reqIdent
  | 0x02 => reqStatus (arg.getLsbD 0)
  | 0x03 => reqNotices
  | 0x04 => reqCause
  | 0x05 => reqPortRole arg (d1.extractLsb' 0 4)
  | 0x06 => reqPortMask arg (d1.getLsbD 0)
  | 0x07 => reqSectionWrite (highNibble arg) (lowNibble arg) (highByte d1) (lowByte d1) (highByte d2) (lowByte d2) d3
  | 0x08 => reqSectionRead arg
  | 0x09 => reqSectionCounts arg (d1.extractLsb' 0 2) (d1.getLsbD 15)
  | 0x0A => reqSectionClear arg
  | 0x0B => reqZoneWrite arg (lowByte d1)
  | 0x0C => reqZoneRead arg (d1.extractLsb' 0 2)
  | 0x0D => reqCurveWrite (highNibble arg) (lowNibble arg) (lowByte d1)
  | 0x0E => reqCurveRead (highNibble arg) (lowNibble arg)
  | 0x0F => reqCarWrite arg (highByte d1) (d1.extractLsb' 0 4) (highByte d2) (lowByte d2)
  | 0x10 => reqCarRead arg
  | 0x11 => reqCarIdentity arg
  | 0x12 => reqBind arg (lowByte d1)
  | 0x13 => reqUnbind arg
  | 0x14 => reqForget arg
  | 0x15 => reqPairOpen arg (highByte d1) (lowByte d1)
  | 0x16 => reqPairCancel arg
  | 0x17 => reqPairRead arg (d1.extractLsb' 0 2)
  | 0x18 => reqRevive arg
  | 0x19 => reqLimits (arg.getLsbD 0) (arg.getLsbD 1) (highByte d1) (lowByte d1)
  | 0x1A => reqMode (arg.getLsbD 0) (arg.getLsbD 1) (d1.getLsbD 15) (lowByte d1)
  | 0x1B => reqRest
  | 0x1C => reqWake
  | 0x1D => reqSoftReset
  | _ => fun s => refuse s .unknown

/-- The body of an assembled request (R152). -/
def Assembly.body (r : Assembly) : State → Answer :=
  requestBody r.code.toNat r.arg (r.words.getD 0 0) (r.words.getD 1 0) (r.words.getD 2 0)

/-- The completion of an assembled request (R153): the four checks in order. -/
def State.complete (s : State) (r : Assembly) : State :=
  if 4 ≤ s.replies.length then s.dropRequest
  else
    match requestCount r.code.toNat with
    | none => s.queueReply ⟨r.code, .unknown, []⟩
    | some n => if r.count.toNat ≠ n then s.queueReply ⟨r.code, .malformed, []⟩ else s.respond r.code r.body

/-- The frame that completes a request also gives a free position (R6). While the insertion queue holds a sequence the
spec leaves open which of the two is taken first (R14): a free order (log entry 17). When a SOFT_RESET is taken first, its
position is given in STARTUP; the spec does not say in which part state, and this is the model's choice (log entry 34). -/
def State.completeAtPosition (s : State) (r : Assembly) : State :=
  if s.insertionQueue.isEmpty then s.freePosition.complete r
  else
    let s1 := { s with free := s.free + 1 }
    if Config.requestBeforePosition s.free then (s1.complete r).freePosition
    else s1.freePosition.complete r

end Sys2Proof.Machine
end

