-- ==== Sys2Proof/Machine/Expiries.lean ====
section
/-! DEFINITION. The meanings of the expiries (R141). A deadline that has been stopped, or that runs to a later tick, gives
none (log entry 4). -/

namespace Sys2Proof.Machine

/-- START_UP_SETTLE_EXPIRY (R139, R142): the part enters RUN, and the silence deadline starts. -/
def State.startUpSettled (s : State) : State :=
  s.expire s.startupDue fun s => if s.part = .startup then State.enterRun { s with startupDue := none } else s

/-- START_UP_SETTLE_EXPIRY (R139). -/
def execStartUpSettleExpiry (s : State) : Host.Outcome State Fault Refusal := taken s State.startUpSettled

/-- WAKE_SETTLE_EXPIRY (R147): the part enters RUN, and the silence deadline starts. -/
def State.wakeSettled (s : State) : State :=
  s.expire s.wakeDue fun s => if s.part = .waking then State.enterRun { s with wakeDue := none } else s

/-- WAKE_SETTLE_EXPIRY (R147). -/
def execWakeSettleExpiry (s : State) : Host.Outcome State Fault Refusal := taken s State.wakeSettled

/-- The silence deadline expires in RUN (R143). -/
def State.silenceExpires (s : State) : State :=
  s.expire s.silenceDue fun s => if s.part = .run then s.enterHalt else s

/-- SILENCE_DEADLINE_EXPIRY (R143). -/
def execSilenceDeadlineExpiry (s : State) : Host.Outcome State Fault Refusal := taken s State.silenceExpires

/-- An own CYCLE frame falls due in HALT, the next 20 ms after it (R144). -/
def State.ownCycleExpires (s : State) : State :=
  s.expire s.ownCycleDue fun s =>
    if s.part = .halt then State.fallDue { s with ownCycleDue := s.ownCycleDue.map (· + 20) } (.frame ownCycle) else s

/-- OWN_CYCLE_TIMER_EXPIRY (R144). -/
def execOwnCycleTimerExpiry (s : State) : Host.Outcome State Fault Refusal := taken s State.ownCycleExpires

/-- A port's reset deadline expires (R96): the port enters ABSENT. -/
def State.resetExpires (s : State) (p : PortIx) : State :=
  s.expire (s.port p).resetDue fun s =>
    if (s.port p).state = .resetting then
      s.modPort p fun q =>
        { q with state := .absent, resetDue := none, lateMotion := false, roleTaken := none }
    else s

/-- RESET_DEADLINE_EXPIRY (R96). -/
def execResetDeadlineExpiry (port : PortIx) (s : State) : Host.Outcome State Fault Refusal :=
  taken s fun s => s.resetExpires port

/-- A flap deadline expires during THROWING or RETURNING (R100, R102). -/
def State.flapExpires (s : State) (p : PortIx) : State :=
  s.expire (s.port p).flapDue fun s =>
    if (s.port p).state = .throwing ∨ (s.port p).state = .returning then s.flapFails p else s

/-- FLAP_DEADLINE_EXPIRY (R102). -/
def execFlapDeadlineExpiry (port : PortIx) (s : State) : Host.Outcome State Fault Refusal :=
  taken s fun s => s.flapExpires port

/-- The window deadline of a WAITING session expires (R83): TIMEOUT. -/
def State.windowExpires (s : State) (p : PortIx) : State :=
  match s.session p with
  | none => s
  | some x =>
    s.expire x.windowDue fun s => if x.state = .waiting then s.failSession p x .timeout else s

/-- WINDOW_DEADLINE_EXPIRY (R83). -/
def execWindowDeadlineExpiry (port : PortIx) (s : State) : Host.Outcome State Fault Refusal :=
  taken s fun s => s.windowExpires port

/-- The show deadline expires (R84): the session enters CLOSED, and the lamp turns OFF. -/
def State.showExpires (s : State) (p : PortIx) : State :=
  match s.session p with
  | none => s
  | some x =>
    s.expire x.showDue fun s =>
      if x.state = .showDone ∨ x.state = .showFailed then
        s.showSession p x.state { x with state := .closed, showDue := none }
      else s

/-- SHOW_DEADLINE_EXPIRY (R84). -/
def execShowDeadlineExpiry (port : PortIx) (s : State) : Host.Outcome State Fault Refusal :=
  taken s fun s => s.showExpires port

/-- The expiry of the entry at place `k` of zone `z` falls (R128, log entry 25): removed as EXPIRED. -/
def State.entryExpires (s : State) (z : ZoneIx) (k : Nat) : State :=
  match (s.zone z).entries[k]? with
  | none => s
  | some e => s.expire (some e.due) fun s => s.removeEntry z k fun n => { n with expired := raise16 n.expired }

/-- ENTRY_EXPIRY (R128). -/
def execEntryExpiry (zone : ZoneIx) (position : Fin 3) (s : State) : Host.Outcome State Fault Refusal :=
  taken s fun s => s.entryExpires zone position.val

/-- A zone's guard expires (R124). -/
def State.guardExpires (s : State) (z : ZoneIx) : State :=
  match (s.zone z).guard with
  | none => s
  | some g => s.expire (some g.due) fun s => s.modZone z fun x => { x with guard := none }

/-- GUARD_EXPIRY (R124). -/
def execGuardExpiry (zone : ZoneIx) (s : State) : Host.Outcome State Fault Refusal :=
  taken s fun s => s.guardExpires zone

end Sys2Proof.Machine
end

