-- ==== Sys2Proof/Machine/Frames.lean ====
section
/-! DEFINITION. The meanings of the upstream frames (R2 to R11, R30, R152). -/

namespace Sys2Proof.Machine

/-- The arrival of an upstream frame (R2, section 1.6): no frame is in progress any more, and no return window is open. -/
def State.arrive (s : State) : State := { s with rxBits := [], returnWindow := [] }

/-- The arrival of a frame other than DATA and CYCLE: it interrupts a partial request (R154). -/
def State.arriveOther (s : State) : State := s.arrive.interrupt

/-! ### CYCLE_FRAME (R8) -/

/-- The return window of a CYCLE frame and its interruption of a partial request (R18, R154). While a request is under
assembly the spec leaves open which is taken first: a free order (log entry 16). -/
def State.cycleWindow (s : State) : State :=
  if s.assembly.isNone then s.openWindow
  else
    let s1 := { s with free := s.free + 1 }
    if Config.replyBeforeWindow s.free then s1.interrupt.openWindow else s1.openWindow.interrupt

/-- A valid CYCLE frame (R8, R140): the window, the forwarded frame at its position, the race record, and what Run Control
does with the part state. -/
def State.cycleFrame (s : State) (race : RaceState) (laneEnable : Bool) (console : BitVec 13) : State :=
  ((s.arrive.cycleWindow.position (.frame (.cycle race laneEnable console))).writeRace race laneEnable).cycleRun

/-- CYCLE_FRAME (R8, R18, R140, R144, R147). -/
def execCycleFrame (race : RaceState) (laneEnable : Bool) (console : BitVec 13) (s : State) :
    Host.Outcome State Fault Refusal :=
  taken s fun s => s.cycleFrame race laneEnable console

/-! ### Erroneous frames (R3, R4) -/

/-- An erroneous frame once counted (R4): it interrupts a partial request and gives a free position. -/
def State.discardFrame (s : State) : State := s.arriveOther.freePosition

/-- A frame error (R3, R4). -/
def State.frameError (s : State) : State :=
  (State.notify { s with frameErrors := raise16 s.frameErrors } .frameErrors).discardFrame

/-- A kind error (R3, R4). -/
def State.kindError (s : State) : State :=
  (State.notify { s with kindErrors := raise16 s.kindErrors } .frameErrors).discardFrame

/-- FRAME_ERROR (R3, R4). -/
def execFrameError (s : State) : Host.Outcome State Fault Refusal := taken s State.frameError

/-- KIND_ERROR (R3, R4). -/
def execKindError (s : State) : Host.Outcome State Fault Refusal := taken s State.kindError

/-- FRAME_BROKEN_OFF (R2): the bits taken are discarded, and a frame error is counted. -/
def execFrameBrokenOff (s : State) : Host.Outcome State Fault Refusal := taken s State.frameError

/-! ### DRIVE_FRAME (R30) -/

/-- Steps 2 to 4 of R30 for a frame from slot `h` that resolved to `target`. -/
def State.driveFlags (s : State) (h : SlotIx) (target : Option CarIx) (lane pair : Bool) : State :=
  ((s.laneEdge h target lane).pairEdge h pair).writeFlags h lane pair

/-- Step 5 of R30 and the position (R6, R7): a CAR frame for the resolved car, or a free position. -/
def State.driveOut (s : State) (target : Option CarIx) (throttle : Nat) (brake : Bool) : State :=
  match target with
  | none => s.freePosition
  | some a => (s.shape a throttle brake).position (.frame (s.carFrame a throttle brake))

/-- A DRIVE frame from slot `h` that reaches the Slot Map (R30). -/
def State.driveSlot (s : State) (h : SlotIx) (throttle : Nat) (brake lane pair : Bool) : State :=
  (s.driveFlags h (s.resolve h) lane pair).driveOut (s.resolve h) throttle brake

/-- A DRIVE frame (R2, R11, R30): slots 24..31 are a frame error, and in REST a valid one is discarded. -/
def State.driveFrame (s : State) (slot : BitVec 5) (throttle : BitVec 6) (brake lane pair : Bool) : State :=
  match slotOf slot.toNat with
  | none => s.frameError
  | some h =>
    if s.part = .rest then s.arriveOther else s.arriveOther.driveSlot h throttle.toNat brake lane pair

/-- DRIVE_FRAME (R30). -/
def execDriveFrame (slot : BitVec 5) (throttle : BitVec 6) (brake lane pair : Bool) (s : State) :
    Host.Outcome State Fault Refusal :=
  taken s fun s => s.driveFrame slot throttle brake lane pair

/-! ### HEAD_FRAME and DATA_FRAME (R152) -/

/-- The request that a HEAD frame begins (R152): complete at once when its count is 0. -/
def State.beginRequest (s : State) (r : Assembly) : State :=
  if r.count = 0 then s.completeAtPosition r else State.freePosition { s with assembly := some r }

/-- HEAD_FRAME (R152). -/
def execHeadFrame (code : BitVec 6) (count : BitVec 2) (arg : BitVec 8) (s : State) :
    Host.Outcome State Fault Refusal :=
  taken s fun s => s.arriveOther.beginRequest ⟨code, count, arg, []⟩

/-- A DATA word for the request under assembly (R152): complete when the words are as many as the HEAD frame's count. -/
def State.dataFrame (s : State) (w : Word16) : State :=
  match s.assembly with
  | none => s.freePosition
  | some r =>
    let r1 := { r with words := r.words ++ [w] }
    if r1.words.length = r.count.toNat then State.completeAtPosition { s with assembly := none } r1
    else State.freePosition { s with assembly := some r1 }

/-- DATA_FRAME (R152). -/
def execDataFrame (word : Word16) (s : State) : Host.Outcome State Fault Refusal :=
  taken s fun s => s.arrive.dataFrame word

/-! ### FILL_FRAME and AUX_FRAME (R5, R6) -/

/-- FILL_FRAME (R5): a free position. -/
def execFillFrame (s : State) : Host.Outcome State Fault Refusal :=
  taken s fun s => s.arriveOther.freePosition

/-- AUX_FRAME (R5): forwarded, kind and body unchanged. -/
def execAuxFrame (kind : Fin 3) (body : Word16) (s : State) : Host.Outcome State Fault Refusal :=
  taken s fun s => s.arriveOther.position (.frame (.aux kind body))

/-! ### The rail output (R10, R12, R16, R17) -/

/-- The close of the window after a CAR frame to car `a` (R16, R57). -/
def State.closeCarWindow (s : State) (a : CarIx) (answered : Bool) : State :=
  match s.closeWindow fun w => decide (w = .car a) with
  | none => s
  | some (_, t) => t.linkResult a answered

/-- CAR_ANSWER_WINDOW_CLOSE (R16, R57): no effect when no window after a CAR frame to that address is owed. -/
def execCarAnswerWindowClose (address : BitVec 5) (answered : Bool) (s : State) : Host.Outcome State Fault Refusal :=
  taken s fun s =>
    match carOf address.toNat with
    | none => s
    | some a => s.closeCarWindow a answered

/-- The close of the window after an ASSIGN frame tagged with port `p` (R17): the result of an abandoned one is
discarded (R82). -/
def State.closeAssignWindow (s : State) (p : PortIx) (answered : Bool) : State :=
  match s.closeWindow (AnswerWindow.tagged p) with
  | none => s
  | some (w, t) => if w = .assign p then t.assignResult p answered else t

/-- ASSIGN_ANSWER_WINDOW_CLOSE (R17, R79, R80, R82): no effect when no such window is owed. -/
def execAssignAnswerWindowClose (port : PortIx) (answered : Bool) (s : State) : Host.Outcome State Fault Refusal :=
  taken s fun s => s.closeAssignWindow port answered

/-- RAIL_OUTPUT_FREE (R10). -/
def execRailOutputFree (s : State) : Host.Outcome State Fault Refusal := taken s State.railFree

/-- INSERTION_QUEUE_PLACE (R12). -/
def execInsertionQueuePlace (s : State) : Host.Outcome State Fault Refusal := taken s State.queuePlace

end Sys2Proof.Machine
end

