-- ==== Sys2Proof/Machine/Modules.lean ====
section
/-! DEFINITION. The meanings of the module messages and of the port lines' own events (R20, R21, R93 to R103). -/

namespace Sys2Proof.Machine

/-! ### HELLO (R94, R96, R97) -/

/-- What a module restart first undoes at a SWITCH or DELEGATED port (R97 steps 1 and 2). -/
def State.restartPort (s : State) (p : PortIx) : State :=
  (s.abandon p).modPort p fun q => q.clearMotion.discardFlap

/-- A HELLO taken by port `p` (R94): start-up in RESETTING, ABSENT or MISMATCH, ignored in DORMANT, a restart in a working
state, which a BAY port's session does not feel. -/
def State.takeHello (s : State) (p : PortIx) (kind : ModuleKind) (thrown : Bool) : State :=
  match (s.port p).state with
  | .off | .dormant => s
  | .resetting | .absent | .mismatch => s.startUp p kind thrown
  | .straight | .throwing | .thrown | .returning | .fault | .ready =>
    if (s.port p).role = .bay then s.startUp p kind thrown else (s.restartPort p).startUp p kind thrown

/-- HELLO (R96, R97). -/
def execHello (port : PortIx) (kind : ModuleKind) (thrown : Bool) (s : State) : Host.Outcome State Fault Refusal :=
  taken s fun s => s.onMessage port fun s => s.takeHello port kind thrown

/-! ### Reader and self-throw messages (R93, R94) -/

/-- A message that belongs to SWITCH and DELEGATED ports, handled by `f` there (R93). -/
def State.readerMessage (s : State) (p : PortIx) (f : State → State) : State :=
  s.onMessage p fun s =>
    match (s.port p).role with
    | .switch | .delegated => f s
    | .bay => s.portError p
    | .unused => s

/-- APPROACH (R93, R117): decided at a SWITCH port, ignored at a DELEGATED one. -/
def execApproach (port : PortIx) (code : BitVec 5) (s : State) : Host.Outcome State Fault Refusal :=
  taken s fun s => s.readerMessage port fun s =>
    if (s.port port).role = .switch then s.approach port code else s

/-- GUARD (R123). -/
def execGuard (port : PortIx) (code : BitVec 5) (s : State) : Host.Outcome State Fault Refusal :=
  taken s fun s => s.readerMessage port fun s => s.takeGuard port code

/-- EXIT_CROSS (R125, R127). -/
def execExitCross (port : PortIx) (code : BitVec 5) (s : State) : Host.Outcome State Fault Refusal :=
  taken s fun s => s.readerMessage port fun s => s.takeExitCross port code

/-- EXIT_STRAIGHT (R126, R127). -/
def execExitStraight (port : PortIx) (code : BitVec 5) (s : State) : Host.Outcome State Fault Refusal :=
  taken s fun s => s.readerMessage port fun s => s.takeExitStraight port code

/-- A message that belongs to ports of one role alone, handled by `f` there, a role error at the others (R93), in every state but
OFF (R94). -/
def State.roleMessage (s : State) (p : PortIx) (role : Role) (f : State → State) : State :=
  s.onMessage p fun s =>
    if (s.port p).role = role then f s else if (s.port p).role = .unused then s else s.portError p

/-- SELF_THROW (R107, R129). -/
def execSelfThrow (port : PortIx) (code : BitVec 5) (s : State) : Host.Outcome State Fault Refusal :=
  taken s fun s => s.roleMessage port .delegated fun s => s.takeSelfThrow port code

/-! ### Flap messages (R93, R94) -/

/-- Whether a flap message taken at tick `now` is one that R95 and R111 ignore in RESETTING (log entry 36): a report of a motion
of the SWITCH role that was cut off, or one that comes together with the PORT_ROLE that took the role. -/
def Port.ignoresLateFlap (q : Port) (now : Nat) : Bool :=
  decide (q.state = .resetting) && (q.lateMotion || decide (q.roleTaken = some now))

/-- A flap message, which ends a motion or does not (R93, R94): taken by a SWITCH port in a working state, ignored by it in the
others, a role error at a port of another role, unless it is a late one, which is ignored there too (R95, R111). -/
def State.flapMessage (s : State) (p : PortIx) (ends : Bool) (f : State → State) : State :=
  if (s.port p).ignoresLateFlap s.now then
    s.onMessage p fun s => s.modPort p fun q => { q with lateMotion := q.lateMotion && !ends }
  else s.roleMessage p .switch fun s => if (s.port p).state.working then f s else s

/-- READY (R103). -/
def execReady (port : PortIx) (thrown : Bool) (s : State) : Host.Outcome State Fault Refusal :=
  taken s fun s => s.flapMessage port true fun s => s.takeReady port thrown

/-- MOVING (R102). -/
def execMoving (port : PortIx) (s : State) : Host.Outcome State Fault Refusal :=
  taken s fun s => s.flapMessage port false fun s => s.takeMoving port

/-- MODULE_FAULT (R100). -/
def execModuleFault (port : PortIx) (code : BitVec 8) (s : State) : Host.Outcome State Fault Refusal :=
  taken s fun s => s.flapMessage port true fun s => s.takeModuleFault port code

/-- IDENTITY (R75, R94, R108): handed to the engine by a BAY port in READY. -/
def execIdentity (port : PortIx) (id : Identity) (s : State) : Host.Outcome State Fault Refusal :=
  taken s fun s => s.roleMessage port .bay fun s =>
    if (s.port port).state = .ready then s.takeIdentity port id else s

/-! ### The lines (R20, R21, R102) -/

/-- PORT_LINE_ERROR (R20, R22). -/
def execPortLineError (port : PortIx) (s : State) : Host.Outcome State Fault Refusal :=
  taken s fun s => s.onMessage port fun s => s.portError port

/-- PORT_MESSAGE_BROKEN_OFF (R20): treated as a line error. -/
def execPortMessageBrokenOff (port : PortIx) (s : State) : Host.Outcome State Fault Refusal :=
  taken s fun s => s.onMessage port fun s => s.portError port

/-- PORT_LINE_FREE (R21). -/
def execPortLineFree (port : PortIx) (s : State) : Host.Outcome State Fault Refusal :=
  taken s fun s => s.modPort port fun q => q.lineFree (s.after q.config.flapTimeout)

/-- FLAP_COMMAND_LEFT (R102). -/
def execFlapCommandLeft (port : PortIx) (s : State) : Host.Outcome State Fault Refusal :=
  taken s fun s => s.modPort port fun q => q.flapCommandLeft (s.after q.config.flapTimeout)

end Sys2Proof.Machine
end

