-- ==== Sys2Proof/Machine/Requests.lean ====
section
/-! DEFINITION. The meanings of the 29 requests as commands: the completion of the request, its code and data count as
R157 defines them, so that checks 1 and 4 of R153 decide (log entry 1). -/

namespace Sys2Proof.Machine

/-- IDENT (R158), request 0x01. -/
def execIdent (s : State) : Host.Outcome State Fault Refusal :=
  taken s fun s => s.respond 0x01 reqIdent

/-- STATUS (R158), request 0x02. -/
def execStatus (clearCounters : Bool) (s : State) : Host.Outcome State Fault Refusal :=
  taken s fun s => s.respond 0x02 (reqStatus clearCounters)

/-- NOTICES (R169), request 0x03. -/
def execNotices (s : State) : Host.Outcome State Fault Refusal :=
  taken s fun s => s.respond 0x03 reqNotices

/-- CAUSE (R158), request 0x04. -/
def execCause (s : State) : Host.Outcome State Fault Refusal :=
  taken s fun s => s.respond 0x04 reqCause

/-- PORT_ROLE (R95, R159), request 0x05. -/
def execPortRole (port : BitVec 8) (role : BitVec 4) (s : State) : Host.Outcome State Fault Refusal :=
  taken s fun s => s.respond 0x05 (reqPortRole port role)

/-- PORT_MASK (R106, R159), request 0x06. -/
def execPortMask (port : BitVec 8) (masked : Bool) (s : State) : Host.Outcome State Fault Refusal :=
  taken s fun s => s.respond 0x06 (reqPortMask port masked)

/-- SECTION_WRITE (R98, R160), request 0x07. -/
def execSectionWrite (port zone : BitVec 4) (cap hold guardTime flap : BitVec 8) (threshold : Word16) (s : State) :
    Host.Outcome State Fault Refusal :=
  taken s fun s => s.respond 0x07 (reqSectionWrite port zone cap hold guardTime flap threshold)

/-- SECTION_READ (R160), request 0x08. -/
def execSectionRead (port : BitVec 8) (s : State) : Host.Outcome State Fault Refusal :=
  taken s fun s => s.respond 0x08 (reqSectionRead port)

/-- SECTION_COUNTS (R161), request 0x09. -/
def execSectionCounts (port : BitVec 8) (page : BitVec 2) (clearErrors : Bool) (s : State) :
    Host.Outcome State Fault Refusal :=
  taken s fun s => s.respond 0x09 (reqSectionCounts port page clearErrors)

/-- SECTION_CLEAR (R105), request 0x0A. -/
def execSectionClear (port : BitVec 8) (s : State) : Host.Outcome State Fault Refusal :=
  taken s fun s => s.respond 0x0A (reqSectionClear port)

/-- ZONE_WRITE (R114, R162), request 0x0B. -/
def execZoneWrite (zone capacity : BitVec 8) (s : State) : Host.Outcome State Fault Refusal :=
  taken s fun s => s.respond 0x0B (reqZoneWrite zone capacity)

/-- ZONE_READ (R114, R162), request 0x0C. -/
def execZoneRead (zone : BitVec 8) (page : BitVec 2) (s : State) : Host.Outcome State Fault Refusal :=
  taken s fun s => s.respond 0x0C (reqZoneRead zone page)

/-- CURVE_WRITE (R44, R163), request 0x0D. -/
def execCurveWrite (curve point : BitVec 4) (value : BitVec 8) (s : State) : Host.Outcome State Fault Refusal :=
  taken s fun s => s.respond 0x0D (reqCurveWrite curve point value)

/-- CURVE_READ (R163), request 0x0E. -/
def execCurveRead (curve half : BitVec 4) (s : State) : Host.Outcome State Fault Refusal :=
  taken s fun s => s.respond 0x0E (reqCurveRead curve half)

/-- CAR_WRITE (R25, R164), request 0x0F. -/
def execCarWrite (address limit : BitVec 8) (curve : BitVec 4) (up down : BitVec 8) (s : State) :
    Host.Outcome State Fault Refusal :=
  taken s fun s => s.respond 0x0F (reqCarWrite address limit curve up down)

/-- CAR_READ (R164), request 0x10. -/
def execCarRead (address : BitVec 8) (s : State) : Host.Outcome State Fault Refusal :=
  taken s fun s => s.respond 0x10 (reqCarRead address)

/-- CAR_IDENTITY (R164), request 0x11. -/
def execCarIdentity (address : BitVec 8) (s : State) : Host.Outcome State Fault Refusal :=
  taken s fun s => s.respond 0x11 (reqCarIdentity address)

/-- BIND (R37, R165), request 0x12. -/
def execBind (slot address : BitVec 8) (s : State) : Host.Outcome State Fault Refusal :=
  taken s fun s => s.respond 0x12 (reqBind slot address)

/-- UNBIND (R38, R165), request 0x13. -/
def execUnbind (slot : BitVec 8) (s : State) : Host.Outcome State Fault Refusal :=
  taken s fun s => s.respond 0x13 (reqUnbind slot)

/-- FORGET (R39, R165), request 0x14. -/
def execForget (address : BitVec 8) (s : State) : Host.Outcome State Fault Refusal :=
  taken s fun s => s.respond 0x14 (reqForget address)

/-- PAIR_OPEN (R71, R166), request 0x15. -/
def execPairOpen (port slot window : BitVec 8) (s : State) : Host.Outcome State Fault Refusal :=
  taken s fun s => s.respond 0x15 (reqPairOpen port slot window)

/-- PAIR_CANCEL (R85), request 0x16. -/
def execPairCancel (port : BitVec 8) (s : State) : Host.Outcome State Fault Refusal :=
  taken s fun s => s.respond 0x16 (reqPairCancel port)

/-- PAIR_READ (R88, R166), request 0x17. -/
def execPairRead (port : BitVec 8) (page : BitVec 2) (s : State) : Host.Outcome State Fault Refusal :=
  taken s fun s => s.respond 0x17 (reqPairRead port page)

/-- REVIVE (R62), request 0x18. -/
def execRevive (address : BitVec 8) (s : State) : Host.Outcome State Fault Refusal :=
  taken s fun s => s.respond 0x18 (reqRevive address)

/-- LIMITS (R163), request 0x19. -/
def execLimits (writeCap writeTimeout : Bool) (cap timeout : BitVec 8) (s : State) :
    Host.Outcome State Fault Refusal :=
  taken s fun s => s.respond 0x19 (reqLimits writeCap writeTimeout cap timeout)

/-- MODE (R167), request 0x1A. -/
def execMode (writeFallback writeBay fallback : Bool) (bay : BitVec 8) (s : State) :
    Host.Outcome State Fault Refusal :=
  taken s fun s => s.respond 0x1A (reqMode writeFallback writeBay fallback bay)

/-- REST (R145), request 0x1B. -/
def execRest (s : State) : Host.Outcome State Fault Refusal :=
  taken s fun s => s.respond 0x1B reqRest

/-- WAKE (R147), request 0x1C. -/
def execWake (s : State) : Host.Outcome State Fault Refusal :=
  taken s fun s => s.respond 0x1C reqWake

/-- SOFT_RESET (R150), request 0x1D. -/
def execSoftReset (s : State) : Host.Outcome State Fault Refusal :=
  taken s fun s => s.respond 0x1D reqSoftReset

end Sys2Proof.Machine
end

