-- ==== Sys2Proof/Machine/Resets.lean ====
section
/-! DEFINITION. The meanings of the four hard-reset commands (R148, R149). They are taken while the internal reset is held
too. -/

namespace Sys2Proof.Machine

/-- POWER_ON (R148, R149): the record becomes POWER alone. -/
def execPowerOn (s : State) : Host.Outcome State Fault Refusal := .next (s.holdReset ⟨true, false, false, false⟩)

/-- RESET_PIN_ASSERTION (R148, R149), the supply being good: PIN is added. -/
def execResetPinAssertion (s : State) : Host.Outcome State Fault Refusal :=
  .next (s.holdReset { s.cause with pin := true })

/-- SUPPLY_DIP (R148, R149): SUPPLY is added. -/
def execSupplyDip (s : State) : Host.Outcome State Fault Refusal := .next (s.holdReset { s.cause with supply := true })

/-- INTERNAL_RESET_RELEASE (R28, R139, R148). -/
def execInternalResetRelease (strapHigh : Bool) (s : State) : Host.Outcome State Fault Refusal :=
  .next (s.releaseReset strapHigh)

end Sys2Proof.Machine
end

