-- ==== Sys2Proof/Machine/Dispatch.lean ====
section
/-! DEFINITION. The dispatch: one arm per command of spec/opcode_table.json. -/

namespace Sys2Proof.Machine

def exec (i : Instr) (s : State) : Host.Outcome State Fault Refusal :=
  match i with
  | .cycleFrame race laneEnable console => Sys2Proof.Machine.execCycleFrame race laneEnable console s
  | .driveFrame slot throttle brake lane pair => Sys2Proof.Machine.execDriveFrame slot throttle brake lane pair s
  | .headFrame code count arg => Sys2Proof.Machine.execHeadFrame code count arg s
  | .dataFrame word => Sys2Proof.Machine.execDataFrame word s
  | .fillFrame => Sys2Proof.Machine.execFillFrame s
  | .auxFrame kind body => Sys2Proof.Machine.execAuxFrame kind body s
  | .frameError => Sys2Proof.Machine.execFrameError s
  | .kindError => Sys2Proof.Machine.execKindError s
  | .frameBrokenOff => Sys2Proof.Machine.execFrameBrokenOff s
  | .carAnswerWindowClose address answered => Sys2Proof.Machine.execCarAnswerWindowClose address answered s
  | .assignAnswerWindowClose port answered => Sys2Proof.Machine.execAssignAnswerWindowClose port answered s
  | .railOutputFree => Sys2Proof.Machine.execRailOutputFree s
  | .insertionQueuePlace => Sys2Proof.Machine.execInsertionQueuePlace s
  | .hello port kind thrown => Sys2Proof.Machine.execHello port kind thrown s
  | .approach port code => Sys2Proof.Machine.execApproach port code s
  | .guard port code => Sys2Proof.Machine.execGuard port code s
  | .exitCross port code => Sys2Proof.Machine.execExitCross port code s
  | .exitStraight port code => Sys2Proof.Machine.execExitStraight port code s
  | .ready port thrown => Sys2Proof.Machine.execReady port thrown s
  | .moving port => Sys2Proof.Machine.execMoving port s
  | .moduleFault port code => Sys2Proof.Machine.execModuleFault port code s
  | .selfThrow port code => Sys2Proof.Machine.execSelfThrow port code s
  | .identity port id => Sys2Proof.Machine.execIdentity port id s
  | .portLineError port => Sys2Proof.Machine.execPortLineError port s
  | .portMessageBrokenOff port => Sys2Proof.Machine.execPortMessageBrokenOff port s
  | .portLineFree port => Sys2Proof.Machine.execPortLineFree port s
  | .flapCommandLeft port => Sys2Proof.Machine.execFlapCommandLeft port s
  | .startUpSettleExpiry => Sys2Proof.Machine.execStartUpSettleExpiry s
  | .wakeSettleExpiry => Sys2Proof.Machine.execWakeSettleExpiry s
  | .silenceDeadlineExpiry => Sys2Proof.Machine.execSilenceDeadlineExpiry s
  | .ownCycleTimerExpiry => Sys2Proof.Machine.execOwnCycleTimerExpiry s
  | .resetDeadlineExpiry port => Sys2Proof.Machine.execResetDeadlineExpiry port s
  | .flapDeadlineExpiry port => Sys2Proof.Machine.execFlapDeadlineExpiry port s
  | .windowDeadlineExpiry port => Sys2Proof.Machine.execWindowDeadlineExpiry port s
  | .showDeadlineExpiry port => Sys2Proof.Machine.execShowDeadlineExpiry port s
  | .entryExpiry zone position => Sys2Proof.Machine.execEntryExpiry zone position s
  | .guardExpiry zone => Sys2Proof.Machine.execGuardExpiry zone s
  | .powerOn => Sys2Proof.Machine.execPowerOn s
  | .resetPinAssertion => Sys2Proof.Machine.execResetPinAssertion s
  | .supplyDip => Sys2Proof.Machine.execSupplyDip s
  | .internalResetRelease strapHigh => Sys2Proof.Machine.execInternalResetRelease strapHigh s
  | .ident => Sys2Proof.Machine.execIdent s
  | .status clearCounters => Sys2Proof.Machine.execStatus clearCounters s
  | .notices => Sys2Proof.Machine.execNotices s
  | .cause => Sys2Proof.Machine.execCause s
  | .portRole port role => Sys2Proof.Machine.execPortRole port role s
  | .portMask port masked => Sys2Proof.Machine.execPortMask port masked s
  | .sectionWrite port zone cap hold guardTime flap threshold => Sys2Proof.Machine.execSectionWrite port zone cap hold guardTime flap threshold s
  | .sectionRead port => Sys2Proof.Machine.execSectionRead port s
  | .sectionCounts port page clearErrors => Sys2Proof.Machine.execSectionCounts port page clearErrors s
  | .sectionClear port => Sys2Proof.Machine.execSectionClear port s
  | .zoneWrite zone capacity => Sys2Proof.Machine.execZoneWrite zone capacity s
  | .zoneRead zone page => Sys2Proof.Machine.execZoneRead zone page s
  | .curveWrite curve point value => Sys2Proof.Machine.execCurveWrite curve point value s
  | .curveRead curve half => Sys2Proof.Machine.execCurveRead curve half s
  | .carWrite address limit curve up down => Sys2Proof.Machine.execCarWrite address limit curve up down s
  | .carRead address => Sys2Proof.Machine.execCarRead address s
  | .carIdentity address => Sys2Proof.Machine.execCarIdentity address s
  | .bind slot address => Sys2Proof.Machine.execBind slot address s
  | .unbind slot => Sys2Proof.Machine.execUnbind slot s
  | .forget address => Sys2Proof.Machine.execForget address s
  | .pairOpen port slot window => Sys2Proof.Machine.execPairOpen port slot window s
  | .pairCancel port => Sys2Proof.Machine.execPairCancel port s
  | .pairRead port page => Sys2Proof.Machine.execPairRead port page s
  | .revive address => Sys2Proof.Machine.execRevive address s
  | .limits writeCap writeTimeout cap timeout => Sys2Proof.Machine.execLimits writeCap writeTimeout cap timeout s
  | .mode writeFallback writeBay fallback bay => Sys2Proof.Machine.execMode writeFallback writeBay fallback bay s
  | .rest => Sys2Proof.Machine.execRest s
  | .wake => Sys2Proof.Machine.execWake s
  | .softReset => Sys2Proof.Machine.execSoftReset s

end Sys2Proof.Machine
end

