-- ==== Sys2Proof/Machine/Timebase.lean ====
section
/-! DEFINITION. The 1 ms timebase (R141): what a tick does, and which expiries fall due at it. The table has no row
for a tick, so a tick is what the step does when no command waits (log entry 3). -/

namespace Sys2Proof.Machine

/-- One command if a condition holds. -/
def oneIf (b : Bool) (i : Instr) : List Instr := if b then [i] else []

/-- The expiries of Run Control that have come (R141). -/
def State.dueRun (s : State) : List Instr :=
  oneIf (s.reached s.startupDue) .startUpSettleExpiry ++ oneIf (s.reached s.wakeDue) .wakeSettleExpiry
    ++ oneIf (s.reached s.silenceDue) .silenceDeadlineExpiry ++ oneIf (s.reached s.ownCycleDue) .ownCycleTimerExpiry

/-- The expiries of one port and its session that have come (R141). -/
def State.duePort (s : State) (p : PortIx) : List Instr :=
  oneIf (s.reached (s.port p).resetDue) (.resetDeadlineExpiry p)
    ++ oneIf (s.reached (s.port p).flapDue) (.flapDeadlineExpiry p)
    ++ oneIf (s.reached ((s.session p).bind (·.windowDue))) (.windowDeadlineExpiry p)
    ++ oneIf (s.reached ((s.session p).bind (·.showDue))) (.showDeadlineExpiry p)

/-- The expiries of one zone that have come: its entries, youngest first so that each position still names its
entry when its turn comes, and its guard (R124, R128). -/
def State.dueZone (s : State) (z : ZoneIx) : List Instr :=
  ([2, 1, 0] : List (Fin 3)).flatMap (fun k =>
      oneIf (s.reached (((s.zone z).entries[k.val]?).map (·.due))) (.entryExpiry z k))
    ++ oneIf (s.reached ((s.zone z).guard.map (·.due))) (.guardExpiry z)

/-- Whether a place is free in the insertion queue while a session waits for it (R12). -/
def State.placeFree (s : State) : Bool :=
  decide (s.insertionQueue.length < 3) && !s.queueWaiting.isEmpty

/-- The hub's own events that have come, in the fixed order of log entry 3. -/
def State.dueEvents (s : State) : List Instr :=
  oneIf s.placeFree .insertionQueuePlace ++ s.dueRun ++ (List.finRange 16).flatMap s.duePort
    ++ (List.finRange 8).flatMap s.dueZone

/-- A port at a tick: its module may begin to send, `begins` being free (log entry 18), where the hub listens and nothing
leaves on the line (R20, R21). -/
def Port.moduleTick (q : Port) (begins : Bool) : Port :=
  { q with moduleSending := q.moduleSending || (decide (q.state ≠ .off) && q.leaving.isNone && begins) }

/-- One tick of the timebase: it runs from the release of the internal reset in every part state (R141), and the
events that come with it are put to the queue. -/
def State.tick (s : State) : State :=
  { s with now := s.now + 1, free := s.free + 1
           ports := Vector.ofFn fun p => (s.port p).moduleTick (Config.moduleBegins s.free p)
           pending := s.pending ++ State.dueEvents { s with now := s.now + 1 } }

/-- What the step does when no command waits: nothing while the internal reset is held (R148), a tick otherwise. -/
def State.idle (s : State) : State := if s.resetHeld then s else s.tick

/-- The state with the command a word spells put at the front of its queue, if the word spells one. -/
def State.withCommand (s : State) (c : Option Instr) : State :=
  match c with
  | none => s
  | some i => { s with pending := i :: s.pending }

end Sys2Proof.Machine
end

