-- ==== Sys2Proof/Machine/Step.lean ====
section
/-! DEFINITION. One step: the command at the front of the queue, or a tick of the timebase when none waits. -/

namespace Sys2Proof.Machine

/-- One step of the hub (log entry 3). -/
def step (s : State) : Host.Outcome State Fault Refusal :=
  match s.pending with
  | [] => .next s.idle
  | c :: rest => exec c { s with pending := rest }

/-- The state with the command a table word spells put at the front of its queue; no row of the table gives bits,
so the state is unchanged. -/
def State.withFetchWord (s : State) (nbits w : Nat) : State := s.withCommand (decodeTableWord nbits w)

end Sys2Proof.Machine
end

