-- ==== Sys2Proof/Safety.lean ====
section
/-! DEFINITION. The laws of the hub's state, in the terms the claims use: each is a law that a rule of spec/ names and that
every step is to keep. None of the meanings reads them. -/

namespace Sys2Proof.Machine

/-- A step that goes on: neither a fault nor a refusal. -/
def Goes (o : Host.Outcome State Fault Refusal) : Prop := ∃ t, o = .next t

/-- The code of the request a command is (R157), none for the other rows of the table. -/
def requestCode : Instr → Option (BitVec 6)
  | .ident => some 0x01
  | .status _ => some 0x02
  | .notices => some 0x03
  | .cause => some 0x04
  | .portRole _ _ => some 0x05
  | .portMask _ _ => some 0x06
  | .sectionWrite _ _ _ _ _ _ _ => some 0x07
  | .sectionRead _ => some 0x08
  | .sectionCounts _ _ _ => some 0x09
  | .sectionClear _ => some 0x0A
  | .zoneWrite _ _ => some 0x0B
  | .zoneRead _ _ => some 0x0C
  | .curveWrite _ _ _ => some 0x0D
  | .curveRead _ _ => some 0x0E
  | .carWrite _ _ _ _ _ => some 0x0F
  | .carRead _ => some 0x10
  | .carIdentity _ => some 0x11
  | .bind _ _ => some 0x12
  | .unbind _ => some 0x13
  | .forget _ => some 0x14
  | .pairOpen _ _ _ => some 0x15
  | .pairCancel _ => some 0x16
  | .pairRead _ _ => some 0x17
  | .revive _ => some 0x18
  | .limits _ _ _ _ => some 0x19
  | .mode _ _ _ _ => some 0x1A
  | .rest => some 0x1B
  | .wake => some 0x1C
  | .softReset => some 0x1D
  | _ => none

/-- How many DATA frames a request has (R157). -/
def requestDataCount : Instr → Nat
  | .sectionWrite _ _ _ _ _ _ _ => 3
  | .carWrite _ _ _ _ _ => 2
  | .portRole _ _ | .portMask _ _ | .sectionCounts _ _ _ | .zoneWrite _ _ | .zoneRead _ _ | .curveWrite _ _ _
  | .bind _ _ | .pairOpen _ _ _ | .pairRead _ _ | .limits _ _ _ _ | .mode _ _ _ _ => 1
  | _ => 0

/-- The request that a code, an argument and data words spell, by the packings of section 9.4 (R157 to R167). -/
def framedRequest (code : BitVec 6) (arg : BitVec 8) (d1 d2 d3 : Word16) : Option Instr :=
  match code.toNat with
  | 1 => some .ident
  | 2 => some (.status (arg.getLsbD 0))
  | 3 => some .notices
  | 4 => some .cause
  | 5 => some (.portRole arg (d1.extractLsb' 0 4))
  | 6 => some (.portMask arg (d1.getLsbD 0))
  | 7 => some (.sectionWrite (arg.extractLsb' 4 4) (arg.extractLsb' 0 4) (d1.extractLsb' 8 8) (d1.extractLsb' 0 8)
      (d2.extractLsb' 8 8) (d2.extractLsb' 0 8) d3)
  | 8 => some (.sectionRead arg)
  | 9 => some (.sectionCounts arg (d1.extractLsb' 0 2) (d1.getLsbD 15))
  | 10 => some (.sectionClear arg)
  | 11 => some (.zoneWrite arg (d1.extractLsb' 0 8))
  | 12 => some (.zoneRead arg (d1.extractLsb' 0 2))
  | 13 => some (.curveWrite (arg.extractLsb' 4 4) (arg.extractLsb' 0 4) (d1.extractLsb' 0 8))
  | 14 => some (.curveRead (arg.extractLsb' 4 4) (arg.extractLsb' 0 4))
  | 15 => some (.carWrite arg (d1.extractLsb' 8 8) (d1.extractLsb' 0 4) (d2.extractLsb' 8 8) (d2.extractLsb' 0 8))
  | 16 => some (.carRead arg)
  | 17 => some (.carIdentity arg)
  | 18 => some (.bind arg (d1.extractLsb' 0 8))
  | 19 => some (.unbind arg)
  | 20 => some (.forget arg)
  | 21 => some (.pairOpen arg (d1.extractLsb' 8 8) (d1.extractLsb' 0 8))
  | 22 => some (.pairCancel arg)
  | 23 => some (.pairRead arg (d1.extractLsb' 0 2))
  | 24 => some (.revive arg)
  | 25 => some (.limits (arg.getLsbD 0) (arg.getLsbD 1) (d1.extractLsb' 8 8) (d1.extractLsb' 0 8))
  | 26 => some (.mode (arg.getLsbD 0) (arg.getLsbD 1) (d1.getLsbD 15) (d1.extractLsb' 0 8))
  | 27 => some .rest
  | 28 => some .wake
  | 29 => some .softReset
  | _ => none

/-- The four commands that are taken while the internal reset is held (R148). -/
def isResetCommand : Instr → Bool
  | .powerOn | .resetPinAssertion | .supplyDip | .internalResetRelease _ => true
  | _ => false

/-- No reset is held and the reply queue has a place, so a request that completes is executed (R148, R153). -/
def State.TakesRequests (s : State) : Prop := s.resetHeld = false ∧ s.replies.length < 4

/-- The rail output is shared through its waiting line (R10): in HALT, and in RUN until the line is empty. -/
def State.Shared (s : State) : Prop := s.part = .halt ∨ (s.part = .run ∧ s.waitingLine ≠ [])

/-- What becomes, in `t`, of a frame that falls due on the shared output of `s` (R10): it leaves when the output is free and
none waits, waits behind at most one other, and is discarded while two wait. -/
def State.FallsDue (s : State) (x : LineItem) (t : State) : Prop :=
  (s.railOut = none → s.waitingLine = [] → t = { s with
    railOut := some x.rail, window := x.window, closing := s.closing ++ s.window.toList }) ∧
  (s.railOut ≠ none ∨ s.waitingLine ≠ [] → s.waitingLine.length < 2 →
    t = { s with waitingLine := s.waitingLine ++ [x] }) ∧
  (2 ≤ s.waitingLine.length → t = s)

/-- What a free position takes from an insertion queue (R9, R14): FILL, or the first frame not yet sent of the oldest sequence
with the answer window that will follow it; and the queue that is left. -/
def FreeTakes (queue : List Sequence) (x : LineItem) (left : List Sequence) : Prop :=
  (queue = [] → x = ⟨.fill, none⟩ ∧ left = []) ∧
  ∀ q rest, queue = q :: rest →
    (∀ k : Fin 4, q.sent = k.val →
      x = ⟨.select k (q.identity.extractLsb' (16 * k.val) 16), none⟩ ∧ left = { q with sent := q.sent + 1 } :: rest) ∧
    (q.sent = 4 → x = ⟨.assign q.address, some (.assign q.port)⟩ ∧ left = rest)

/-- What a partial request leaves when another frame than DATA interrupts it (R154): gone, and answered MALFORMED or, at a full
reply queue, dropped and counted. -/
def State.interrupted (s : State) (r : Assembly) : State :=
  if s.replies.length < 4 then { s with assembly := none, replies := s.replies ++ [⟨r.code, .malformed, []⟩] }
  else { s with
    assembly := none, dropped := if s.dropped < 65535 then s.dropped + 1 else s.dropped
    notices := setFlag s.notices .requestDropped }

/-- The positions give one frame each and no frame waits (R6, R10). -/
def State.Unshared (s : State) : Prop :=
  (s.part = .startup ∨ s.part = .run ∨ s.part = .waking) ∧ (s.part = .run → s.waitingLine = [])

/-- The argument of a request that names a slot (R157). -/
def slotArg (h : SlotIx) : BitVec 8 := BitVec.ofNat 8 h.val

/-- The argument of a request that names a car (R157). -/
def carArg (a : CarIx) : BitVec 8 := BitVec.ofNat 8 (addressOf a)

/-- The argument of a request that names a port (R157). -/
def portArg (p : PortIx) : BitVec 8 := BitVec.ofNat 8 p.val

/-- The argument of a request that names a zone (R157). -/
def zoneArg (z : ZoneIx) : BitVec 8 := BitVec.ofNat 8 z.val

/-- The code of a car in a port message (00_scope.md, "Car codes"). -/
def carCode (a : CarIx) : BitVec 5 := BitVec.ofNat 5 (addressOf a)

/-- The cap on a car's speed that R53 names: the least of its limit, the cross cap of the section of any entry holding
it and, under CAUTION, the caution cap. -/
def State.CapsCar (s : State) (a : CarIx) (c : Nat) : Prop :=
  c = (s.car a).limit ∨ (s.race = .caution ∧ c = s.cautionCap) ∨
    ∃ z, ∃ e ∈ (s.zone z).entries, e.car = some a ∧ c = (s.port e.port).config.cap

/-! ### What several commands have in common -/

/-- How many data words the reply to an accepted request has (R157). -/
def requestReplyCount : Instr → Nat
  | .ident | .status _ | .sectionRead _ | .carRead _ | .carIdentity _ | .rest | .wake => 4
  | .sectionWrite _ _ _ _ _ _ _ => 3
  | .notices | .zoneRead _ _ | .carWrite _ _ _ _ _ => 2
  | .cause | .zoneWrite _ _ | .pairOpen _ _ _ | .limits _ _ _ _ | .mode _ _ _ _ => 1
  | .sectionCounts _ page _ => if page = 2 then 2 else 4
  | .curveRead _ half => if half = 0 then 4 else 1
  | .pairRead _ page => if page = 0 then 2 else 4
  | _ => 0

/-- A request of which an identifier or a selector lies outside its range (R156, R157, R159 to R167). -/
def RequestOutOfRange : Instr → Prop
  | .portRole port role => 16 ≤ port.toNat ∨ 4 ≤ role.toNat
  | .portMask port _ | .sectionRead port | .sectionClear port | .pairCancel port => 16 ≤ port.toNat
  | .sectionCounts port page _ => 16 ≤ port.toNat ∨ page = 3
  | .sectionWrite _ zone _ _ _ _ _ => 8 ≤ zone.toNat
  | .zoneWrite zone _ | .zoneRead zone _ => 8 ≤ zone.toNat
  | .curveWrite curve point _ => 4 ≤ curve.toNat ∨ 9 ≤ point.toNat
  | .curveRead curve half => 4 ≤ curve.toNat ∨ 2 ≤ half.toNat
  | .carWrite address _ curve _ _ => address = 0 ∨ 25 ≤ address.toNat ∨ 4 ≤ curve.toNat
  | .carRead address | .carIdentity address | .forget address | .revive address => address = 0 ∨ 25 ≤ address.toNat
  | .bind slot address => 24 ≤ slot.toNat ∨ address = 0 ∨ 25 ≤ address.toNat
  | .unbind slot => 24 ≤ slot.toNat
  | .pairOpen port slot _ => 16 ≤ port.toNat ∨ (24 ≤ slot.toNat ∧ slot ≠ 255)
  | .pairRead port page => 16 ≤ port.toNat ∨ 2 ≤ page.toNat
  | .mode _ writeBay _ bay => writeBay = true ∧ 16 ≤ bay.toNat ∧ bay ≠ 255
  | _ => False

/-- The state with one reply more in the reply queue (R155). -/
def State.replied (s : State) (code : BitVec 6) (status : Status) (words : List Word16) : State :=
  { s with replies := s.replies ++ [⟨code, status, words⟩] }

/-- The state in which a module message at port `p` is complete: it occupies the line no more (R20, R21). -/
def State.heard (s : State) (p : PortIx) : State :=
  { s with ports := s.ports.set p { s.port p with moduleSending := false } }

/-- In `u` the oldest owed window of those that `f` names, which is `w`, is closed (R16, R17): one closed early by a later
frame first; the close of the open one frees the rail output. -/
def State.Closes (s : State) (f : AnswerWindow → Prop) (w : AnswerWindow) (u : State) : Prop :=
  f w ∧ ((∃ older newer, s.closing = older ++ w :: newer ∧ (∀ v ∈ older, ¬f v) ∧
      u = { s with closing := older ++ newer }) ∨
    ((∀ v ∈ s.closing, ¬f v) ∧ s.window = some w ∧ u = { s with window := none, railOut := none }))

/-- The window that follows an ASSIGN frame tagged with port `p`, whether its session still waits for it or has ended. -/
def AnswerWindow.OfPort (p : PortIx) (w : AnswerWindow) : Prop := w = .assign p ∨ w = .abandoned p

/-- The latch of car `b` when `s` becomes `t` by a change of bindings (R36): kept while holder and driving slot are as they
were, else cleared. -/
def State.LatchFollows (s t : State) (b : CarIx) : Prop :=
  (t.car b).armed =
    (decide ((t.car b).holder = (s.car b).holder) && decide (t.drivingSlot b = s.drivingSlot b) && (s.car b).armed)

/-- Port `p` in `t` after the engine has asked for a lamp there (R70): sent when the port is READY; the other ports are as
they were. -/
def State.LampAsked (s t : State) (p : PortIx) (v : Lamp) : Prop :=
  (∀ q, q ≠ p → t.port q = s.port q) ∧
    t.port p = if (s.port p).state = .ready then (s.port p).issue (.lamp v) else s.port p

/-- What steps 1 to 4 of R81 leave of the session `x` of port `p`: no waiting, no sequence, no reservation, no claim; an ASSIGN
result still owed, or to come of a frame that waits to leave, will be discarded (R82). Tables and lists they do not touch
are not spoken of. -/
def State.SessionReleased (s t : State) (p : PortIx) (x : Session) : Prop :=
  t.insertionQueue = s.insertionQueue.filter (fun q => decide (q.port ≠ p)) ∧
  t.queueWaiting = s.queueWaiting.filter (fun q => decide (q ≠ p)) ∧
  t.window = s.window.map (AnswerWindow.abandon p) ∧ t.closing = s.closing.map (AnswerWindow.abandon p) ∧
  t.waitingLine = s.waitingLine.map (LineItem.abandon p) ∧
  (∀ g, t.slot g = { s.slot g with claim := if x.slot = some g then none else (s.slot g).claim }) ∧
  ∀ b, s.LatchFollows t b ∧ t.car b = { s.car b with
    armed := (t.car b).armed
    reservation := if x.address = some b ∧ (x.state = .queued ∨ x.state = .sending) then none
      else (s.car b).reservation }

/-- The open session `x` of port `p` fails with a reason (R81). -/
def State.SessionFails (s t : State) (p : PortIx) (x : Session) (why : SessionOutcome) : Prop :=
  t = { s with
    slots := t.slots, cars := t.cars, ports := t.ports, insertionQueue := t.insertionQueue
    queueWaiting := t.queueWaiting, window := t.window, closing := t.closing, waitingLine := t.waitingLine
    sessions := s.sessions.set p (some { x with
      state := .showFailed, windowDue := none, outcome := some why, showDue := some (s.now + 2000) })
    notices := setFlag s.notices .pairFailed, lastPort := some p } ∧
  s.SessionReleased t p x ∧ s.LampAsked t p .fast

/-- The session `x` of port `p` asks to enqueue its sequence of an identity and an address (R12, R78): it is SENDING with
the sequence appended when a place is free and none waits before it, else it waits QUEUED. -/
def State.SessionEnqueues (s t : State) (p : PortIx) (x : Session) (id : Identity) (a : CarIx) : Prop :=
  (s.insertionQueue.length < 3 ∧ s.queueWaiting = [] → t = { s with
    cars := t.cars, sessions := s.sessions.set p (some { x with state := .sending })
    insertionQueue := s.insertionQueue ++ [⟨p, id, a, 0⟩] }) ∧
  (¬(s.insertionQueue.length < 3 ∧ s.queueWaiting = []) → t = { s with
    cars := t.cars, sessions := s.sessions.set p (some { x with state := .queued })
    queueWaiting := s.queueWaiting ++ [p] })

/-- The session `x` of port `p`, of identity `id`, takes car `a` (R40, R77). -/
def State.SessionReserves (s t : State) (p : PortIx) (x : Session) (id : Identity) (a : CarIx) : Prop :=
  s.SessionEnqueues t p { x with address := some a, windowDue := none } id a ∧
  t.car a = { s.car a with reservation := some p, armed := false } ∧
  ∀ b, b ≠ a → t.car b = { s.car b with armed := (t.car b).armed } ∧ s.LatchFollows t b

/-- A SWITCH port asked to return its flap (R104): in THROWN it issues STRAIGHT and returns, in THROWING it marks the return;
in any other state nothing happens. -/
def Port.returned (q : Port) : Port :=
  if q.state = .thrown then
    { q.issue .straight with
      state := .returning, extension := 0, returnPending := false, flapDue := none, flapAwaiting := true }
  else if q.state = .throwing then { q with returnPending := true }
  else q

/-- The entry `e` at place `k` of zone `z` leaves (R115): the others keep their order, the conflict flag falls with the last, the
port is asked to return when it is a SWITCH port with no entry left in the list, and the reason's counter is raised there. -/
def State.EntryLeaves (s t : State) (z : ZoneIx) (k : Nat) (e : Entry) (count : Counters → Counters) : Prop :=
  ∃ rest, rest = (s.zone z).entries.eraseIdx k ∧
    t = { s with
      ports := t.ports
      zones := s.zones.set z { s.zone z with entries := rest, conflict := (s.zone z).conflict && !rest.isEmpty } } ∧
    (∀ q, q ≠ e.port → t.port q = s.port q) ∧
    ((s.port e.port).role = .switch → (∀ d ∈ rest, d.port ≠ e.port) →
      t.port e.port = { (s.port e.port).returned with counters := count (s.port e.port).counters }) ∧
    ((s.port e.port).role ≠ .switch ∨ (∃ d ∈ rest, d.port = e.port) →
      t.port e.port = { s.port e.port with counters := count (s.port e.port).counters })

/-! ### Slots and cars -/

/-- Holder and binding are mirror images (R24). -/
def State.Mirrored (s : State) : Prop := ∀ a h, (s.car a).holder = some h ↔ (s.slot h).binding = some a

/-- No two car records hold the same identity (R42). -/
def State.IdentitiesDistinct (s : State) : Prop :=
  ∀ a b id, (s.car a).identity = some id → (s.car b).identity = some id → a = b

/-- An ARMED car is driven, unreserved and not LOST, the race record reads GREEN with lane changes enabled, and the part
is in a state that the latch can stand in (R31, R33, R118). -/
def State.ArmedLawful (s : State) : Prop :=
  ∀ a, (s.car a).armed = true →
    s.driven a = true ∧ (s.car a).reservation = none ∧ (s.car a).link ≠ .lost ∧ s.laneOpen = true ∧
      (s.part = .run ∨ s.part = .rest ∨ s.part = .waking)

/-- The link fields of a car (R56): the count within its range, LOST only at count 255, outside LOST the link state that the
count gives and streak 0, in LOST a streak 0..23. -/
def Car.LinkLawful (c : Car) : Prop :=
  c.faults ≤ 255 ∧ c.streak ≤ 23 ∧ (c.link = .lost → c.faults = 255) ∧
    (c.link ≠ .lost → c.link = linkOf c.faults ∧ c.streak = 0)

/-- Every car's link fields are lawful (R56). -/
def State.LinksLawful (s : State) : Prop := ∀ a, (s.car a).LinkLawful

/-- The car parameters and the fine speed stay in the ranges of R25, the curve points and the caution cap in those of R44 and
R45, the silence timeout in that of R142. -/
def State.SpeedsInRange (s : State) : Prop :=
  (∀ a, (s.car a).limit ≤ 255 ∧ 1 ≤ (s.car a).up ∧ (s.car a).up ≤ 255 ∧ 1 ≤ (s.car a).down ∧ (s.car a).down ≤ 255 ∧
    (s.car a).fine ≤ 255) ∧
  (∀ (c : Fin 4) (k : Fin 9), s.curves[c][k] ≤ 255) ∧ s.cautionCap ≤ 255 ∧
    50 ≤ s.silenceTimeout ∧ s.silenceTimeout ≤ 1000

/-! ### Zones and ports -/

/-- The crossing lists (R112, R113, R116): at most three entries, each of a SWITCH or DELEGATED port and in the list of that
port's zone; capacity 1..3; no conflict flag on an empty list; a car in at most one entry of all zones. -/
def State.ListsLawful (s : State) : Prop :=
  (∀ z, 1 ≤ (s.zone z).capacity ∧ (s.zone z).capacity ≤ 3 ∧ (s.zone z).entries.length ≤ 3 ∧
    ((s.zone z).entries = [] → (s.zone z).conflict = false) ∧ ((s.zone z).entries.filterMap (·.car)).Nodup ∧
    ∀ e ∈ (s.zone z).entries, s.zoneOfPort e.port = z ∧
      ((s.port e.port).role = .switch ∨ (s.port e.port).role = .delegated)) ∧
  ∀ z y, ∀ d ∈ (s.zone z).entries, ∀ e ∈ (s.zone y).entries, d.car.isSome → d.car = e.car → z = y

/-- A section's configuration in the ranges that R98 and R160 give it, its times multiples of their units. -/
def SectionConfig.InRange (c : SectionConfig) : Prop :=
  c.cap ≤ 255 ∧ 100 ≤ c.hold ∧ c.hold ≤ 5000 ∧ 20 ∣ c.hold ∧ c.guardTime ≤ 2000 ∧ 10 ∣ c.guardTime ∧
    10 ≤ c.flapTimeout ∧ c.flapTimeout ≤ 250 ∧ c.threshold ≤ 65535

/-- The seven decision and exit counters are 16 bits wide (R99). -/
def Counters.InRange (n : Counters) : Prop :=
  n.grant ≤ 65535 ∧ n.deny ≤ 65535 ∧ n.completed ≤ 65535 ∧ n.missed ≤ 65535 ∧ n.expired ≤ 65535 ∧ n.swept ≤ 65535 ∧
    n.presumed ≤ 65535

/-- A port record (R92, R96, R98, R99, R102, R104, R106): the states its role allows, the mask and return-pending where they
can stand, the deadlines that run in its state, the marks for late flap reports (log entry 36), and its configuration and
counters in their ranges. -/
def Port.Lawful (q : Port) : Prop :=
  (q.state = .off ↔ q.role = .unused) ∧
  (q.state = .straight ∨ q.state = .throwing ∨ q.state = .thrown ∨ q.state = .returning ∨ q.state = .fault →
    q.role = .switch) ∧
  (q.state = .ready → q.role = .bay ∨ q.role = .delegated) ∧
  (q.masked = true → q.role = .switch) ∧ (q.returnPending = true → q.state = .throwing) ∧
  (q.resetDue.isSome ↔ q.state = .resetting) ∧
  (q.flapDue.isSome ∨ q.flapAwaiting = true → q.state = .throwing ∨ q.state = .returning) ∧
  (q.lateMotion = true ∨ q.roleTaken.isSome → q.state = .resetting) ∧
  q.extension ≤ 2 ∧ q.errors ≤ 255 ∧ q.throws ≤ 65535 ∧ q.config.InRange ∧ q.counters.InRange

/-- Every port record is lawful, and at most four ports hold the BAY role (R92). -/
def State.PortsLawful (s : State) : Prop :=
  (∀ p, (s.port p).Lawful) ∧ s.bayCount ≤ 4

/-- A SWITCH port in THROWN, or on its way there with no return pending, has an entry in its zone's list (R103). -/
def State.FlapsServeEntries (s : State) : Prop :=
  ∀ p, (s.port p).state = .thrown ∨ ((s.port p).state = .throwing ∧ (s.port p).returnPending = false) →
    (s.zone (s.zoneOfPort p)).holds p = true

/-- In REST every port is OFF or DORMANT, every session CLOSED or gone and nothing waits to leave; outside REST no port is
DORMANT (R109, R145, R146). -/
def State.RestLawful (s : State) : Prop :=
  (s.part = .rest → (∀ p, (s.port p).state = .off ∨ (s.port p).state = .dormant) ∧
    (∀ p x, s.session p = some x → x.state = .closed) ∧ s.waitingLine = []) ∧
  (s.part ≠ .rest → ∀ p, (s.port p).state ≠ .dormant)

/-! ### Pairing -/

/-- The ports of the live ASSIGN windows still owed (R17). -/
def AnswerWindow.livePort : AnswerWindow → Option PortIx
  | .assign p => some p
  | .car _ => none
  | .abandoned _ => none

/-- The answer windows that have not closed (R10, R16, R17): those closed early whose result is owed, the open one, and those
to come of the frames that wait to leave. -/
def State.windows (s : State) : List AnswerWindow := s.closing ++ s.window.toList ++ s.waitingLine.filterMap (·.window)

/-- The ports whose session waits for a place, has its sequence in the queue, or awaits its ASSIGN answer (R12, R70). -/
def State.pairingPorts (s : State) : List PortIx :=
  s.queueWaiting ++ s.insertionQueue.map (·.port) ++ s.windows.filterMap AnswerWindow.livePort

/-- The fields of a session that its state fixes (R69, R70, R83, R84): slot, identity and address held in QUEUED and SENDING,
and each deadline running in its states alone, and the third silent attempt ends the session. -/
def Session.Lawful (x : Session) : Prop :=
  (x.state.holdsCar = true → x.slot.isSome ∧ x.identity.isSome ∧ x.address.isSome) ∧
  (x.windowDue.isSome ↔ x.state = .waiting) ∧ (x.showDue.isSome ↔ x.state = .showDone ∨ x.state = .showFailed) ∧
  x.attempts ≤ 3 ∧ (x.state.isOpen = true → x.attempts ≤ 2)

/-- The sessions (R69, R74): one for each BAY port alone; a slot's claim and a car's reservation are the mirror images of the
open sessions' slots and of the QUEUED and SENDING sessions' addresses. -/
def State.SessionsLawful (s : State) : Prop :=
  (∀ p, (s.session p).isSome ↔ (s.port p).role = .bay) ∧ (∀ p x, s.session p = some x → x.Lawful) ∧
  (∀ h p, (s.slot h).claim = some p ↔ ∃ x, s.session p = some x ∧ x.state.isOpen = true ∧ x.slot = some h) ∧
  ∀ a p, (s.car a).reservation = some p ↔ ∃ x, s.session p = some x ∧ x.state.holdsCar = true ∧ x.address = some a

/-- The insertion queue (R12, R78): at most three sequences; a session waits, is queued or awaits its answer in one place alone;
those that wait are QUEUED, the others SENDING, and a queued sequence carries its session's identity and address. Every
QUEUED or SENDING session stands in such a place, unless the internal reset is held, which gives an open window no result
(R148). -/
def State.QueueLawful (s : State) : Prop :=
  s.insertionQueue.length ≤ 3 ∧ s.pairingPorts.Nodup ∧
  (∀ p ∈ s.queueWaiting, ∃ x, s.session p = some x ∧ x.state = .queued) ∧
  (∀ q ∈ s.insertionQueue, q.sent ≤ 4 ∧ ∃ x, s.session q.port = some x ∧ x.state = .sending ∧
    x.identity = some q.identity ∧ x.address = some q.address) ∧
  (∀ p, .assign p ∈ s.windows → ∃ x, s.session p = some x ∧ x.state = .sending) ∧
  (s.resetHeld = false → ∀ p x, s.session p = some x → x.state.holdsCar = true → p ∈ s.pairingPorts)

/-! ### Run Control and Management -/

/-- Run Control's deadlines run in their part states alone (R139, R141, R142, R144, R147). -/
def State.DeadlinesLawful (s : State) : Prop :=
  (s.startupDue.isSome ↔ s.part = .startup) ∧ (s.wakeDue.isSome ↔ s.part = .waking) ∧
  (s.silenceDue.isSome ↔ s.part = .run) ∧ (s.ownCycleDue.isSome ↔ s.part = .halt)

/-- The limits of the Management Unit's and the Frame Router's lists (R10, R18, R152, R155): at most four replies of at most
four words, at most two frames waiting, a return window of at most five frames, and a request that awaits at least one more
word. -/
def State.BuffersLawful (s : State) : Prop :=
  s.replies.length ≤ 4 ∧ (∀ r ∈ s.replies, r.words.length ≤ 4) ∧ s.waitingLine.length ≤ 2 ∧
  s.returnWindow.length ≤ 5 ∧ ∀ r, s.assembly = some r → r.words.length < r.count.toNat

/-- The strap sampled high keeps the direct fallback on (R28). -/
def State.StrapHolds (s : State) : Prop := s.strap = true → s.directFallback = true

/-- The counters that saturate keep their ranges (R3, R153, R170). -/
def State.CountersInRange (s : State) : Prop :=
  s.frameErrors ≤ 65535 ∧ s.kindErrors ≤ 65535 ∧ s.dropped ≤ 65535

/-- Every change of the part state that a step makes is one of the edges of R138, the two resets' STARTUP aside. -/
def PartEdge (a b : PartState) : Prop :=
  a = b ∨ b = .startup ∨ (a = .startup ∧ b = .run) ∨ (a = .run ∧ (b = .halt ∨ b = .rest)) ∨ (a = .halt ∧ b = .run) ∨
    (a = .rest ∧ b = .waking) ∨ (a = .waking ∧ b = .run)

end Sys2Proof.Machine
end

