-- ==== Sys2Proof/Certificates/Slice0/Obligations.lean ====
section
/-! DEFINITION. The statements put to the provers, block by block; OBLIGATIONS.json says of each what it rests on. -/

section

open Sys2Proof Sys2Proof.Machine

/-! ### The machine and its resets -/

/-- A step with a command at the front of the queue is the execution of that command with the queue's rest. -/
def Obligations.StepTakesTheFrontCommand : Prop :=
  ∀ (c : Instr) (rest : List Instr) (s : State), s.pending = c :: rest → step s = exec c { s with pending := rest }

/-- The model's choice (log entry 3): on an empty queue the step is one tick of the timebase of R141. Each deadline that runs
and has come puts its expiry in the queue, and a stopped deadline puts none. Besides time and queue the tick changes only
that a module may begin to send at a port that is not OFF and whose line the hub does not use; when it does is free (log
entry 18). While the internal reset is held nothing happens. -/
def Obligations.IdleStepIsOneTick : Prop :=
  ∀ s : State, s.pending = [] →
    (s.resetHeld = true → step s = .next s) ∧
    (s.resetHeld = false → ∃ t, step s = .next t ∧
      t = { s with now := s.now + 1, pending := t.pending, free := s.free + 1, ports := t.ports } ∧
      (∀ p, t.port p = s.port p ∨ (t.port p = { s.port p with moduleSending := true } ∧ (s.port p).state ≠ .off ∧
        (s.port p).leaving = none)) ∧
      (.startUpSettleExpiry ∈ t.pending ↔ ∃ d ∈ s.startupDue, d ≤ s.now + 1) ∧
      (.wakeSettleExpiry ∈ t.pending ↔ ∃ d ∈ s.wakeDue, d ≤ s.now + 1) ∧
      (.silenceDeadlineExpiry ∈ t.pending ↔ ∃ d ∈ s.silenceDue, d ≤ s.now + 1) ∧
      (.ownCycleTimerExpiry ∈ t.pending ↔ ∃ d ∈ s.ownCycleDue, d ≤ s.now + 1) ∧
      (∀ p, .resetDeadlineExpiry p ∈ t.pending ↔ ∃ d ∈ (s.port p).resetDue, d ≤ s.now + 1) ∧
      (∀ p, .flapDeadlineExpiry p ∈ t.pending ↔ ∃ d ∈ (s.port p).flapDue, d ≤ s.now + 1) ∧
      (∀ p, .windowDeadlineExpiry p ∈ t.pending ↔ ∃ x ∈ s.session p, ∃ d ∈ x.windowDue, d ≤ s.now + 1) ∧
      (∀ p, .showDeadlineExpiry p ∈ t.pending ↔ ∃ x ∈ s.session p, ∃ d ∈ x.showDue, d ≤ s.now + 1) ∧
      (∀ z (k : Fin 3), .entryExpiry z k ∈ t.pending ↔ ∃ e ∈ (s.zone z).entries[k.val]?, e.due ≤ s.now + 1) ∧
      (∀ z, .guardExpiry z ∈ t.pending ↔ ∃ g ∈ (s.zone z).guard, g.due ≤ s.now + 1) ∧
      (.insertionQueuePlace ∈ t.pending ↔ s.insertionQueue.length < 3 ∧ s.queueWaiting ≠ []))

/-- Every command is answered with a next state, in every state, and none of them touches the queue of commands. That no command,
no reset and no SOFT_RESET among them, takes from or adds to that queue is the model's choice (log entries 8 and 29). -/
def Obligations.EveryCommandGoesOnAndLeavesTheQueue : Prop :=
  ∀ (c : Instr) (s : State), ∃ t, exec c s = .next t ∧ t.pending = s.pending

/-- The three hard-reset sources hold the internal reset, cut off what leaves and the open window, and write the cause
record as the table of R149 says: power-on POWER alone, the others a flag added. Nothing else changes before the
release. While the reset is held the hub takes no frames and no messages (R148); that no other command (an expiry, a
request, the end of a window, the event of a line) changes anything then is the model's reading (log entry 7). -/
def Obligations.ResetSourcesHoldTheReset : Prop :=
  (∀ (c : Instr) (s : State), s.resetHeld = true → isResetCommand c = false → exec c s = .next s) ∧
  ∀ (c : Instr) (cause : Cause) (s : State),
    (c = .powerOn ∧ cause = ⟨true, false, false, false⟩) ∨ (c = .resetPinAssertion ∧ cause = { s.cause with pin := true }) ∨
      (c = .supplyDip ∧ cause = { s.cause with supply := true }) →
    ∃ t, exec c s = .next t ∧
      t = { s with resetHeld := true, cause := cause, railOut := none, window := none, closing := [], returnWindow := [],
                   rxBits := [], ports := t.ports } ∧
      ∀ p, t.port p = { s.port p with leaving := none, moduleSending := false }

/-- At the release of the internal reset every block takes the hard-reset values its chapter gives, whatever the state
before; the cause record is kept and the strap decides the direct fallback. The timebase's start at 0 is the model's
(log entry 6), and so is that the queue of commands stays (log entry 8). State.reset is the state right after a release that
follows a power-on; that the strap is low and the free counter 0 there is the model's choice (log entries 5 and 16). -/
def Obligations.ReleaseGivesTheHardResetValues : Prop :=
  (∀ s : State, s.pending = [] → s.free = 0 →
    ∃ t, exec .powerOn s = .next t ∧ exec (.internalResetRelease false) t = .next State.reset) ∧
  ∀ (high : Bool) (s : State), ∃ t, exec (.internalResetRelease high) s = .next t ∧
    (t.resetHeld = false ∧ t.part = .startup ∧ t.now = 0 ∧ t.startupDue = some 200 ∧ t.wakeDue = none ∧
      t.silenceDue = none ∧ t.ownCycleDue = none ∧ t.silenceTimeout = 250 ∧ t.race = .stop ∧ t.laneEnable = false ∧
      t.cause = s.cause ∧ t.strap = high ∧ t.directFallback = high) ∧
    (t.rxBits = [] ∧ t.returnWindow = [] ∧ t.insertionQueue = [] ∧ t.queueWaiting = [] ∧ t.railOut = none ∧
      t.window = none ∧ t.closing = [] ∧ t.waitingLine = []) ∧
    (∀ h, t.slot h = { binding := none, lastLane := false, lastPair := false, claim := none }) ∧
    (∀ a, t.car a = { identity := none, holder := none, reservation := none, curve := 0, limit := 255, up := 32,
                      down := 64, fine := 0, armed := false, link := .active, faults := 0, streak := 0 }) ∧
    (∀ c : Fin 4, t.curves[c] = #v[0, 32, 65, 97, 130, 162, 194, 227, 255]) ∧ t.cautionCap = 96 ∧
    (∀ p, t.session p = none) ∧ t.defaultBay = none ∧
    (∀ p, (t.port p).role = .unused ∧ (t.port p).masked = false ∧ (t.port p).state = .off ∧ (t.port p).errors = 0 ∧
      (t.port p).kind = none ∧ (t.port p).faultCode = none ∧ (t.port p).resetDue = none ∧
      (t.port p).config.zone.val = p.val % 8 ∧ (t.port p).config.cap = 160 ∧ (t.port p).config.hold = 1500 ∧
      (t.port p).config.guardTime = 300 ∧ (t.port p).config.flapTimeout = 60 ∧ (t.port p).config.threshold = 0 ∧
      (t.port p).throws = 0 ∧ (t.port p).counters = ⟨0, 0, 0, 0, 0, 0, 0⟩ ∧ (t.port p).lastDecision = none ∧
      (t.port p).returnPending = false ∧ (t.port p).extension = 0 ∧ (t.port p).flapDue = none ∧
      (t.port p).leaving = none ∧ (t.port p).waiting = []) ∧
    (∀ z, t.zone z = { capacity := 3, entries := [], guard := none, conflict := false }) ∧
    t.assembly = none ∧ t.replies = [] ∧ t.notices = 0 ∧ t.lastCar = none ∧ t.lastPort = none ∧ t.frameErrors = 0 ∧
    t.kindErrors = 0 ∧ t.dropped = 0 ∧ t.pending = s.pending ∧ t.free = s.free

/-- A soft reset where requests are taken (R155: no hub reset held, fewer than four replies queued), in whichever state the
hub is, completes: what the table of R150 keeps is kept, what it clears is cleared, the reply is alone in
the emptied queue, and a frame leaving goes on with its answer window (R15, R66): a CAR window stays its car's, and of a
window tagged with a session's port, whose session is closed here, the result will be discarded. The last is the model's
reading (log entry 14), and so are that a return window goes on (log entry 22), that the queue of commands stays (log
entry 29), and that a flap's motion cut off here is marked as one that may still be reported (log entry 36). -/
def Obligations.SoftResetKeepsConfigurationAlone : Prop :=
  ∀ s : State, s.TakesRequests → ∃ t, exec .softReset s = .next t ∧
    (t.part = .startup ∧ t.startupDue = some (s.now + 200) ∧ t.wakeDue = none ∧ t.silenceDue = none ∧
      t.ownCycleDue = none ∧ t.race = .stop ∧ t.laneEnable = false ∧ t.cause = { s.cause with soft := true } ∧
      t.now = s.now ∧ t.silenceTimeout = s.silenceTimeout ∧ t.resetHeld = false) ∧
    (t.replies = [⟨0x1D, .ok, []⟩] ∧ t.assembly = none ∧ t.notices = 0 ∧ t.lastCar = none ∧ t.lastPort = none ∧
      t.frameErrors = 0 ∧ t.kindErrors = 0 ∧ t.dropped = 0) ∧
    (t.insertionQueue = [] ∧ t.queueWaiting = [] ∧ t.waitingLine = [] ∧ t.railOut = s.railOut ∧
      t.window = s.window.map AnswerWindow.cut ∧ t.closing = s.closing.map AnswerWindow.cut ∧ t.rxBits = s.rxBits ∧
      t.returnWindow = s.returnWindow) ∧
    (∀ h, t.slot h = { s.slot h with claim := none }) ∧
    (∀ a, t.car a = { s.car a with reservation := none, armed := false, fine := 0, link := .active, faults := 0,
                                   streak := 0 }) ∧
    t.directFallback = s.directFallback ∧ t.strap = s.strap ∧ t.curves = s.curves ∧ t.cautionCap = s.cautionCap ∧
    t.defaultBay = s.defaultBay ∧
    (∀ p, t.session p = (s.session p).map fun x =>
      { x with state := .closed, windowDue := none, showDue := none,
               outcome := if x.state.isOpen then some .aborted else x.outcome }) ∧
    (∀ p, (s.port p).state = .off → t.port p =
      { s.port p with errors := 0, counters := ⟨0, 0, 0, 0, 0, 0, 0⟩, lastDecision := none }) ∧
    (∀ p, (s.port p).state ≠ .off → t.port p =
      { s.port p with state := .resetting, resetDue := some (s.now + 100), errors := 0, counters := ⟨0, 0, 0, 0, 0, 0, 0⟩,
                      lastDecision := none, faultCode := none, returnPending := false, extension := 0, flapDue := none,
                      flapAwaiting := false, leaving := (t.port p).leaving, waiting := (t.port p).waiting,
                      lateMotion := (s.port p).lateMotion || (decide ((s.port p).role = .switch) &&
                        (decide ((s.port p).state = .throwing) || decide ((s.port p).state = .returning))) } ∧
      (t.port p).leaving.toList ++ (t.port p).waiting = (s.port p).leaving.toList ++
        (if (s.port p).state = .dormant then [.power true] else []) ++ [.moduleReset]) ∧
    (∀ z, t.zone z = { s.zone z with entries := [], guard := none, conflict := false }) ∧
    t.pending = s.pending ∧ t.free = s.free

/-! ### The layouts of frames and port messages -/

/-- R1 and the classification of R2 with the fields of section 1.1. The check makes a frame sound and only the sound frames
pass the hub's test; what the hub sends is sound; a CYCLE or AUX frame passed through keeps its check; the hub's own FILL
and CYCLE frames are 0x00000F and 0x1C0002; CAR, ASSIGN, SELECT, REPLY, DATA and ATTENTION frames have the kinds and
fields that the tables of section 1.1 give them, and the race states, statuses and notices their numbers there. A sound frame of kind 0x5
to 0xB or 0xF is a kind error, a sound DRIVE frame of slot 24..31 a frame error; every other one is the command of its kind
with the fields its layout names, and the bits it marks as ignored do not matter. -/
def Obligations.FramesAreCheckedAndClassified : Prop :=
  (∀ (kind : BitVec 4) (body : Word16), sound (frameOf kind body) = true ∧
    ∀ check : BitVec 4, sound (kind ++ body ++ check) = true → kind ++ body ++ check = frameOf kind body) ∧
  (∀ w : Word24, sound w = false → upstreamCommand w = .frameError) ∧
  (∀ f : RailFrame, sound f.word = true) ∧ (∀ f : ReturnFrame, sound f.word = true) ∧
  (∀ (w : Word24) (r : RaceState) (e : Bool) (b : BitVec 13), upstreamCommand w = .cycleFrame r e b →
    (RailFrame.cycle r e b).word = w) ∧
  (∀ (w : Word24) (k : Fin 3) (b : Word16), upstreamCommand w = .auxFrame k b → (RailFrame.aux k b).word = w) ∧
  RailFrame.fill.word = 0x00000F ∧ ownCycle.word = 0x1C0002 ∧
  ([.grid, .green, .caution, .stop] : List RaceState).map RaceState.bits = [0, 1, 2, 3] ∧
  (∀ (a : CarIx) (step : Nat) (brake lamp : Bool), step ≤ 15 → (RailFrame.car a step brake lamp).word = frameOf 5
    (BitVec.ofNat 5 (a.val + 1) ++ BitVec.ofNat 4 step ++ BitVec.ofBool brake ++ BitVec.ofBool lamp ++ (0 : BitVec 5))) ∧
  (∀ a : CarIx, (RailFrame.assign a).word = frameOf 6 (BitVec.ofNat 5 (a.val + 1) ++ (0 : BitVec 11))) ∧
  (∀ (k : Fin 4) (b : Word16), (RailFrame.select k b).word = frameOf (BitVec.ofNat 4 (8 + k.val)) b) ∧
  (∀ (code : BitVec 6) (status : Status) (count : Nat), count ≤ 4 → (ReturnFrame.reply code status count).word = frameOf 7
    (code ++ BitVec.ofNat 4 (Status.bits status) ++ BitVec.ofNat 3 count ++ (0 : BitVec 3))) ∧
  ([.ok, .badArg, .unknown, .busy, .wrongRole, .full, .fixed, .asleep, .malformed, .notFound] : List Status).map
    Status.bits = [0, 1, 2, 3, 4, 5, 6, 7, 8, 9] ∧
  (∀ w : Word16, (ReturnFrame.data w).word = frameOf 4 w) ∧
  (∀ flags : BitVec 12, (ReturnFrame.attention flags).word = frameOf 1 (flags ++ (0 : BitVec 4))) ∧
  (∀ f : BitVec 12, ([.linkWarn, .linkLost, .linkRestored, .flapFault, .zoneConflict, .pairDone, .pairFailed, .silence,
      .frameErrors, .portErrors, .requestDropped, .serviceDue] : List Notice).map (setFlag f) =
    [f ||| 0x800, f ||| 0x400, f ||| 0x200, f ||| 0x100, f ||| 0x080, f ||| 0x040, f ||| 0x020, f ||| 0x010, f ||| 0x008,
      f ||| 0x004, f ||| 0x002, f ||| 0x001]) ∧
  (∀ (kind : BitVec 4) (body : Word16),
    (5 ≤ kind.toNat ∧ kind.toNat ≤ 11) ∨ kind = 15 → upstreamCommand (frameOf kind body) = .kindError) ∧
  (∀ body : Word16, upstreamCommand (frameOf 0 body) = .fillFrame) ∧
  (∀ (r : RaceState) (e : Bool) (b : BitVec 13), upstreamCommand (frameOf 1 (cycleBody r e b)) = .cycleFrame r e b) ∧
  (∀ (slot : BitVec 5) (throttle : BitVec 6) (brake lane pair : Bool) (spare : BitVec 2),
    upstreamCommand (frameOf 2
        (slot ++ throttle ++ BitVec.ofBool brake ++ BitVec.ofBool lane ++ BitVec.ofBool pair ++ spare)) =
      if slot.toNat < 24 then .driveFrame slot throttle brake lane pair else .frameError) ∧
  (∀ (code : BitVec 6) (count : BitVec 2) (arg : BitVec 8),
    upstreamCommand (frameOf 3 (code ++ count ++ arg)) = .headFrame code count arg) ∧
  (∀ w : Word16, upstreamCommand (frameOf 4 w) = .dataFrame w) ∧
  (∀ (k : Fin 3) (b : Word16), upstreamCommand (frameOf (BitVec.ofNat 4 (12 + k.val)) b) = .auxFrame k b)

/-- The messages of the port lines. To a module (R21): THROW, STRAIGHT, LAMP, MODULE_RESET and POWER have their types, zero in
every argument bit that the table does not use, and the check that makes their four nibbles sum to 15. From a module, the
line tests of R20 and the layouts of section 1.7: a short message whose nibbles do not sum to 15 or whose type is
not defined is a line error, and so are a HELLO of kind field 0 and an IDENTITY whose check byte is not 255 minus the sum of
its eight bytes modulo 256; every other
message is the command of its type, the argument bits its type does not use ignored. -/
def Obligations.PortMessagesAreClassified : Prop :=
  (∀ (type : BitVec 4) (arg : BitVec 8), ∃ check : BitVec 4, shortMessage type arg = type ++ arg ++ check ∧
    type + arg.extractLsb' 4 4 + arg.extractLsb' 0 4 + check = 15#4) ∧
  (HubMsg.throw.word = shortMessage 1 0 ∧ HubMsg.straight.word = shortMessage 2 0 ∧
    (HubMsg.lamp .off).word = shortMessage 3 0 ∧ (HubMsg.lamp .slow).word = shortMessage 3 1 ∧
    (HubMsg.lamp .steady).word = shortMessage 3 2 ∧ (HubMsg.lamp .fast).word = shortMessage 3 3 ∧
    HubMsg.moduleReset.word = shortMessage 4 0 ∧ (HubMsg.power false).word = shortMessage 5 0 ∧
    (HubMsg.power true).word = shortMessage 5 1) ∧
  ∀ p : PortIx,
    (∀ w : Word16, w.extractLsb' 12 4 + w.extractLsb' 8 4 + w.extractLsb' 4 4 + w.extractLsb' 0 4 ≠ 15#4 →
      shortCommand p w = .portLineError p) ∧
    (∀ (type : BitVec 4) (arg : BitVec 8), type = 0 ∨ 11 ≤ type.toNat →
      shortCommand p (shortMessage type arg) = .portLineError p) ∧
    (∀ (kind : BitVec 2) (spare : BitVec 5) (thrown : Bool),
      shortCommand p (shortMessage 1 (kind ++ spare ++ BitVec.ofBool thrown)) =
        if kind = 0 then .portLineError p
        else .hello p (if kind = 1 then .switch else if kind = 2 then .bay else .external) thrown) ∧
    (∀ (spare : BitVec 3) (code : BitVec 5),
      shortCommand p (shortMessage 2 (spare ++ code)) = .approach p code ∧
      shortCommand p (shortMessage 3 (spare ++ code)) = .guard p code ∧
      shortCommand p (shortMessage 4 (spare ++ code)) = .exitCross p code ∧
      shortCommand p (shortMessage 5 (spare ++ code)) = .exitStraight p code ∧
      shortCommand p (shortMessage 9 (spare ++ code)) = .selfThrow p code) ∧
    (∀ (spare : BitVec 7) (thrown : Bool),
      shortCommand p (shortMessage 6 (spare ++ BitVec.ofBool thrown)) = .ready p thrown) ∧
    (∀ arg : BitVec 8, shortCommand p (shortMessage 7 arg) = .moving p ∧
      shortCommand p (shortMessage 8 arg) = .moduleFault p arg) ∧
    (∀ id : Identity, (identityCheck id).toNat = 255 -
      (((List.range 8).map fun k => (id.extractLsb' (8 * k) 8).toNat).sum % 256)) ∧
    ∀ (type spare : BitVec 4) (id : Identity) (check : BitVec 8),
      longCommand p (type ++ id ++ check ++ spare) = if identityCheck id = check then .identity p id else .portLineError p

/-! ### Upstream frames and the rails -/

/-- What fills a free position and an AUX position while each position gives one frame (R6, R9, R13, R14): the head frame of
the oldest sequence, its identity bits or its ASSIGN, and FILL when the queue is empty. An open answer window is closed
early by it (R16). A FILL frame changes nothing else, and AUX is forwarded with its kind and body. So every frame leaves at its
own position, with the answer window that will follow it; a CAR frame's is that of its car (R6, R7, R16). -/
def Obligations.FreePositionsCarryTheInsertionQueue : Prop :=
  (∀ (x : LineItem) (s : State), s.Unshared → s.position x = { s with
    railOut := some x.rail, window := x.window, closing := s.closing ++ s.window.toList }) ∧
  (∀ (a : CarIx) (step : Nat) (brake lamp : Bool) (s : State), s.Unshared →
    s.position (.frame (.car a step brake lamp)) = { s with
      railOut := some (.car a step brake lamp), window := some (.car a), closing := s.closing ++ s.window.toList }) ∧
  ∀ s : State, s.resetHeld = false → s.assembly = none → s.Unshared →
    (s.insertionQueue = [] → exec .fillFrame s = .next { s with
      rxBits := [], returnWindow := [], railOut := some .fill, window := none, closing := s.closing ++ s.window.toList }) ∧
    (∀ q rest, s.insertionQueue = q :: rest → ∀ k : Fin 4, q.sent = k.val → exec .fillFrame s = .next { s with
      rxBits := [], returnWindow := [], insertionQueue := { q with sent := q.sent + 1 } :: rest,
      railOut := some (.select k (q.identity.extractLsb' (16 * k.val) 16)), window := none,
      closing := s.closing ++ s.window.toList }) ∧
    (∀ q rest, s.insertionQueue = q :: rest → q.sent = 4 → exec .fillFrame s = .next { s with
      rxBits := [], returnWindow := [], insertionQueue := rest, railOut := some (.assign q.address),
      window := some (.assign q.port), closing := s.closing ++ s.window.toList }) ∧
    ∀ (k : Fin 3) (b : Word16), exec (.auxFrame k b) s = .next { s with
      rxBits := [], returnWindow := [], railOut := some (.aux k b), window := none,
      closing := s.closing ++ s.window.toList }

/-- The shared rail output of HALT, and of RUN until the line is empty (R10). Every frame that falls due, an AUX frame's, a
free position's, a DRIVE frame's, and the CYCLE frame's that ends HALT (R144): it leaves when the output is free and none
waits, waits behind at most one other, and is discarded while two wait; an open answer window is not closed by it. A free
position takes its frame from the insertion queue when its upstream frame arrives (section 1.3, log entry 11), and a
discarded one takes none. When the output becomes free the oldest frame in the waiting line leaves with its answer window;
with an answer window open the output is not free. -/
def Obligations.SharedOutputKeepsAWaitingLineOfTwo : Prop :=
  (∀ (x : LineItem) (s : State), s.Shared → s.FallsDue x (s.position x)) ∧
  (∀ f : RailFrame, LineItem.frame f = ⟨f, match f with
    | .car a _ _ _ => some (.car a)
    | _ => none⟩) ∧
  (∀ s : State, s.resetHeld = false → s.assembly = none → s.Shared → ∃ x left t, FreeTakes s.insertionQueue x left ∧
    exec .fillFrame s = .next t ∧
    (s.waitingLine.length < 2 →
      State.FallsDue { s with rxBits := [], returnWindow := [], insertionQueue := left } x t) ∧
    (2 ≤ s.waitingLine.length → t = { s with rxBits := [], returnWindow := [] })) ∧
  (∀ (race : RaceState) (e : Bool) (b : BitVec 13) (s : State), s.resetHeld = false → s.Shared →
    ∃ t v, exec (.cycleFrame race e b) s = .next t ∧ s.FallsDue (.frame (.cycle race e b)) v ∧ t.railOut = v.railOut ∧
      t.window = v.window ∧ t.closing = v.closing ∧ t.waitingLine = v.waitingLine ∧
      t.insertionQueue = s.insertionQueue ∧ t.part = .run ∧ t.returnWindow ≠ []) ∧
  (∀ (k : Fin 3) (b : Word16) (s : State), s.resetHeld = false → s.assembly = none → s.Shared →
    (s.railOut = none → s.waitingLine = [] → exec (.auxFrame k b) s = .next { s with
      rxBits := [], returnWindow := [], railOut := some (.aux k b), window := none,
      closing := s.closing ++ s.window.toList }) ∧
    (s.railOut ≠ none ∨ s.waitingLine ≠ [] → s.waitingLine.length < 2 → exec (.auxFrame k b) s = .next { s with
      rxBits := [], returnWindow := [], waitingLine := s.waitingLine ++ [.frame (.aux k b)] }) ∧
    (2 ≤ s.waitingLine.length → exec (.auxFrame k b) s = .next { s with rxBits := [], returnWindow := [] })) ∧
  ∀ s : State, s.resetHeld = false →
    (s.window ≠ none → exec .railOutputFree s = .next s) ∧
    (s.window = none → s.waitingLine = [] → exec .railOutputFree s = .next { s with railOut := none }) ∧
    ∀ x rest, s.window = none → s.waitingLine = x :: rest → exec .railOutputFree s = .next { s with
      waitingLine := rest, railOut := some x.rail, window := x.window }

/-- An erroneous frame is counted and sets FRAME_ERRORS, which has no subject (R3), and is handed to no block (R4): it writes
no race record, restarts no silence deadline, opens no return window and leaves the slot records and the cars as they
are. Besides it gives a free position and interrupts a partial request, both as a FILL frame does (R4, R6, R9, R10, R154). -/
def Obligations.ErroneousFramesAreCountedAndDiscarded : Prop :=
  ∀ (c : Instr) (s : State), s.resetHeld = false →
    (c = .frameError ∨ c = .frameBrokenOff ∨ (∃ (x : BitVec 5) (t : BitVec 6) (b l p : Bool),
      24 ≤ x.toNat ∧ c = .driveFrame x t b l p)) ∨ c = .kindError →
    ∃ t, exec c s = .next t ∧
      t = { s with
        rxBits := [], returnWindow := [], assembly := none, replies := t.replies, dropped := t.dropped,
        notices := t.notices, insertionQueue := t.insertionQueue, railOut := t.railOut, window := t.window,
        closing := t.closing, waitingLine := t.waitingLine, frameErrors := t.frameErrors, kindErrors := t.kindErrors } ∧
      t.frameErrors = (if c = .kindError then s.frameErrors else if s.frameErrors < 65535 then s.frameErrors + 1 else s.frameErrors) ∧
      t.kindErrors = (if c = .kindError then if s.kindErrors < 65535 then s.kindErrors + 1 else s.kindErrors else s.kindErrors) ∧
      t.hasNotice .frameErrors = true ∧
      (∀ n : Notice, n ≠ .frameErrors → n ≠ .requestDropped → t.hasNotice n = s.hasNotice n) ∧
      (∃ u, exec .fillFrame s = .next u ∧
        t = { u with frameErrors := t.frameErrors, kindErrors := t.kindErrors, notices := t.notices }) ∧
      (s.Unshared → t.railOut.isSome ∧ (s.insertionQueue = [] → t.railOut = some .fill)) ∧
      (s.assembly = none → t.replies = s.replies ∧ t.dropped = s.dropped ∧ t.hasNotice .requestDropped = s.hasNotice .requestDropped)

/-- A partial request is interrupted by any frame but DATA (R154): it is gone, and MALFORMED with its code joins the reply
queue, or it is dropped and counted at a full queue. The frame is then handled as with no request under assembly; of
a CYCLE frame the next statement says how its return window is chosen. A HEAD frame that announces data begins its own
request. -/
def Obligations.InterruptedRequestsAreAnsweredMalformed : Prop :=
  (∀ (c : Instr) (r : Assembly) (s : State), s.resetHeld = false → s.assembly = some r →
    c = .fillFrame ∨ (∃ k b, c = .auxFrame k b) ∨ (∃ x t b l p, c = .driveFrame x t b l p) ∨ c = .frameError ∨
      c = .kindError ∨ c = .frameBrokenOff ∨ (∃ code count arg, c = .headFrame code count arg) →
    exec c s = exec c (s.interrupted r)) ∧
  (∀ (race : RaceState) (e : Bool) (b : BitVec 13) (r : Assembly) (s : State), s.resetHeld = false →
    s.assembly = some r → ∃ t u, exec (.cycleFrame race e b) s = .next t ∧
      exec (.cycleFrame race e b) { s with assembly := none } = .next u ∧
      t = { u with
        returnWindow := t.returnWindow, replies := t.replies, dropped := t.dropped, notices := t.notices
        free := t.free }) ∧
  ∀ (c : Instr) (r : Assembly) (s : State), s.resetHeld = false → s.assembly = some r →
    c = .fillFrame ∨ (∃ k b, c = .auxFrame k b) ∨ (∃ x t b l p, c = .driveFrame x t b l p) ∨ c = .frameError ∨
      c = .kindError ∨ c = .frameBrokenOff ∨ (∃ code count arg, c = .headFrame code count arg ∧ count ≠ 0) →
    ∃ t, exec c s = .next t ∧
      (∀ code count arg, c = .headFrame code count arg → t.assembly = some ⟨code, count, arg, []⟩) ∧
      ((∀ code count arg, c ≠ .headFrame code count arg) → t.assembly = none) ∧
      (s.replies.length < 4 → t.replies = s.replies ++ [⟨r.code, .malformed, []⟩] ∧ t.dropped = s.dropped) ∧
      (4 ≤ s.replies.length → t.replies = s.replies ∧ t.hasNotice .requestDropped = true ∧
        t.dropped = if s.dropped < 65535 then s.dropped + 1 else s.dropped)

/-- The return window of a valid CYCLE frame (R18, R19), in every part state: the oldest reply leaves the queue and fills the
window with its REPLY and DATA frames; with no reply queued the window carries one ATTENTION frame of the flags as they
stand, which clears none. When the frame interrupts a partial request (R154), the MALFORMED reply is made before the
Console Port chooses, or after; at a full queue it is dropped in the first case. The order is free (log entry 16). -/
def Obligations.CycleFrameOpensAReturnWindow : Prop :=
  (∀ (race : RaceState) (e : Bool) (b : BitVec 13) (s : State), s.resetHeld = false → s.assembly = none →
    ∃ t, exec (.cycleFrame race e b) s = .next t ∧ t.notices = s.notices ∧ t.lastCar = s.lastCar ∧ t.lastPort = s.lastPort ∧
      (s.replies = [] → t.returnWindow = [.attention s.notices] ∧ t.replies = []) ∧
      ∀ r rest, s.replies = r :: rest → t.replies = rest ∧
        t.returnWindow = .reply r.code r.status r.words.length :: r.words.map .data) ∧
  ∀ (race : RaceState) (e : Bool) (b : BitVec 13) (r : Assembly) (s : State), s.resetHeld = false →
    s.assembly = some r →
    ∃ t, exec (.cycleFrame race e b) s = .next t ∧ t.assembly = none ∧
      ((∃ first rest, 4 ≤ s.replies.length ∧ s.replies = first :: rest ∧ t.replies = rest ∧
          t.returnWindow = first.frames ∧ t.dropped = if s.dropped < 65535 then s.dropped + 1 else s.dropped) ∨
        (∃ first, s.replies.length < 4 ∧ (s.replies ++ [⟨r.code, .malformed, []⟩]) = first :: t.replies ∧ t.returnWindow = first.frames) ∨
        (∃ first rest, s.replies = first :: rest ∧ t.replies = rest ++ [⟨r.code, .malformed, []⟩] ∧
          t.returnWindow = first.frames) ∨
        (s.replies = [] ∧ t.replies = [⟨r.code, .malformed, []⟩] ∧ t.returnWindow = [.attention s.notices]))

/-- What Run Control does with a valid CYCLE frame: the race record is written in every part state, every latch is cleared
unless it then reads GREEN with lane changes enabled (R140), the silence deadline starts afresh in RUN (R142), HALT ends
(R144) and REST begins to wake with its DORMANT ports powered on (R147). Where each position gives one frame, the CYCLE frame
leaves at its own, a window still open is closed early and its result stays owed (R6, R8, R16); in REST nothing is sent
(R11). Nothing else of the machine changes. -/
def Obligations.CycleFrameWritesTheRaceRecord : Prop :=
  ∀ (race : RaceState) (e : Bool) (b : BitVec 13) (s : State), s.resetHeld = false → s.assembly = none →
    ∃ t, exec (.cycleFrame race e b) s = .next t ∧
      t = { s with
        race := race, laneEnable := e, rxBits := [], returnWindow := t.returnWindow, replies := t.replies,
        railOut := t.railOut, window := t.window, closing := t.closing, waitingLine := t.waitingLine,
        part := t.part, silenceDue := t.silenceDue, ownCycleDue := t.ownCycleDue, wakeDue := t.wakeDue,
        cars := t.cars, ports := t.ports } ∧
      (race = .green → e = true → t.cars = s.cars) ∧
      (race ≠ .green ∨ e = false → ∀ a, t.car a = { s.car a with armed := false }) ∧
      (s.part = .startup ∨ s.part = .waking → t.part = s.part ∧ t.silenceDue = s.silenceDue ∧
        t.ownCycleDue = s.ownCycleDue ∧ t.wakeDue = s.wakeDue ∧ t.ports = s.ports) ∧
      (s.part = .run → t.part = .run ∧ t.silenceDue = some (s.now + s.silenceTimeout) ∧ t.ownCycleDue = s.ownCycleDue ∧
        t.wakeDue = s.wakeDue ∧ t.ports = s.ports) ∧
      (s.part = .halt → t.part = .run ∧ t.silenceDue = some (s.now + s.silenceTimeout) ∧ t.ownCycleDue = none ∧
        t.wakeDue = s.wakeDue ∧ t.ports = s.ports) ∧
      (s.part = .rest → t.part = .waking ∧ t.wakeDue = some (s.now + 20) ∧ t.silenceDue = s.silenceDue ∧
        t.ownCycleDue = s.ownCycleDue ∧ t.railOut = s.railOut ∧ t.window = s.window ∧ t.closing = s.closing ∧
        t.waitingLine = s.waitingLine ∧
        ∀ p, ((s.port p).state ≠ .dormant → t.port p = s.port p) ∧
          ((s.port p).state = .dormant → t.port p = { s.port p with
              state := .resetting, resetDue := some (s.now + 100), leaving := (t.port p).leaving,
              waiting := (t.port p).waiting } ∧
            (t.port p).leaving.toList ++ (t.port p).waiting =
              (s.port p).leaving.toList ++ (s.port p).waiting ++ [.power true])) ∧
      (s.Unshared → t.railOut = some (.cycle race e b) ∧ t.window = none ∧ t.closing = s.closing ++ s.window.toList ∧
        t.waitingLine = s.waitingLine)

/-- In REST the rail output sends nothing (R11): no upstream frame changes what leaves, what waits or the insertion queue, and
a valid DRIVE frame is discarded without reaching the slot or the car records. A HEAD or DATA frame sends nothing either
when it completes a request; the request, a SOFT_RESET alone, can then only mark windows still open (log entry 14). -/
def Obligations.RestSendsNothingToTheRails : Prop :=
  (∀ (c : Instr) (s : State), s.resetHeld = false → s.part = .rest → s.insertionQueue = [] → s.RestLawful →
    (∃ code count arg, c = .headFrame code count arg) ∨ (∃ w, c = .dataFrame w) →
    ∃ t, exec c s = .next t ∧ t.railOut = s.railOut ∧ t.waitingLine = [] ∧ t.insertionQueue = [] ∧
      ((t.window = s.window ∧ t.closing = s.closing) ∨
        (t.window = s.window.map AnswerWindow.cut ∧ t.closing = s.closing.map AnswerWindow.cut ∧ t.part = .startup))) ∧
  ∀ (c : Instr) (s : State), s.resetHeld = false → s.part = .rest → s.insertionQueue = [] →
    c = .fillFrame ∨ (∃ k b, c = .auxFrame k b) ∨ (∃ x t b l p, c = .driveFrame x t b l p) ∨ c = .frameError ∨
      c = .kindError ∨ c = .frameBrokenOff ∨ (∃ code count arg, c = .headFrame code count arg ∧ count ≠ 0) ∨
      (∃ w, c = .dataFrame w ∧ s.assembly = none) ∨ (∃ r e b, c = .cycleFrame r e b) →
    ∃ t, exec c s = .next t ∧ t.railOut = s.railOut ∧ t.window = s.window ∧ t.closing = s.closing ∧
      t.waitingLine = s.waitingLine ∧ t.insertionQueue = [] ∧ t.slots = s.slots ∧
      ∀ a, (t.car a).fine = (s.car a).fine ∧ ((∀ r e b, c ≠ .cycleFrame r e b) → t.car a = s.car a)

/-- HEAD and DATA frames assemble a request (R152). A HEAD frame that announces data begins one; a DATA frame adds its word,
or is discarded when none is under assembly. Apart from the record they change only what leaves at their free position,
which is a FILL frame's (R6). -/
def Obligations.RequestsAreAssembledWordByWord : Prop :=
  ∀ s : State, s.resetHeld = false →
    (∀ (code : BitVec 6) (count : BitVec 2) (arg : BitVec 8), count ≠ 0 → s.assembly = none →
      ∃ t, exec (.headFrame code count arg) s = .next t ∧ t = { s with
        rxBits := [], returnWindow := [], assembly := some ⟨code, count, arg, []⟩, insertionQueue := t.insertionQueue,
        railOut := t.railOut, window := t.window, closing := t.closing, waitingLine := t.waitingLine } ∧
        ∃ u, exec .fillFrame s = .next u ∧ t = { u with assembly := some ⟨code, count, arg, []⟩ }) ∧
    (∀ w, s.assembly = none → exec (.dataFrame w) s = exec .fillFrame s) ∧
    ∀ w r, s.assembly = some r → r.words.length + 1 < r.count.toNat →
      ∃ t, exec (.dataFrame w) s = .next t ∧ t = { s with
        rxBits := [], returnWindow := [], assembly := some { r with words := r.words ++ [w] },
        insertionQueue := t.insertionQueue, railOut := t.railOut, window := t.window, closing := t.closing,
        waitingLine := t.waitingLine } ∧
        ∃ u, exec .fillFrame { s with assembly := none } = .next u ∧
          t = { u with assembly := some { r with words := r.words ++ [w] } }

/-- The frames that complete a request run it as its own row does (R153 checks 1 and 4, R157, section 9.4), and the completing
frame gives a free position, as a FILL frame would (R6). The order of the two is the model's reading: with an empty insertion
queue the position is given first and the request is then executed (log entry 10, from R147 and R150); while the queue holds
a sequence they are taken in either order (R14, log entry 17), so that a SOFT_RESET taken first gives the position in STARTUP
(log entry 34). -/
def Obligations.FramesRunTheRequestTheySpell : Prop :=
  ∀ (c : Instr) (frame : Instr) (r : Assembly) (s : State), s.resetHeld = false →
    (frame = .headFrame r.code 0 r.arg ∧ s.assembly = none ∧ r.words = []) ∨
      (∃ w words, frame = .dataFrame w ∧ s.assembly = some { r with words := words } ∧ r.words = words ++ [w] ∧
        r.words.length = r.count.toNat) →
    framedRequest r.code r.arg (r.words.getD 0 0) (r.words.getD 1 0) (r.words.getD 2 0) = some c →
    r.words.length = requestDataCount c →
    (s.insertionQueue = [] → ∃ t, exec .fillFrame { s with assembly := none } = .next t ∧ exec frame s = exec c t) ∧
    (s.insertionQueue ≠ [] →
      (∃ t, exec .fillFrame { s with assembly := none, free := s.free + 1 } = .next t ∧ exec frame s = exec c t) ∨
      ∃ t, exec c { s with assembly := none, free := s.free + 1, rxBits := [], returnWindow := [] } = .next t ∧
        exec frame s = exec .fillFrame t)

/-- A completed request that is not executed (R153 checks 1 to 3), shown in the state after its free position, whatever the
insertion queue holds: at a full reply queue it is dropped and counted; else a code that names no request is answered UNKNOWN,
and a count that differs from the defined one MALFORMED. While the insertion queue holds a sequence the answer and the
position are taken in either order, with one outcome; the counter of free values goes on by one then (log entry 17). -/
def Obligations.UnknownAndMiscountedRequestsAreAnswered : Prop :=
  ∀ (frame : Instr) (r : Assembly) (s t : State), s.resetHeld = false →
    (frame = .headFrame r.code 0 r.arg ∧ s.assembly = none ∧ r.words = [] ∧ r.count = 0) ∨
      (∃ w words, frame = .dataFrame w ∧ s.assembly = some { r with words := words } ∧ r.words = words ++ [w] ∧
        r.words.length = r.count.toNat) →
    exec .fillFrame { s with assembly := none } = .next t →
    ∃ u : State, u = { t with free := if s.insertionQueue.isEmpty then s.free else s.free + 1 } ∧
    (4 ≤ s.replies.length → exec frame s = .next { u with
      dropped := if s.dropped < 65535 then s.dropped + 1 else s.dropped
      notices := setFlag s.notices .requestDropped }) ∧
    (s.replies.length < 4 →
      framedRequest r.code r.arg (r.words.getD 0 0) (r.words.getD 1 0) (r.words.getD 2 0) = none →
      exec frame s = .next { u with replies := s.replies ++ [⟨r.code, .unknown, []⟩] }) ∧
    (∀ c, s.replies.length < 4 →
      framedRequest r.code r.arg (r.words.getD 0 0) (r.words.getD 1 0) (r.words.getD 2 0) = some c →
      r.words.length ≠ requestDataCount c →
      exec frame s = .next { u with replies := s.replies ++ [⟨r.code, .malformed, []⟩] })

/-! ### Answer windows -/

/-- What the result of a CAR frame's answer window does to the car that the frame named (R56 to R61, R57): a silence adds 8 to the
fault count and past 255 loses the link, an answer takes 1 away; while the link is lost 24 answers in a row restore it.
The notices are those of R60 and R67, the closed window is gone, and nothing else changes. -/
def Obligations.AnswerResultsMoveTheLinkState : Prop :=
  ∀ (a : CarIx) (answered : Bool) (s u : State), s.resetHeld = false → (s.car a).LinkLawful →
    s.Closes (fun w => w = .car a) (.car a) u →
    ∃ t, exec (.carAnswerWindowClose (carCode a) answered) s = .next t ∧
      t = { u with cars := s.cars.set a (t.car a), notices := t.notices, lastCar := t.lastCar } ∧
      ((s.car a).link ≠ .lost → answered = false → 255 < (s.car a).faults + 8 →
        t.car a = { s.car a with link := .lost, faults := 255, streak := 0, armed := false } ∧
        t.notices = setFlag s.notices .linkLost ∧ t.lastCar = some a) ∧
      ((s.car a).link ≠ .lost → answered = false → (s.car a).faults + 8 ≤ 255 →
        t.car a = { s.car a with
          faults := (s.car a).faults + 8
          link := if (s.car a).faults + 8 < 96 then .active else if (s.car a).faults + 8 < 128 then .warn else .passive } ∧
        ((s.car a).link = .active ∧ (t.car a).link = .warn →
          t.notices = setFlag s.notices .linkWarn ∧ t.lastCar = some a) ∧
        (¬((s.car a).link = .active ∧ (t.car a).link = .warn) → t.notices = s.notices ∧ t.lastCar = s.lastCar)) ∧
      ((s.car a).link ≠ .lost → answered = true →
        t.car a = { s.car a with
          faults := (s.car a).faults - 1
          link := if (s.car a).faults - 1 < 96 then .active else if (s.car a).faults - 1 < 128 then .warn else .passive } ∧
        t.notices = s.notices ∧ t.lastCar = s.lastCar) ∧
      ((s.car a).link = .lost → answered = true → (s.car a).streak < 23 →
        t.car a = { s.car a with streak := (s.car a).streak + 1 } ∧ t.notices = s.notices ∧ t.lastCar = s.lastCar) ∧
      ((s.car a).link = .lost → answered = true → (s.car a).streak = 23 →
        t.car a = { s.car a with link := .active, faults := 0, streak := 0 } ∧
        t.notices = setFlag s.notices .linkRestored ∧ t.lastCar = some a) ∧
      ((s.car a).link = .lost → answered = false →
        t.car a = { s.car a with streak := 0 } ∧ t.notices = s.notices ∧ t.lastCar = s.lastCar)

/-- An ANSWER to the ASSIGN frame of a session in SENDING commits the pairing (R42, R79): slot and car are bound and both lose
earlier partners, the identity moves to the car, its fine speed, latch and link start afresh, reservation and claim are
released, and the session shows the success. R36 decides the other cars' latches. Nothing else changes. -/
def Obligations.AnAnsweredAssignCommitsThePairing : Prop :=
  ∀ (p : PortIx) (x : Session) (h : SlotIx) (a : CarIx) (id : Identity) (s u : State), s.resetHeld = false →
    s.Mirrored → s.Closes (AnswerWindow.OfPort p) (.assign p) u → s.session p = some x → x.state = .sending →
    x.slot = some h → x.address = some a → x.identity = some id →
    ∃ t, exec (.assignAnswerWindowClose p true) s = .next t ∧
      t = { u with
        slots := t.slots, cars := t.cars, ports := t.ports
        sessions := s.sessions.set p (some { x with
          state := .showDone, outcome := some .done, showDue := some (s.now + 2000) })
        notices := setFlag s.notices .pairDone, lastCar := some a } ∧
      t.slot h = { s.slot h with binding := some a, claim := none } ∧
      (∀ g, g ≠ h → t.slot g = { s.slot g with
        binding := if (s.slot g).binding = some a then none else (s.slot g).binding }) ∧
      t.car a = { s.car a with
        identity := some id, holder := some h, reservation := none, fine := 0, armed := false, link := .active
        faults := 0, streak := 0 } ∧
      (∀ b, b ≠ a → s.LatchFollows t b ∧ t.car b = { s.car b with
        armed := (t.car b).armed
        holder := if (s.car b).holder = some h then none else (s.car b).holder
        identity := if (s.car b).identity = some id then none else (s.car b).identity }) ∧
      s.LampAsked t p .steady

/-- A SILENT to the ASSIGN frame of a session in SENDING (R80): before the third the session keeps what it holds and asks to
enqueue a new sequence (R12); at the third it fails with NO_ANSWER (R81). A place that falls free in the insertion queue
goes to the session that has waited longest (R12, R78), which enters SENDING; with no place or none waiting nothing
happens. That a session waits behind others though a place is free, and that the place is taken at a step of its own, is the
model's reading (log entry 15). -/
def Obligations.SilentAttemptsRepeatAndTheThirdFails : Prop :=
  (∀ (p : PortIx) (x : Session) (a : CarIx) (id : Identity) (s u : State), s.resetHeld = false →
    s.Closes (AnswerWindow.OfPort p) (.assign p) u → s.session p = some x → x.state = .sending →
    x.address = some a → x.identity = some id →
    ∃ t, exec (.assignAnswerWindowClose p false) s = .next t ∧
      (x.attempts < 2 → u.SessionEnqueues t p { x with attempts := x.attempts + 1 } id a ∧ t.cars = s.cars) ∧
      (2 ≤ x.attempts → u.SessionFails t p { x with attempts := x.attempts + 1 } .noAnswer)) ∧
  ∀ s : State, s.resetHeld = false →
    (s.queueWaiting = [] ∨ 3 ≤ s.insertionQueue.length → exec .insertionQueuePlace s = .next s) ∧
    ∀ p rest x id a, s.queueWaiting = p :: rest → s.insertionQueue.length < 3 → s.session p = some x →
      x.identity = some id → x.address = some a →
      exec .insertionQueuePlace s = .next { s with
        queueWaiting := rest, insertionQueue := s.insertionQueue ++ [⟨p, id, a, 0⟩]
        sessions := s.sessions.set p (some { x with state := .sending }) }

/-- Results that no record takes: of a window that is not owed, which leaves all as it is; and of the ASSIGN window of a session
that has ended since, or is not SENDING, which is discarded (R82) with the window closed and no record touched. The model's
choices: a close that names no owed window, or an address outside 1..24, changes nothing (log entry 24), and the result for
a session that has ended is discarded even when a new session of its port is SENDING (log entry 14). -/
def Obligations.ResultsWithoutATakerChangeNoRecord : Prop :=
  (∀ (address : BitVec 5) (answered : Bool) (s : State), s.resetHeld = false →
    (∀ a, address = carCode a → .car a ∉ s.closing ∧ s.window ≠ some (.car a)) →
    exec (.carAnswerWindowClose address answered) s = .next s) ∧
  (∀ (p : PortIx) (answered : Bool) (s : State), s.resetHeld = false →
    (∀ w, AnswerWindow.OfPort p w → w ∉ s.closing ∧ s.window ≠ some w) →
    exec (.assignAnswerWindowClose p answered) s = .next s) ∧
  (∀ (p : PortIx) (answered : Bool) (s u : State), s.resetHeld = false →
    s.Closes (AnswerWindow.OfPort p) (.abandoned p) u → exec (.assignAnswerWindowClose p answered) s = .next u) ∧
  ∀ (p : PortIx) (answered : Bool) (s u : State), s.resetHeld = false →
    s.Closes (AnswerWindow.OfPort p) (.assign p) u → (∀ x, s.session p = some x → x.state ≠ .sending) →
    exec (.assignAnswerWindowClose p answered) s = .next u

/-! ### DRIVE frames -/

/-- The steps of R26 and R27, and that they agree: a slot resolves to its binding, else to its direct-path car while the
fallback is on and that car is free of holder and reservation; a car's driving slot is the one slot that resolves to it. -/
def Obligations.ACarsDrivingSlotIsTheOneThatResolvesToIt : Prop :=
  ∀ s : State, s.Mirrored →
    (∀ h a, (s.slot h).binding = some a → s.resolve h = some a) ∧
    (∀ h, (s.slot h).binding = none → s.resolve h =
      if s.directFallback ∧ (s.car h).holder = none ∧ (s.car h).reservation = none then some h else none) ∧
    (∀ h a, s.resolve h = some a ↔ s.drivingSlot a = some h) ∧
    (∀ a, s.driven a = true ↔ ∃ h, s.resolve h = some a) ∧
    ∀ a g h, s.resolve g = some a → s.resolve h = some a → g = h

/-- The handling of a DRIVE frame outside REST (R7, R30, R31, R35, R47, R48, R50 to R53). The frame resolves first; a lane
edge toggles the resolved car's latch under the conditions of R31; a pair edge gives the gesture (R73); the flags are
written; then the shaper gives the resolved car its fine speed and its CAR frame, which takes the position. A frame
resolved to no car gives the free position of a FILL frame. Q is the least of the caps that bound the car. What the CAR frame
does at its position, O9 says for positions of one frame each and O10 for the shared output. -/
def Obligations.DriveFramesAreHandledInOrder : Prop :=
  ∀ (h : SlotIx) (throttle : BitVec 6) (brake lane pair : Bool) (s : State), s.resetHeld = false → s.assembly = none →
    s.part ≠ .rest →
    ∃ v w x : State,
      v = { s with rxBits := [], returnWindow := [], cars := v.cars } ∧
      (∀ b, v.car b = { s.car b with
        armed := (s.car b).armed ^^ (lane && !(s.slot h).lastLane && decide (s.resolve h = some b) &&
          decide ((s.car b).reservation = none) && decide ((s.car b).link ≠ .lost) && decide (s.part = .run) &&
          decide (s.race = .green) && s.laneEnable) }) ∧
      w = (if pair = true ∧ (s.slot h).lastPair = false then v.gesture h else v) ∧
      x = { w with slots := w.slots.set h { w.slot h with lastLane := lane, lastPair := pair } } ∧
      (s.resolve h = none →
        exec (.driveFrame (BitVec.ofNat 5 h.val) throttle brake lane pair) s = exec .fillFrame x) ∧
      ∀ a q, s.resolve h = some a → s.ListsLawful → (x.CapsCar a q ∧ ∀ c, x.CapsCar a c → q ≤ c) →
        ∃ (n : Nat) (f : RailFrame),
          exec (.driveFrame (BitVec.ofNat 5 h.val) throttle brake lane pair) s =
            .next (State.position { x with cars := x.cars.set a { x.car a with fine := n } } (.frame f)) ∧
          ((x.car a).link = .lost ∨ (x.car a).reservation ≠ none ∨ x.part = .startup ∨ x.part = .waking ∨
              x.part = .halt ∨ x.race = .grid ∨ x.race = .stop →
            n = 0 ∧ f = .car a 0 true (x.car a).armed) ∧
          (¬((x.car a).link = .lost ∨ (x.car a).reservation ≠ none ∨ x.part = .startup ∨ x.part = .waking ∨
              x.part = .halt ∨ x.race = .grid ∨ x.race = .stop) →
            (brake = true → n = 0) ∧
            (∀ target : Nat, brake = false →
              target = min (curveValue x.curves[(x.car a).curve] throttle.toNat).toNat q →
              n = min (if (x.car a).fine ≤ target then min target ((x.car a).fine + (x.car a).up)
                else max target ((x.car a).fine - (x.car a).down)) q) ∧
            f = .car a (min 15 ((n + 8) / 16)) brake (x.car a).armed)

/-- The curve value (R49): the formula, its rounding to the nearest whole number with an exact half upward, its range between
the segment's two points, and its value at the points' own positions. -/
def Obligations.CurveValuesLieOnTheLine : Prop :=
  ∀ (points : Vector Nat 9) (t i : Nat) (hi : i < 8) (k w d : Int), (∀ j : Fin 9, points[j] ≤ 255) → t < 64 →
    i = min (t / 8) 7 → k = (t : Int) - 8 * i → w = (if i = 7 then 7 else 8) →
    d = (points[i + 1] : Int) - (points[i] : Int) →
    curveValue points t = (points[i] : Int) + Int.fdiv (2 * d * k + w) (2 * w) ∧
    2 * d * k - w < 2 * w * (curveValue points t - points[i]) ∧
    2 * w * (curveValue points t - points[i]) ≤ 2 * d * k + w ∧
    min (points[i] : Int) (points[i + 1] : Int) ≤ curveValue points t ∧
    curveValue points t ≤ max (points[i] : Int) (points[i + 1] : Int) ∧
    (k = 0 → curveValue points t = points[i]) ∧ (t = 63 → curveValue points t = points[8])

/-- Stage 5 and the law of R53, for the CAR frame of every DRIVE frame, in every part state in which one is built: the step that
the new fine speed gives, at most 15 and at most what each cap on the car allows; 0 under GRID and STOP, for a LOST or
reserved car and in STARTUP and WAKING; and no frame carries the brake bit with a step that is not 0. -/
def Obligations.SpeedStepsObeyEveryCap : Prop :=
  ∀ (h : SlotIx) (throttle : BitVec 6) (brake lane pair : Bool) (a : CarIx) (s : State), s.resetHeld = false →
    s.part ≠ .rest → s.ListsLawful → s.resolve h = some a →
    ∃ (u : State) (step : Nat) (b : Bool),
      exec (.driveFrame (BitVec.ofNat 5 h.val) throttle brake lane pair) s =
        .next (u.position (.frame (.car a step b (u.car a).armed))) ∧
      step = min 15 (((u.car a).fine + 8) / 16) ∧
      (∀ c, s.CapsCar a c → (u.car a).fine ≤ c ∧ step ≤ (c + 8) / 16) ∧
      (s.race = .grid ∨ s.race = .stop ∨ (s.car a).link = .lost ∨ (u.car a).reservation ≠ none ∨ s.part = .startup ∨
        s.part = .waking ∨ s.part = .halt → (u.car a).fine = 0 ∧ step = 0 ∧ b = true) ∧
      (¬(s.race = .grid ∨ s.race = .stop ∨ (s.car a).link = .lost ∨ (u.car a).reservation ≠ none ∨ s.part = .startup ∨
        s.part = .waking ∨ s.part = .halt) → b = brake) ∧
      (b = true → step = 0)

/-- A pair gesture of a slot (R73), as the DRIVE frame hands it over: ignored while the slot claims a session; else it joins the
lowest-numbered WAITING session without a slot, whose lookup follows when it holds an identity already; else it opens the
default bay, if that is a BAY port whose session is not open; else it is ignored. -/
def Obligations.GesturesJoinOrOpenASession : Prop :=
  ∀ (s : State) (h : SlotIx),
    ((s.slot h).claim ≠ none → s.gesture h = s) ∧
    ((s.slot h).claim = none → ∀ p x, s.session p = some x → (s.port p).role = .bay → x.state = .waiting →
      x.slot = none → (∀ q y, q < p → (s.port q).role = .bay → s.session q = some y → y.state = .waiting → y.slot ≠ none) →
      ∃ u, u = { s with
          slots := s.slots.set h { s.slot h with claim := some p }
          sessions := s.sessions.set p (some { x with slot := some h }) } ∧
        (x.identity = none → s.gesture h = u) ∧
        ∀ id, x.identity = some id → s.gesture h = u.lookup p { x with slot := some h } id) ∧
    ((s.slot h).claim = none → (∀ q y, (s.port q).role = .bay → s.session q = some y → y.state = .waiting → y.slot ≠ none) →
      (∀ p x, s.defaultBay = some p → (s.port p).role = .bay → s.session p = some x →
        x.state = .closed ∨ x.state = .showDone ∨ x.state = .showFailed →
        s.gesture h = { s with
          slots := s.slots.set h { s.slot h with claim := some p }
          sessions := s.sessions.set p (some ⟨.waiting, some h, none, none, 0, some (s.now + 30000), none, none⟩)
          ports := (s.gesture h).ports } ∧ s.LampAsked (s.gesture h) p .slow) ∧
      (s.defaultBay = none ∨ (∃ p, s.defaultBay = some p ∧ ((s.port p).role ≠ .bay ∨ s.session p = none ∨
          ∃ x, s.session p = some x ∧ (x.state = .waiting ∨ x.state = .queued ∨ x.state = .sending))) →
        s.gesture h = s))

/-- An IDENTITY that a READY BAY port delivers, and the lookup it may complete (R75, R76, R77, R108). Outside WAITING, and for
all zeros or all ones, it is ignored; else it is written, and with a slot held the lookup follows. The lookup fails IN_USE
while another session that is QUEUED or SENDING holds the identity, or a reserved car record; it reserves the record that
holds the identity, else the lowest FREE unreserved one; with none it fails NO_ADDRESS. That a session which reserves waits
behind others though fewer than three sequences are queued is the model's reading of R12 (log entry 15). -/
def Obligations.IdentitiesAreLookedUpAndACarReserved : Prop :=
  (∀ (p : PortIx) (id : Identity) (x : Session) (s : State), s.resetHeld = false → (s.port p).role = .bay →
    (s.port p).state = .ready → s.session p = some x →
    (x.state ≠ .waiting ∨ id = 0 ∨ id = BitVec.allOnes 64 → exec (.identity p id) s = .next (s.heard p)) ∧
    (x.state = .waiting → id ≠ 0 → id ≠ BitVec.allOnes 64 →
      (x.slot = none → exec (.identity p id) s =
        .next { s.heard p with sessions := s.sessions.set p (some { x with identity := some id }) }) ∧
      (x.slot ≠ none → exec (.identity p id) s =
        .next (State.lookup { s.heard p with sessions := s.sessions.set p (some { x with identity := some id }) } p
          { x with identity := some id } id)))) ∧
  ∀ (p : PortIx) (id : Identity) (x : Session) (s : State), s.IdentitiesDistinct → x.state = .waiting →
    x.identity = some id →
    ((∃ q y, q ≠ p ∧ s.session q = some y ∧ (y.state = .queued ∨ y.state = .sending) ∧ y.identity = some id) →
      s.SessionFails (s.lookup p x id) p x .inUse) ∧
    ((∀ q y, q ≠ p → s.session q = some y → y.state = .queued ∨ y.state = .sending → y.identity ≠ some id) →
      (∀ a, (s.car a).identity = some id → (s.car a).reservation ≠ none → s.SessionFails (s.lookup p x id) p x .inUse) ∧
      (∀ a, (s.car a).identity = some id → (s.car a).reservation = none →
        s.SessionReserves (s.lookup p x id) p x id a) ∧
      ((∀ a, (s.car a).identity ≠ some id) →
        (∀ a, (s.car a).tenure = .free → (s.car a).reservation = none →
          (∀ b, b < a → (s.car b).tenure ≠ .free ∨ (s.car b).reservation ≠ none) →
          s.SessionReserves (s.lookup p x id) p x id a) ∧
        ((∀ a, (s.car a).tenure ≠ .free ∨ (s.car a).reservation ≠ none) →
          s.SessionFails (s.lookup p x id) p x .noAddress)))

/-! ### Requests -/

/-- Every request of the table gives exactly one reply, with its code and as many data words as R157 defines, or is dropped
and counted at a full reply queue (R153 check 1, R155). A refusal changes nothing and carries no data, but for REST
(R156, R167). The reply to SOFT_RESET is alone in its queue. -/
def Obligations.EveryRequestGivesOneReplyOrIsDropped : Prop :=
  ∀ (c : Instr) (code : BitVec 6) (s : State), s.resetHeld = false → requestCode c = some code →
    (4 ≤ s.replies.length → exec c s = .next { s with
      dropped := if s.dropped < 65535 then s.dropped + 1 else s.dropped
      notices := setFlag s.notices .requestDropped }) ∧
    (s.replies.length < 4 → ∃ t status words, exec c s = .next t ∧
      t.replies = (if c = .softReset then [] else s.replies) ++ [⟨code, status, words⟩] ∧
      words.length = (if status = .ok ∨ c = .rest then requestReplyCount c else 0) ∧
      (status ≠ .ok → t = s.replied code status words) ∧ status ≠ .unknown ∧ status ≠ .malformed)

/-- An identifier or a selector out of its range is refused BAD_ARG with no change (R156, R157), before every other cause. -/
def Obligations.IdentifiersOutOfRangeAreRefused : Prop :=
  ∀ (c : Instr) (code : BitVec 6) (s : State), s.TakesRequests → requestCode c = some code → RequestOutOfRange c →
    exec c s = .next (s.replied code .badArg [])

/-- What the part reports of itself, and what the reading clears: IDENT and STATUS (R158), CAUSE (R149, R158) and NOTICES
(R169). The numbers of part and race state are those of section 9.4. That the port field of NOTICES is 0 with no port noted, and the bits that no packing names are 0, are the model's
choices (log entries 32 and 33). -/
def Obligations.ThePartReportsItself : Prop :=
  ([.startup, .run, .halt, .rest, .waking] : List PartState).map PartState.code = [0, 1, 2, 3, 4] ∧
  ([.grid, .green, .caution, .stop] : List RaceState).map RaceState.bits = [0, 1, 2, 3] ∧
  ∀ s : State, s.TakesRequests →
    exec .ident s = .next (s.replied 0x01 .ok [0x2E71, 0x0624, 0x0011,
      (0 : BitVec 14) ++ BitVec.ofBool s.directFallback ++ BitVec.ofBool s.strap]) ∧
    (∀ clear : Bool, exec (.status clear) s = .next (State.replied
      { s with
        frameErrors := if clear then 0 else s.frameErrors
        kindErrors := if clear then 0 else s.kindErrors
        dropped := if clear then 0 else s.dropped } 0x02 .ok
      [BitVec.ofNat 3 s.part.code ++ RaceState.bits s.race ++ BitVec.ofBool s.laneEnable ++
          BitVec.ofBool s.directFallback ++ BitVec.ofNat 2 s.insertionQueue.length ++ BitVec.ofNat 3 s.replies.length ++
          (0 : BitVec 4),
        BitVec.ofNat 16 s.frameErrors, BitVec.ofNat 16 s.kindErrors, BitVec.ofNat 16 s.dropped])) ∧
    exec .notices s = .next (State.replied { s with notices := 0, lastCar := none, lastPort := none } 0x03 .ok
      [s.notices ++ (0 : BitVec 4),
        BitVec.ofNat 5 ((s.lastCar.map addressOf).getD 0) ++ (0 : BitVec 6) ++ BitVec.ofBool s.lastPort.isSome ++
          BitVec.ofNat 4 ((s.lastPort.map Fin.val).getD 0)]) ∧
    exec .cause s = .next (State.replied { s with cause := ⟨false, false, false, false⟩ } 0x04 .ok
      [(0 : BitVec 12) ++ BitVec.ofBool s.cause.power ++ BitVec.ofBool s.cause.pin ++ BitVec.ofBool s.cause.supply ++
        BitVec.ofBool s.cause.soft])

/-- BIND (R36, R37): a reserved car is refused BUSY; otherwise slot and car are bound, both lose earlier partners, and the
latches follow R36. The binding that stands already is not changed. -/
def Obligations.BindMovesTheBinding : Prop :=
  ∀ (h : SlotIx) (a : CarIx) (s : State), s.TakesRequests → s.Mirrored →
    ((s.car a).reservation ≠ none → exec (.bind (slotArg h) (carArg a)) s = .next (s.replied 0x12 .busy [])) ∧
    ((s.car a).reservation = none →
      ∃ t, exec (.bind (slotArg h) (carArg a)) s = .next t ∧
        t = { s.replied 0x12 .ok [] with slots := t.slots, cars := t.cars } ∧
        (∀ g, t.slot g = { s.slot g with
          binding := if g = h then some a else if (s.slot g).binding = some a then none else (s.slot g).binding }) ∧
        (∀ b, s.LatchFollows t b ∧ t.car b = { s.car b with
          armed := (t.car b).armed
          holder := if b = a then some h else if (s.car b).holder = some h then none else (s.car b).holder }) ∧
        ((s.slot h).binding = some a → t = s.replied 0x12 .ok []))

/-- UNBIND (R38) and FORGET (R39): the binding is removed from slot and car, FORGET also takes the identity and clears the car's
latch; R36 decides the other latches. An unbound slot is NOT_FOUND; a reserved or crossing car is not forgotten. FORGET of a
FREE car changes nothing; that its latch too stays, which step 3 of R39 would clear, is the model's reading (log entry 20). -/
def Obligations.UnbindAndForgetRemoveTheBinding : Prop :=
  ∀ s : State, s.TakesRequests → s.Mirrored →
    (∀ h, (s.slot h).binding = none → exec (.unbind (slotArg h)) s = .next (s.replied 0x13 .notFound [])) ∧
    (∀ h a, (s.slot h).binding = some a → ∃ t, exec (.unbind (slotArg h)) s = .next t ∧
      t = { s.replied 0x13 .ok [] with slots := t.slots, cars := t.cars } ∧
      (∀ g, t.slot g = { s.slot g with binding := if g = h then none else (s.slot g).binding }) ∧
      ∀ b, s.LatchFollows t b ∧ t.car b = { s.car b with
        armed := (t.car b).armed, holder := if b = a then none else (s.car b).holder }) ∧
    (∀ a, (s.car a).reservation ≠ none ∨ (∃ z, ∃ e ∈ (s.zone z).entries, e.car = some a) →
      exec (.forget (carArg a)) s = .next (s.replied 0x14 .busy [])) ∧
    ∀ a, (s.car a).reservation = none → (∀ z, ∀ e ∈ (s.zone z).entries, e.car ≠ some a) →
      ((s.car a).tenure = .free → exec (.forget (carArg a)) s = .next (s.replied 0x14 .ok [])) ∧
      ((s.car a).tenure ≠ .free → ∃ t, exec (.forget (carArg a)) s = .next t ∧
        t = { s.replied 0x14 .ok [] with slots := t.slots, cars := t.cars } ∧
        (∀ g, t.slot g = { s.slot g with
          binding := if (s.slot g).binding = some a then none else (s.slot g).binding }) ∧
        t.car a = { s.car a with holder := none, identity := none, armed := false } ∧
        ∀ b, b ≠ a → s.LatchFollows t b ∧ t.car b = { s.car b with armed := (t.car b).armed })

/-- The requests about one car and the speed settings: CAR_WRITE stores and echoes the parameters, an up or down of 0 as 1
(R25, R164); CAR_READ and CAR_IDENTITY report the record (R68, R164); REVIVE makes the link ACTIVE with count and streak 0
(R62); CURVE_WRITE writes one point and CURVE_READ reports nine (R44, R163); LIMITS writes what its bits select, the
timeout clamped (R45, R142, R163). The numbers of tenure and link state are those of section 9.4. That an absent holder's slot and an absent reservation's port read 0, and the bits that no
packing names are 0, are the model's choices (log entries 32 and 33). -/
def Obligations.CarAndSpeedSettingsAreWrittenAndRead : Prop :=
  ([.free, .known, .bound] : List Tenure).map Tenure.code = [0, 1, 2] ∧
  ([.active, .warn, .passive, .lost] : List LinkState).map LinkState.code = [0, 1, 2, 3] ∧
  ∀ s : State, s.TakesRequests →
    (∀ (a : CarIx) (limit up down : BitVec 8) (k : Fin 4),
      exec (.carWrite (carArg a) limit (BitVec.ofNat 4 k.val) up down) s = .next (State.replied
        { s with cars := s.cars.set a { s.car a with
            curve := k, limit := limit.toNat, up := max 1 up.toNat, down := max 1 down.toNat } }
        0x0F .ok [limit ++ BitVec.ofNat 8 k.val, BitVec.ofNat 8 (max 1 up.toNat) ++ BitVec.ofNat 8 (max 1 down.toNat)])) ∧
    (∀ a : CarIx, exec (.carRead (carArg a)) s = .next (s.replied 0x10 .ok
      [BitVec.ofNat 2 (s.car a).tenure.code ++ BitVec.ofBool (s.car a).holder.isSome ++
          BitVec.ofNat 5 (((s.car a).holder.map Fin.val).getD 0) ++ BitVec.ofBool (s.car a).reservation.isSome ++
          BitVec.ofNat 4 (((s.car a).reservation.map Fin.val).getD 0) ++ BitVec.ofBool (s.car a).armed ++
          BitVec.ofNat 2 (s.car a).curve.val,
        BitVec.ofNat 8 (s.car a).limit ++ BitVec.ofNat 8 (s.car a).fine,
        BitVec.ofNat 8 (s.car a).up ++ BitVec.ofNat 8 (s.car a).down,
        BitVec.ofNat 2 (s.car a).link.code ++ (0 : BitVec 1) ++ BitVec.ofNat 5 (s.car a).streak ++
          BitVec.ofNat 8 (s.car a).faults])) ∧
    (∀ a id, (s.car a).identity = some id → exec (.carIdentity (carArg a)) s = .next (s.replied 0x11 .ok
      [id.extractLsb' 48 16, id.extractLsb' 32 16, id.extractLsb' 16 16, id.extractLsb' 0 16])) ∧
    (∀ a, (s.car a).identity = none → exec (.carIdentity (carArg a)) s = .next (s.replied 0x11 .notFound [])) ∧
    (∀ a, exec (.revive (carArg a)) s = .next (State.replied
      { s with cars := s.cars.set a { s.car a with link := .active, faults := 0, streak := 0 } } 0x18 .ok [])) ∧
    (∀ (c : Fin 4) (k : Fin 9) (v : BitVec 8),
      exec (.curveWrite (BitVec.ofNat 4 c.val) (BitVec.ofNat 4 k.val) v) s = .next (State.replied
        { s with curves := s.curves.set c (s.curves[c].set k v.toNat) } 0x0D .ok [])) ∧
    (∀ c : Fin 4, ∃ b : Nat → BitVec 8, (∀ k : Fin 9, b k.val = BitVec.ofNat 8 s.curves[c][k]) ∧
      exec (.curveRead (BitVec.ofNat 4 c.val) 0) s =
        .next (s.replied 0x0E .ok [b 0 ++ b 1, b 2 ++ b 3, b 4 ++ b 5, b 6 ++ b 7]) ∧
      exec (.curveRead (BitVec.ofNat 4 c.val) 1) s = .next (s.replied 0x0E .ok [(0 : BitVec 8) ++ b 8])) ∧
    ∀ (writeCap writeTimeout : Bool) (cap timeout : BitVec 8), ∃ k n : Nat,
      k = (if writeCap then cap.toNat else s.cautionCap) ∧
      n = (if writeTimeout then 10 * max 5 (min 100 timeout.toNat) else s.silenceTimeout) ∧
      exec (.limits writeCap writeTimeout cap timeout) s = .next (State.replied
        { s with cautionCap := k, silenceTimeout := n } 0x19 .ok [BitVec.ofNat 8 k ++ BitVec.ofNat 8 (n / 10)])

/-- MODE (R28, R29, R72, R167): a bay value of 16..254 and the fallback turned off under a high strap are refused with no
change; otherwise the selected settings are written and both are echoed. A change of the fallback moves driving slots, and
the latches follow R36. That the echo's unnamed bits are 0 is the model's choice (log entry 33). -/
def Obligations.ModeWritesTheSelectedSettings : Prop :=
  ∀ (writeFallback writeBay fallback : Bool) (bay : BitVec 8) (s : State), s.TakesRequests →
    (writeBay = true → 16 ≤ bay.toNat → bay ≠ 255 →
      exec (.mode writeFallback writeBay fallback bay) s = .next (s.replied 0x1A .badArg [])) ∧
    (writeBay = false ∨ bay.toNat < 16 ∨ bay = 255 → writeFallback = true → fallback = false → s.strap = true →
      exec (.mode writeFallback writeBay fallback bay) s = .next (s.replied 0x1A .fixed [])) ∧
    (writeBay = false ∨ bay.toNat < 16 ∨ bay = 255 → writeFallback = false ∨ fallback = true ∨ s.strap = false →
      ∃ t n, exec (.mode writeFallback writeBay fallback bay) s = .next t ∧
        t = { s with
          replies := t.replies, cars := t.cars
          directFallback := if writeFallback then fallback else s.directFallback, defaultBay := t.defaultBay } ∧
        (writeBay = false → t.defaultBay = s.defaultBay) ∧ (writeBay = true → bay = 255 → t.defaultBay = none) ∧
        (∀ p : PortIx, writeBay = true → bay = portArg p → t.defaultBay = some p) ∧
        (t.defaultBay = none → n = 255#8) ∧ (∀ p, t.defaultBay = some p → n = portArg p) ∧
        t.replies = s.replies ++ [⟨0x1A, .ok, [BitVec.ofBool t.directFallback ++ (0 : BitVec 7) ++ n]⟩] ∧
        ∀ b, s.LatchFollows t b ∧ t.car b = { s.car b with armed := (t.car b).armed })

/-- PAIR_OPEN (R71, R166) with its checks in their order, and PAIR_READ (R88, R166). The session opens WAITING with its fields
cleared and the clamped window running; the claim and the lamp follow. The numbers of session state and outcome are those of
section 9.4. That PAIR_READ gives slot 0 for an absent one, and the
bits that no packing names as 0, are the model's choices (log entries 32 and 33). -/
def Obligations.PairOpenOpensAWaitingSession : Prop :=
  ([.closed, .waiting, .queued, .sending, .showDone, .showFailed] : List SessionState).map SessionState.code =
    [0, 1, 2, 3, 4, 5] ∧
  ([none, some .done, some .timeout, some .noAddress, some .inUse, some .noAnswer, some .cancelled, some .aborted] :
    List (Option SessionOutcome)).map outcomeCode = [0, 1, 2, 3, 4, 5, 6, 7] ∧
  ∀ (p : PortIx) (s : State), s.TakesRequests →
    (∀ (slot window : BitVec 8), slot.toNat < 24 ∨ slot = 255 →
      (s.part = .rest → exec (.pairOpen (portArg p) slot window) s = .next (s.replied 0x15 .asleep [])) ∧
      (s.part ≠ .rest → (s.port p).role ≠ .bay →
        exec (.pairOpen (portArg p) slot window) s = .next (s.replied 0x15 .wrongRole [])) ∧
      ∀ x, s.part ≠ .rest → (s.port p).role = .bay → s.session p = some x →
        (x.state = .waiting ∨ x.state = .queued ∨ x.state = .sending ∨
            (∃ h, slot = slotArg h ∧ (s.slot h).claim ≠ none) →
          exec (.pairOpen (portArg p) slot window) s = .next (s.replied 0x15 .busy [])) ∧
        (x.state = .closed ∨ x.state = .showDone ∨ x.state = .showFailed →
          (∀ h, slot = slotArg h → (s.slot h).claim = none) →
          ∃ t n, n = max 5 (min 120 window.toNat) ∧ exec (.pairOpen (portArg p) slot window) s = .next t ∧
            t = { s with
              slots := t.slots, ports := t.ports, replies := s.replies ++ [⟨0x15, .ok, [BitVec.ofNat 16 n]⟩]
              sessions := s.sessions.set p (some ⟨.waiting, if slot = 255 then none else slotOf slot.toNat, none, none, 0,
                some (s.now + 1000 * n), none, none⟩) } ∧
            (∀ h, t.slot h = { s.slot h with claim := if slot = slotArg h then some p else (s.slot h).claim }) ∧
            s.LampAsked t p .slow)) ∧
    ((s.port p).role ≠ .bay → ∀ page : BitVec 2, page.toNat < 2 →
      exec (.pairRead (portArg p) page) s = .next (s.replied 0x17 .wrongRole [])) ∧
    ∀ x, (s.port p).role = .bay → s.session p = some x →
      exec (.pairRead (portArg p) 0) s = .next (s.replied 0x17 .ok
        [BitVec.ofNat 3 x.state.code ++ BitVec.ofNat 3 (outcomeCode x.outcome) ++ BitVec.ofNat 2 x.attempts ++
            BitVec.ofBool x.identity.isSome ++ BitVec.ofBool x.slot.isSome ++ (0 : BitVec 1) ++
            BitVec.ofNat 5 ((x.slot.map Fin.val).getD 0),
          BitVec.ofNat 16 ((x.address.map addressOf).getD 0)]) ∧
      (x.identity = none → exec (.pairRead (portArg p) 1) s = .next (s.replied 0x17 .notFound [])) ∧
      ∀ id, x.identity = some id → exec (.pairRead (portArg p) 1) s = .next (s.replied 0x17 .ok
        [id.extractLsb' 48 16, id.extractLsb' 32 16, id.extractLsb' 16 16, id.extractLsb' 0 16])

/-- How a session ends but by its answer: PAIR_CANCEL fails an open one with CANCELLED (R81, R85), its window deadline fails a
WAITING one with TIMEOUT (R81, R83), and its show deadline closes a shown one (R84). An expiry before its deadline's tick
does nothing (log entry 4). PAIR_CANCEL at a port that is not BAY is refused WRONG_ROLE. -/
def Obligations.SessionsEndByCancelAndByTheirDeadlines : Prop :=
  (∀ (p : PortIx) (s : State), s.TakesRequests → (s.port p).role ≠ .bay →
    exec (.pairCancel (portArg p)) s = .next (s.replied 0x16 .wrongRole [])) ∧
  (∀ (p : PortIx) (s : State), s.resetHeld = false → s.session p = none →
    exec (.windowDeadlineExpiry p) s = .next s ∧ exec (.showDeadlineExpiry p) s = .next s) ∧
  ∀ (p : PortIx) (x : Session) (s : State), s.resetHeld = false → s.session p = some x →
    (s.replies.length < 4 → (s.port p).role = .bay → x.state = .closed ∨ x.state = .showDone ∨ x.state = .showFailed →
      exec (.pairCancel (portArg p)) s = .next (s.replied 0x16 .notFound [])) ∧
    (s.replies.length < 4 → (s.port p).role = .bay → x.state = .waiting ∨ x.state = .queued ∨ x.state = .sending →
      ∃ t, exec (.pairCancel (portArg p)) s = .next (t.replied 0x16 .ok []) ∧ s.SessionFails t p x .cancelled) ∧
    (∀ d, x.state = .waiting → x.windowDue = some d → d ≤ s.now → ∃ t, exec (.windowDeadlineExpiry p) s = .next t ∧
      s.SessionFails t p x .timeout) ∧
    (x.state ≠ .waiting ∨ (∀ d, x.windowDue = some d → s.now < d) → exec (.windowDeadlineExpiry p) s = .next s) ∧
    (∀ d, x.state = .showDone ∨ x.state = .showFailed → x.showDue = some d → d ≤ s.now →
      ∃ t, exec (.showDeadlineExpiry p) s = .next t ∧
        t = { s with
          ports := t.ports, sessions := s.sessions.set p (some { x with state := .closed, showDue := none }) } ∧
        s.LampAsked t p .off) ∧
    ((x.state ≠ .showDone ∧ x.state ≠ .showFailed) ∨ (∀ d, x.showDue = some d → s.now < d) →
      exec (.showDeadlineExpiry p) s = .next s)

/-- PORT_ROLE (R86, R95, R99, R133) with its checks in their order. Accepted, it takes the port's entries from its zone, aborts
its session, clears its run-time state and writes the role; every role but UNUSED resets the module, with the reset deadline
started. Where a SWITCH role is taken from the port, the tick and a motion in progress are marked, so that a report that comes
together with the change, or late from that motion, is known; the marks are the model's own (log entry 36). The numbers of the
roles are those of section 9.4. -/
def Obligations.PortRoleStartsThePortAfresh : Prop :=
  ([.unused, .switch, .bay, .delegated] : List Role).map Role.code = [0, 1, 2, 3] ∧
  ∀ (p : PortIx) (role : Role) (s : State), s.TakesRequests →
    (s.part = .rest → exec (.portRole (portArg p) (BitVec.ofNat 4 role.code)) s = .next (s.replied 0x05 .asleep [])) ∧
    (s.part ≠ .rest → role = .bay → (s.port p).role ≠ .bay → 4 ≤ s.bayCount →
      exec (.portRole (portArg p) (BitVec.ofNat 4 role.code)) s = .next (s.replied 0x05 .full [])) ∧
    (s.part ≠ .rest → role ≠ .bay ∨ (s.port p).role = .bay ∨ s.bayCount < 4 →
      ∃ t, exec (.portRole (portArg p) (BitVec.ofNat 4 role.code)) s = .next (t.replied 0x05 .ok []) ∧
        t = { s with
          slots := t.slots, cars := t.cars, ports := t.ports, sessions := t.sessions, zones := t.zones
          insertionQueue := t.insertionQueue, queueWaiting := t.queueWaiting, window := t.window
          closing := t.closing, waitingLine := t.waitingLine, notices := t.notices, lastPort := t.lastPort } ∧
        (∀ q, q ≠ p → t.port q = s.port q ∧ t.session q = s.session q) ∧
        (∃ line : Port, line = (if role = .unused then { s.port p with waiting := [] }
            else Port.issue { s.port p with waiting := [] } .moduleReset) ∧
          t.port p = { line with
            role := role, state := if role = .unused then .off else .resetting
            resetDue := if role = .unused then none else some (s.now + 100), masked := false, faultCode := none
            counters := ⟨0, 0, 0, 0, 0, 0, 0⟩, lastDecision := none, returnPending := false, extension := 0
            flapDue := none, flapAwaiting := false
            lateMotion := decide (role ≠ .unused) && ((s.port p).lateMotion || (decide ((s.port p).role = .switch) &&
              (decide ((s.port p).state = .throwing) || decide ((s.port p).state = .returning))))
            roleTaken := if role = .unused then none else if (s.port p).role = .switch then some s.now
              else (s.port p).roleTaken }) ∧
        (∀ z, z ≠ s.zoneOfPort p ∨ (∀ e ∈ (s.zone z).entries, e.port ≠ p) → t.zone z = s.zone z) ∧
        ((∃ e ∈ (s.zone (s.zoneOfPort p)).entries, e.port = p) → ∃ rest,
          rest = (s.zone (s.zoneOfPort p)).entries.filter (fun e => decide (e.port ≠ p)) ∧
          t.zone (s.zoneOfPort p) = { s.zone (s.zoneOfPort p) with
            entries := rest, conflict := (s.zone (s.zoneOfPort p)).conflict && !rest.isEmpty }) ∧
        (role ≠ .bay → t.session p = none) ∧
        (role = .bay → s.session p = none → t.session p = some ⟨.closed, none, none, none, 0, none, none, none⟩) ∧
        (∀ x, s.session p = some x → x.state = .waiting ∨ x.state = .queued ∨ x.state = .sending →
          s.SessionReleased t p x ∧ t.notices = setFlag s.notices .pairFailed ∧ t.lastPort = some p ∧
          (role = .bay → t.session p = some { x with
            state := .closed, windowDue := none, showDue := none, outcome := some .aborted })) ∧
        ((∀ x, s.session p = some x → x.state = .closed ∨ x.state = .showDone ∨ x.state = .showFailed) →
          t.slots = s.slots ∧ t.cars = s.cars ∧ t.insertionQueue = s.insertionQueue ∧ t.queueWaiting = s.queueWaiting ∧
          t.window = s.window ∧ t.closing = s.closing ∧ t.waitingLine = s.waitingLine ∧ t.notices = s.notices ∧
          t.lastPort = s.lastPort ∧ (∀ x, role = .bay → s.session p = some x → t.session p = some { x with
            state := .closed, windowDue := none, showDue := none })))

/-- The requests about one section: PORT_MASK (R106), SECTION_CLEAR (R105), SECTION_WRITE and SECTION_READ (R98, R160) and
SECTION_COUNTS (R99, R161), with their refusals in order. Times are scaled, clamped and echoed as stored. The numbers of role, port
state, module kind, decision and deny reason are those of section 9.4. That the bits which no packing names are 0 is the model's choice (log entry 33). -/
def Obligations.SectionRequestsWriteAndReadTheRecord : Prop :=
  ([.unused, .switch, .bay, .delegated] : List Role).map Role.code = [0, 1, 2, 3] ∧
  ([.off, .resetting, .absent, .mismatch, .dormant, .straight, .throwing, .thrown, .returning, .fault, .ready] :
    List PortState).map PortState.code = [0, 1, 2, 3, 4, 5, 6, 7, 8, 9, 10] ∧
  ([none, some .switch, some .bay, some .external] : List (Option ModuleKind)).map kindCode = [0, 1, 2, 3] ∧
  Verdict.grant.code = 1 ∧ Verdict.pass.code = 2 ∧ (∀ d : DenyReason, (Verdict.deny d).code = 3) ∧
  Verdict.grant.reasonCode = 0 ∧ Verdict.pass.reasonCode = 0 ∧
  ([.masked, .fault, .noCar, .held, .race, .link, .flapBusy, .conflict, .zoneOther, .guarded, .full] :
    List DenyReason).map (fun d => (Verdict.deny d).reasonCode) = [1, 2, 3, 4, 5, 6, 7, 8, 9, 10, 11] ∧
  ∀ (p : PortIx) (s : State), s.TakesRequests →
    (∀ m : Bool,
      ((s.port p).role ≠ .switch → exec (.portMask (portArg p) m) s = .next (s.replied 0x06 .wrongRole [])) ∧
      ((s.port p).role = .switch → exec (.portMask (portArg p) m) s = .next (State.replied
        { s with ports := s.ports.set p { s.port p with masked := m } } 0x06 .ok []))) ∧
    (s.part = .rest → exec (.sectionClear (portArg p)) s = .next (s.replied 0x0A .asleep [])) ∧
    (s.part ≠ .rest → (s.port p).role = .unused ∨ (s.port p).role = .bay →
      exec (.sectionClear (portArg p)) s = .next (s.replied 0x0A .wrongRole [])) ∧
    (s.part ≠ .rest → (s.port p).role = .switch → (s.port p).state = .fault →
      exec (.sectionClear (portArg p)) s = .next (State.replied
        { s with ports := s.ports.set p { (s.port p).issue .straight with
            counters := ⟨0, 0, 0, 0, 0, 0, 0⟩, lastDecision := none, faultCode := none, state := .returning
            extension := 0, returnPending := false, flapDue := none, flapAwaiting := true } } 0x0A .ok [])) ∧
    (s.part ≠ .rest → ((s.port p).role = .switch ∧ (s.port p).state ≠ .fault) ∨ (s.port p).role = .delegated →
      exec (.sectionClear (portArg p)) s = .next (State.replied
        { s with ports := s.ports.set p { s.port p with
            counters := ⟨0, 0, 0, 0, 0, 0, 0⟩, lastDecision := none } } 0x0A .ok [])) ∧
    (∀ (z : ZoneIx) (cap hold guardTime flap : BitVec 8) (threshold : Word16),
      (z ≠ (s.port p).config.zone → (∃ y, ∃ e ∈ (s.zone y).entries, e.port = p) →
        exec (.sectionWrite (BitVec.ofNat 4 p.val) (BitVec.ofNat 4 z.val) cap hold guardTime flap threshold) s =
          .next (s.replied 0x07 .busy [])) ∧
      (z = (s.port p).config.zone ∨ (∀ y, ∀ e ∈ (s.zone y).entries, e.port ≠ p) → ∃ h g f : Nat,
        h = max 100 (min 5000 (20 * hold.toNat)) ∧ g = min 2000 (10 * guardTime.toNat) ∧
        f = max 10 (min 250 flap.toNat) ∧
        exec (.sectionWrite (BitVec.ofNat 4 p.val) (BitVec.ofNat 4 z.val) cap hold guardTime flap threshold) s =
          .next (State.replied
            { s with ports := s.ports.set p { s.port p with
                config := { zone := z, cap := cap.toNat, hold := h, guardTime := g, flapTimeout := f
                            threshold := threshold.toNat }
                throws := 0, counters := ⟨0, 0, 0, 0, 0, 0, 0⟩, lastDecision := none } } 0x07 .ok
            [cap ++ BitVec.ofNat 8 (h / 20), BitVec.ofNat 8 (g / 10) ++ BitVec.ofNat 8 f, threshold]))) ∧
    exec (.sectionRead (portArg p)) s = .next (s.replied 0x08 .ok
      [BitVec.ofNat 2 (s.port p).role.code ++ BitVec.ofBool (s.port p).masked ++ BitVec.ofNat 4 (s.port p).state.code ++
          BitVec.ofNat 2 (kindCode (s.port p).kind) ++ (0 : BitVec 4) ++ BitVec.ofNat 3 (s.port p).config.zone.val,
        BitVec.ofNat 8 (s.port p).config.cap ++ BitVec.ofNat 8 ((s.port p).config.hold / 20),
        BitVec.ofNat 8 ((s.port p).config.guardTime / 10) ++ BitVec.ofNat 8 (s.port p).config.flapTimeout,
        BitVec.ofNat 16 (s.port p).config.threshold]) ∧
    ∀ clear : Bool, ∃ t,
      t = { s with ports := s.ports.set p { s.port p with errors := if clear then 0 else (s.port p).errors } } ∧
      exec (.sectionCounts (portArg p) 0 clear) s = .next (t.replied 0x09 .ok
        [BitVec.ofNat 16 (s.port p).throws, BitVec.ofNat 16 (s.port p).counters.grant,
          BitVec.ofNat 16 (s.port p).counters.deny, BitVec.ofNat 16 (s.port p).counters.completed]) ∧
      exec (.sectionCounts (portArg p) 1 clear) s = .next (t.replied 0x09 .ok
        [BitVec.ofNat 16 (s.port p).counters.missed, BitVec.ofNat 16 (s.port p).counters.expired,
          BitVec.ofNat 16 (s.port p).counters.swept, BitVec.ofNat 16 (s.port p).counters.presumed]) ∧
      exec (.sectionCounts (portArg p) 2 clear) s = .next (t.replied 0x09 .ok
        [(match (s.port p).lastDecision with
          | none => (0 : BitVec 11)
          | some d => d.code ++ BitVec.ofNat 2 d.verdict.code ++ BitVec.ofNat 4 d.verdict.reasonCode) ++
            (0 : BitVec 4) ++ BitVec.ofBool (s.port p).faultCode.isSome,
          BitVec.ofNat 8 (s.port p).errors ++ (s.port p).faultCode.getD 0])

/-- ZONE_WRITE and ZONE_READ (R114, R162): the capacity is clamped to 1..3, stored and echoed, and the list is kept; the pages
read the zone, its guard and its entries with the time each has left. That the fields of an absent owner, guard or entry read 0
where R162 gives no value, and the bits that no packing names are 0, are the model's choices (log entries 32 and 33). -/
def Obligations.ZoneRequestsWriteAndReadTheRecord : Prop :=
  ∀ (z : ZoneIx) (s : State), s.TakesRequests →
    (∀ capacity : BitVec 8, ∃ n, n = max 1 (min 3 capacity.toNat) ∧
      exec (.zoneWrite (zoneArg z) capacity) s = .next (State.replied
        { s with zones := s.zones.set z { s.zone z with capacity := n } } 0x0B .ok [BitVec.ofNat 16 n])) ∧
    exec (.zoneRead (zoneArg z) 0) s = .next (s.replied 0x0C .ok
      [BitVec.ofNat 2 (s.zone z).capacity ++ BitVec.ofBool (s.zone z).conflict ++
          BitVec.ofNat 2 (s.zone z).entries.length ++ BitVec.ofBool (s.zone z).entries.head?.isSome ++
          BitVec.ofNat 4 (((s.zone z).entries.head?.map fun e => e.port.val).getD 0) ++
          BitVec.ofBool (s.zone z).guard.isSome ++ ((s.zone z).guard.map Guard.code).getD 0,
        BitVec.ofNat 16 (((s.zone z).guard.map fun g => g.due - s.now).getD 0)]) ∧
    ∀ k : Fin 3,
      ((s.zone z).entries[k.val]? = none →
        exec (.zoneRead (zoneArg z) (BitVec.ofNat 2 (k.val + 1))) s = .next (s.replied 0x0C .ok [0, 0])) ∧
      ∀ e, (s.zone z).entries[k.val]? = some e →
        exec (.zoneRead (zoneArg z) (BitVec.ofNat 2 (k.val + 1))) s = .next (s.replied 0x0C .ok
          [(1 : BitVec 1) ++ BitVec.ofNat 5 ((e.car.map addressOf).getD 0) ++ (0 : BitVec 6) ++
              BitVec.ofNat 4 e.port.val,
            BitVec.ofNat 16 (e.due - s.now)])

/-- REST (R109, R145, R167) is refused BUSY with the identity data while a condition forbids it; accepted, it stops the silence
deadline, takes every port that is not OFF into DORMANT with POWER(OFF), stands every car and discards what waits. WAKE
(R109, R147) begins the wake in REST and otherwise changes nothing; its reply always carries the identity data, whose unnamed
bits are 0 by the model's choice (log entry 33). That the marks for late flap reports, the model's own, fall at the entry to
REST is the model's reading (log entry 36). -/
def Obligations.RestAndWakeSwitchThePart : Prop :=
  ∀ s : State, s.TakesRequests → ∃ words : List Word16,
    words = [0x2E71, 0x0624, 0x0011, (0 : BitVec 14) ++ BitVec.ofBool s.directFallback ++ BitVec.ofBool s.strap] ∧
    (s.part ≠ .run ∨ (∃ p, (s.port p).role = .switch ∧ ((s.port p).state = .throwing ∨ (s.port p).state = .returning)) ∨
        (∃ z, (s.zone z).entries ≠ []) ∨ (∃ p x, s.session p = some x ∧ x.state ≠ .closed) →
      exec .rest s = .next (s.replied 0x1B .busy words)) ∧
    (s.part = .run → (∀ p, (s.port p).role = .switch → (s.port p).state ≠ .throwing ∧ (s.port p).state ≠ .returning) →
      (∀ z, (s.zone z).entries = []) → (∀ p x, s.session p = some x → x.state = .closed) →
      ∃ t : State, exec .rest s = .next (t.replied 0x1B .ok words) ∧
        t = { s with part := .rest, silenceDue := none, waitingLine := [], cars := t.cars, ports := t.ports } ∧
        (∀ a, t.car a = { s.car a with fine := 0 }) ∧
        ∀ p, ((s.port p).state = .off → t.port p = s.port p) ∧
          ((s.port p).state ≠ .off → t.port p = { Port.issue { s.port p with waiting := [] } (.power false) with
            state := .dormant, resetDue := none, flapDue := none, flapAwaiting := false, extension := 0
            returnPending := false, lateMotion := false, roleTaken := none })) ∧
    (s.part ≠ .rest → exec .wake s = .next (s.replied 0x1C .ok words)) ∧
    (s.part = .rest → ∃ t : State, exec .wake s = .next (t.replied 0x1C .ok words) ∧
      t = { s with part := .waking, wakeDue := some (s.now + 20), ports := t.ports } ∧
      ∀ p, ((s.port p).state ≠ .dormant → t.port p = s.port p) ∧
        ((s.port p).state = .dormant → t.port p = { (s.port p).issue (.power true) with
          state := .resetting, resetDue := some (s.now + 100) }))

/-! ### Port lines -/

/-- The order of a port line (R21) and the start of the flap deadline (R102, log entry 19): a message issued leaves at once on a
free line and else waits behind those issued before it; at PORT_LINE_FREE and FLAP_COMMAND_LEFT the newest flap command
that has left starts the deadline while the port is still in its motion; at PORT_LINE_FREE the next message leaves. -/
def Obligations.LinesKeepTheOrderOfIssue : Prop :=
  (∀ (q : Port) (m : HubMsg),
    (q.leaving = none → q.waiting = [] → q.moduleSending = false → q.issue m = { q with leaving := some m }) ∧
    (q.leaving ≠ none ∨ q.waiting ≠ [] ∨ q.moduleSending = true → q.issue m = { q with waiting := q.waiting ++ [m] })) ∧
  ∀ (p : PortIx) (s : State), s.resetHeld = false → ∃ q r : Port,
    ((s.port p).flapAwaiting = true → (∀ m ∈ (s.port p).waiting, m ≠ .throw ∧ m ≠ .straight) →
      ((s.port p).leaving = some .throw ∧ (s.port p).state = .throwing) ∨
        ((s.port p).leaving = some .straight ∧ (s.port p).state = .returning) →
      q = { s.port p with
        leaving := none, flapDue := some (s.now + (s.port p).config.flapTimeout), flapAwaiting := false }) ∧
    ((s.port p).flapAwaiting = false ∨ (∃ m ∈ (s.port p).waiting, m = .throw ∨ m = .straight) ∨
      ¬(((s.port p).leaving = some .throw ∧ (s.port p).state = .throwing) ∨
        ((s.port p).leaving = some .straight ∧ (s.port p).state = .returning)) →
      q = { s.port p with leaving := none }) ∧
    ((s.port p).leaving = some .throw ∨ (s.port p).leaving = some .straight →
      exec (.flapCommandLeft p) s = .next { s with ports := s.ports.set p q }) ∧
    ((s.port p).leaving ≠ some .throw → (s.port p).leaving ≠ some .straight → exec (.flapCommandLeft p) s = .next s) ∧
    exec (.portLineFree p) s = .next { s with ports := s.ports.set p r } ∧
    r = { q with moduleSending := false, leaving := q.waiting.head?, waiting := q.waiting.tail }

/-- Line errors and role errors (R20, R93, R94): each raises the port's saturating error count and sets PORT_ERRORS with the
port as subject, and nothing else; an OFF port hears nothing, and an APPROACH at a DELEGATED port is only ignored. So is a
READY, MOVING or MODULE_FAULT in RESETTING that is a late report of a motion of the SWITCH role, or comes together with the
PORT_ROLE that took that role (R95, R111). How such a report is known is the model's reading (log entry 36): a motion cut
off is reported until a READY or a MODULE_FAULT ends it, and "together" is the same tick. -/
def Obligations.LineAndRoleErrorsAreCounted : Prop :=
  ∀ (p : PortIx) (c : Instr) (s : State), s.resetHeld = false →
    ((c = .portLineError p ∨ c = .portMessageBrokenOff p) ∨
        (∃ code, (s.port p).role = .bay ∧ (c = .approach p code ∨ c = .guard p code ∨ c = .exitCross p code ∨
          c = .exitStraight p code)) ∨
        (∃ b code, ((s.port p).role = .bay ∨ (s.port p).role = .delegated) ∧
          ((s.port p).state = .resetting → (s.port p).lateMotion = false ∧ (s.port p).roleTaken ≠ some s.now) ∧
          (c = .ready p b ∨ c = .moving p ∨ c = .moduleFault p code)) ∨
        (∃ code, ((s.port p).role = .switch ∨ (s.port p).role = .bay) ∧ c = .selfThrow p code) ∨
        (∃ id, ((s.port p).role = .switch ∨ (s.port p).role = .delegated) ∧ c = .identity p id) →
      ((s.port p).state = .off → exec c s = .next s) ∧
      ((s.port p).state ≠ .off → exec c s = .next { s with
        ports := s.ports.set p { s.port p with
          moduleSending := false
          errors := if (s.port p).errors < 255 then (s.port p).errors + 1 else (s.port p).errors }
        notices := setFlag s.notices .portErrors, lastPort := some p })) ∧
    ((s.port p).state = .off → (∃ k b, c = .hello p k b) ∨ (∃ code, c = .approach p code ∨ c = .guard p code ∨
        c = .exitCross p code ∨ c = .exitStraight p code ∨ c = .selfThrow p code) ∨
        (∃ b code, c = .ready p b ∨ c = .moving p ∨ c = .moduleFault p code) ∨ (∃ id, c = .identity p id) →
      exec c s = .next s) ∧
    ((s.port p).state = .resetting → (s.port p).lateMotion = true ∨ (s.port p).roleTaken = some s.now →
      (c = .moving p → exec c s = .next (s.heard p)) ∧
      ((∃ b code, c = .ready p b ∨ c = .moduleFault p code) → exec c s = .next { s with
        ports := s.ports.set p { s.port p with moduleSending := false, lateMotion := false } })) ∧
    (∀ code, c = .approach p code → (s.port p).role = .delegated → (s.port p).state ≠ .off →
      exec c s = .next (s.heard p))

/-- A HELLO (R94, R96, R97): in RESETTING, ABSENT and MISMATCH it starts the port up, in DORMANT it is ignored, and in a working
state it is a restart, which first takes a SWITCH or DELEGATED port's entries and motion from it. The kind is recorded, the
reset deadline stops, and kind and role decide the state; a mismatch counts. That the marks for late flap reports, the model's
own, fall at a HELLO that is not ignored is the model's reading (log entry 36). -/
def Obligations.HelloStartsOrRestartsThePort : Prop :=
  ∀ (p : PortIx) (kind : ModuleKind) (thrown : Bool) (s : State), s.resetHeld = false → (s.port p).role ≠ .unused →
    (s.port p).state ≠ .off →
    ((s.port p).state = .dormant → exec (.hello p kind thrown) s = .next (s.heard p)) ∧
    ((s.port p).state ≠ .dormant → ∃ (restart : Prop) (t : State) (q : Port),
      (restart ↔ ((s.port p).role = .switch ∨ (s.port p).role = .delegated) ∧ (s.port p).state ≠ .resetting ∧
        (s.port p).state ≠ .absent ∧ (s.port p).state ≠ .mismatch) ∧
      exec (.hello p kind thrown) s = .next t ∧
      t = { s with ports := s.ports.set p (t.port p), zones := t.zones, notices := t.notices, lastPort := t.lastPort } ∧
      (∀ z, ¬restart ∨ z ≠ s.zoneOfPort p ∨ (∀ e ∈ (s.zone z).entries, e.port ≠ p) → t.zone z = s.zone z) ∧
      (restart → (∃ e ∈ (s.zone (s.zoneOfPort p)).entries, e.port = p) → ∃ rest,
        rest = (s.zone (s.zoneOfPort p)).entries.filter (fun e => decide (e.port ≠ p)) ∧
        t.zone (s.zoneOfPort p) = { s.zone (s.zoneOfPort p) with
          entries := rest, conflict := (s.zone (s.zoneOfPort p)).conflict && !rest.isEmpty }) ∧
      (restart → q = { s.port p with
        moduleSending := false, kind := some kind, resetDue := none, returnPending := false, extension := 0
        lateMotion := false, roleTaken := none
        flapDue := none, flapAwaiting := false
        waiting := (s.port p).waiting.filter fun m => decide (m ≠ .throw) && decide (m ≠ .straight) }) ∧
      (¬restart → q = { s.port p with
        moduleSending := false, kind := some kind, resetDue := none, lateMotion := false, roleTaken := none }) ∧
      ((s.port p).role = .switch → kind = .switch → thrown = false → t.port p = { q with state := .straight }) ∧
      ((s.port p).role = .switch → kind = .switch → thrown = true → t.port p = { q.issue .straight with
        state := .returning, extension := 0, returnPending := false, flapDue := none, flapAwaiting := true }) ∧
      ((s.port p).role = .delegated → kind = .external → t.port p = { q with state := .ready }) ∧
      (∀ x, (s.port p).role = .bay → kind = .bay → s.session p = some x →
        t.port p = Port.issue { q with state := .ready } (.lamp x.state.lamp)) ∧
      (kindMatches (s.port p).role kind = true → t.notices = s.notices ∧ t.lastPort = s.lastPort) ∧
      (kindMatches (s.port p).role kind = false → t.notices = setFlag s.notices .portErrors ∧ t.lastPort = some p ∧
        t.port p = { q with
          state := .mismatch
          errors := if (s.port p).errors < 255 then (s.port p).errors + 1 else (s.port p).errors }))

/-- The flap of a SWITCH port in a working state (R100 to R103). A READY that settles the motion, or turns it round when a return
is pending, stops the deadline; a READY of the other position puts the port into FAULT with STRAIGHT issued; MOVING extends
the motion at most twice; a MODULE_FAULT records its code. Other reports are ignored. -/
def Obligations.FlapReportsMoveTheFlapMachine : Prop :=
  ∀ (p : PortIx) (s : State), s.resetHeld = false → (s.port p).role = .switch → (s.port p).state.working = true →
    ∃ q failed : Port, q = { s.port p with moduleSending := false } ∧
      failed = { q with
        state := .fault, returnPending := false, extension := 0, flapDue := none, flapAwaiting := false
        waiting := q.waiting.filter fun m => decide (m ≠ .throw) && decide (m ≠ .straight) } ∧
      ((s.port p).state = .throwing → (s.port p).returnPending = false → exec (.ready p true) s = .next { s with
        ports := s.ports.set p { q with state := .thrown, flapDue := none, flapAwaiting := false } }) ∧
      ((s.port p).state = .throwing → (s.port p).returnPending = true → exec (.ready p true) s = .next { s with
        ports := s.ports.set p { q.issue .straight with
          state := .returning, extension := 0, returnPending := false, flapDue := none, flapAwaiting := true } }) ∧
      ((s.port p).state = .returning → exec (.ready p false) s = .next { s with
        ports := s.ports.set p { q with state := .straight, flapDue := none, flapAwaiting := false } }) ∧
      (∀ thrown, ((s.port p).state = .throwing ∧ thrown = false) ∨ ((s.port p).state = .returning ∧ thrown = true) →
        exec (.ready p thrown) s = .next { s with
          ports := s.ports.set p (failed.issue .straight)
          notices := setFlag s.notices .flapFault, lastPort := some p }) ∧
      (∀ thrown, (s.port p).state ≠ .throwing → (s.port p).state ≠ .returning →
        exec (.ready p thrown) s = .next (s.heard p) ∧ exec (.moving p) s = .next (s.heard p)) ∧
      ((s.port p).state = .throwing ∨ (s.port p).state = .returning →
        ((s.port p).extension < 2 → exec (.moving p) s = .next { s with
          ports := s.ports.set p { q with
            extension := (s.port p).extension + 1, flapDue := some (s.now + (s.port p).config.flapTimeout)
            flapAwaiting := false } }) ∧
        (2 ≤ (s.port p).extension → exec (.moving p) s = .next (s.heard p))) ∧
      (∀ code, exec (.moduleFault p code) s = .next { s with
        ports := s.ports.set p { (if (s.port p).state = .fault then q else failed) with faultCode := some code }
        notices := setFlag s.notices .flapFault, lastPort := some p })

/-- The deadlines of a port: the reset deadline's expiry puts a RESETTING port into ABSENT (R96), the flap deadline's a moving
flap into FAULT with STRAIGHT issued (R100, R102). Stopped ones and those started again to a later tick give nothing (R111); that
an expiry is judged by the tick when it is taken is the model's reading (log entry 4), and so is that the marks for late
flap reports, the model's own, fall with the reset deadline (log entry 36). Flap reports outside the working states of a SWITCH
port are ignored (R94); of a READY or MODULE_FAULT in RESETTING that ends a motion cut off, O43 says so, and so is an IDENTITY outside READY (R108). -/
def Obligations.PortDeadlinesExpire : Prop :=
  ∀ (p : PortIx) (s : State), s.resetHeld = false →
    (∀ d, (s.port p).state = .resetting → (s.port p).resetDue = some d → d ≤ s.now →
      exec (.resetDeadlineExpiry p) s = .next { s with
        ports := s.ports.set p { s.port p with
          state := .absent, resetDue := none, lateMotion := false, roleTaken := none } }) ∧
    ((s.port p).state ≠ .resetting ∨ (∀ d, (s.port p).resetDue = some d → s.now < d) →
      exec (.resetDeadlineExpiry p) s = .next s) ∧
    (∀ d, (s.port p).state = .throwing ∨ (s.port p).state = .returning → (s.port p).flapDue = some d → d ≤ s.now →
      exec (.flapDeadlineExpiry p) s = .next { s with
        ports := s.ports.set p (Port.issue { s.port p with
          state := .fault, returnPending := false, extension := 0, flapDue := none, flapAwaiting := false
          waiting := (s.port p).waiting.filter fun m => decide (m ≠ .throw) && decide (m ≠ .straight) } .straight)
        notices := setFlag s.notices .flapFault, lastPort := some p }) ∧
    (((s.port p).state ≠ .throwing ∧ (s.port p).state ≠ .returning) ∨ (∀ d, (s.port p).flapDue = some d → s.now < d) →
      exec (.flapDeadlineExpiry p) s = .next s) ∧
    ((s.port p).role = .switch → (s.port p).state.working = false → (s.port p).state ≠ .off →
      exec (.moving p) s = .next (s.heard p) ∧
      (((s.port p).state = .resetting → (s.port p).lateMotion = false) → ∀ thrown code,
        exec (.ready p thrown) s = .next (s.heard p) ∧ exec (.moduleFault p code) s = .next (s.heard p))) ∧
    ((s.port p).role = .bay → (s.port p).state ≠ .ready → (s.port p).state ≠ .off → ∀ id,
      exec (.identity p id) s = .next (s.heard p))

/-! ### Crossing zones -/

/-- The decision on an APPROACH (R117, R118, R121, R122): the first check of the table that holds gives the outcome, which a SWITCH
port's section writes down with the car code as received. Every outcome but GRANT asks the port to return its flap, counts
a DENY, and leaves all else as it is: the car's latch, the lists and every other port. -/
def Obligations.ApproachesAreDecidedByTheFirstCheckThatHolds : Prop :=
  ∀ (p : PortIx) (code : BitVec 5) (s : State), s.resetHeld = false → (s.port p).role = .switch → (s.port p).state ≠ .off →
    ∃ (v : Verdict) (t : State), s.decideApproach p code = v ∧ exec (.approach p code) s = .next t ∧
      (t.port p).lastDecision = some ⟨code, v⟩ ∧
      ((s.port p).masked = true → v = .deny .masked) ∧
      ((s.port p).masked = false →
        (s.port p).state = .fault ∨ (s.port p).state = .resetting ∨ (s.port p).state = .absent ∨
          (s.port p).state = .mismatch ∨ (s.port p).state = .dormant → v = .deny .fault) ∧
      ((s.port p).masked = false → (s.port p).state ≠ .fault → (s.port p).state ≠ .resetting →
        (s.port p).state ≠ .absent → (s.port p).state ≠ .mismatch → (s.port p).state ≠ .dormant →
        ((∀ a, code = carCode a → s.driven a = false) → v = .deny .noCar) ∧
        ∀ a, code = carCode a → s.driven a = true → v =
          if (s.car a).armed = false ∧ (s.car a).reservation = none ∧ (s.car a).link ≠ .lost then .pass
          else if (s.car a).reservation ≠ none then .deny .held
          else if s.part ≠ .run ∨ s.race ≠ .green ∨ s.laneEnable = false then .deny .race
          else if (s.car a).link = .passive ∨ (s.car a).link = .lost then .deny .link
          else if (s.port p).state = .returning then .deny .flapBusy
          else if (s.zone (s.zoneOfPort p)).conflict then .deny .conflict
          else if ∃ e ∈ (s.zone (s.zoneOfPort p)).entries, e.port ≠ p then .deny .zoneOther
          else if (s.zone (s.zoneOfPort p)).guard ≠ none then .deny .guarded
          else if (s.zone (s.zoneOfPort p)).capacity ≤
              ((s.zone (s.zoneOfPort p)).entries.filter fun e => decide (e.car ≠ some a)).length then .deny .full
          else .grant) ∧
      (v = .pass → t = { s with ports := s.ports.set p (Port.returned { s.port p with
        moduleSending := false, lastDecision := some ⟨code, v⟩ }) }) ∧
      ∀ r, v = .deny r → t = { s with ports := s.ports.set p (Port.returned { s.port p with
        moduleSending := false, lastDecision := some ⟨code, v⟩
        counters := { (s.port p).counters with deny := raise16 (s.port p).counters.deny } }) }

/-- A GRANT (R101, R116, R119, R120): the latch is cleared, an earlier entry of the car leaves, the new entry joins the tail with
its expiry, the decision is written and counted, and the flap is thrown from STRAIGHT or kept across. SERVICE_DUE follows
a throw at the threshold. Only a port that loses the car's earlier entry changes besides. An entry that takes the place of
an earlier one in the same list carries the tick and the earlier one's port, the model's own mark for R136 (log entry 31). -/
def Obligations.GrantsEnterTheCarAndThrowTheFlap : Prop :=
  ∀ (p : PortIx) (a : CarIx) (s : State), s.resetHeld = false → (s.port p).role = .switch → s.ListsLawful →
    (s.port p).state = .straight ∨ (s.port p).state = .throwing ∨ (s.port p).state = .thrown →
    s.decideApproach p (carCode a) = .grant →
    ∃ (r : Option Supersede) (u v t : State), exec (.approach p (carCode a)) s = .next t ∧
      (∀ e ∈ (s.zone (s.zoneOfPort p)).entries, e.car = some a → r = some ⟨s.now, e.port⟩) ∧
      ((∀ e ∈ (s.zone (s.zoneOfPort p)).entries, e.car ≠ some a) → r = none) ∧
      u = { s.heard p with cars := s.cars.set a { s.car a with armed := false } } ∧
      ((∀ y, ∀ e ∈ (s.zone y).entries, e.car ≠ some a) → v = u) ∧
      (∀ y k e, (s.zone y).entries[k]? = some e → e.car = some a → e.port ≠ p → u.EntryLeaves v y k e id) ∧
      (∀ y k e, (s.zone y).entries[k]? = some e → e.car = some a → e.port = p → v = { u with
        zones := s.zones.set y { s.zone y with entries := (s.zone y).entries.eraseIdx k } }) ∧
      t = { v with
        zones := v.zones.set (s.zoneOfPort p) { v.zone (s.zoneOfPort p) with
          entries := (v.zone (s.zoneOfPort p)).entries ++ [⟨some a, p, s.now + (s.port p).config.hold, r⟩] }
        ports := v.ports.set p (t.port p), notices := t.notices, lastPort := t.lastPort } ∧
      ∃ q : Port, q = { s.port p with
          moduleSending := false, lastDecision := some ⟨carCode a, .grant⟩
          counters := { (s.port p).counters with grant := raise16 (s.port p).counters.grant } } ∧
        ((s.port p).state = .straight → t.port p = { q.issue .throw with
          state := .throwing, extension := 0, returnPending := false, flapDue := none, flapAwaiting := true
          throws := raise16 (s.port p).throws }) ∧
        ((s.port p).state = .throwing → t.port p = { q with returnPending := false }) ∧
        ((s.port p).state = .thrown → t.port p = q) ∧
        ((s.port p).state = .straight ∧ (s.port p).config.threshold ≠ 0 ∧
            (s.port p).config.threshold ≤ raise16 (s.port p).throws →
          t.notices = setFlag s.notices .serviceDue ∧ t.lastPort = some p) ∧
        (¬((s.port p).state = .straight ∧ (s.port p).config.threshold ≠ 0 ∧
            (s.port p).config.threshold ≤ raise16 (s.port p).throws) →
          t.notices = s.notices ∧ t.lastPort = s.lastPort)

/-- Guards, exits and expiries of a zone (R123 to R128) at a SWITCH or DELEGATED port: a GUARD sets the zone's guard unless it
names a car in the list or the guard time is 0; an exit that names a car removes its entry, COMPLETED or MISSED; a crossing
exit with no readable code removes the port's oldest entry, PRESUMED; one that finds none is SWEPT; an entry's expiry
removes it, EXPIRED, and a guard's clears the guard. An exit taken after a supersede that comes together with it does not find
the entry that took the old one's place: it is handled as an exit for a car in no list (R136); a presumed exit at a port is
concerned only where the old entry too was the port's. That the two come together when they are taken at one tick is the
model's reading (log entry 31). That an expiry names its entry by its place in the
list, and does nothing before its tick, is the model's choice (log entries 25 and 4). -/
def Obligations.GuardsAndExitsActOnTheZone : Prop :=
  (∀ (p : PortIx) (s : State), s.resetHeld = false → (s.port p).role = .switch ∨ (s.port p).role = .delegated →
    (s.port p).state ≠ .off → ∃ (z : ZoneIx) (swept : State), z = s.zoneOfPort p ∧
      swept = { s with ports := s.ports.set p { s.port p with
        moduleSending := false, counters := { (s.port p).counters with swept := raise16 (s.port p).counters.swept } } } ∧
      (∀ code, ((∃ a, code = carCode a ∧ ∃ e ∈ (s.zone z).entries, e.car = some a) ∨ (s.port p).config.guardTime = 0 →
          exec (.guard p code) s = .next (s.heard p)) ∧
        ((∀ a, code = carCode a → ∀ e ∈ (s.zone z).entries, e.car ≠ some a) → (s.port p).config.guardTime ≠ 0 →
          exec (.guard p code) s = .next { s.heard p with zones := s.zones.set z { s.zone z with
            guard := some ⟨code, s.now + (s.port p).config.guardTime⟩ } })) ∧
      (∀ a, (∀ e ∈ (s.zone z).entries, e.car = some a → ∃ q, e.replaced = some ⟨s.now, q⟩) →
        exec (.exitCross p (carCode a)) s = .next swept ∧ exec (.exitStraight p (carCode a)) s = .next (s.heard p)) ∧
      (∀ a k e, (s.zone z).entries[k]? = some e → e.car = some a → (∀ q, e.replaced ≠ some ⟨s.now, q⟩) →
        (∀ (j : Nat) d, j < k → (s.zone z).entries[j]? = some d → d.car = some a → ∃ q, d.replaced = some ⟨s.now, q⟩) →
        (∃ t, exec (.exitCross p (carCode a)) s = .next t ∧ (s.heard p).EntryLeaves t z k e
          fun n => { n with completed := raise16 n.completed }) ∧
        ∃ t, exec (.exitStraight p (carCode a)) s = .next t ∧ (s.heard p).EntryLeaves t z k e
          fun n => { n with missed := raise16 n.missed }) ∧
      ∀ code : BitVec 5, code = 0 ∨ 25 ≤ code.toNat →
        exec (.exitStraight p code) s = .next (s.heard p) ∧
        ((∀ e ∈ (s.zone z).entries, e.port = p → e.replaced = some ⟨s.now, p⟩) → exec (.exitCross p code) s = .next swept) ∧
        ∀ k e, (s.zone z).entries[k]? = some e → e.port = p → e.replaced ≠ some ⟨s.now, p⟩ →
          (∀ (j : Nat) d, j < k → (s.zone z).entries[j]? = some d → d.port = p → d.replaced = some ⟨s.now, p⟩) →
          ∃ t, exec (.exitCross p code) s = .next t ∧ (s.heard p).EntryLeaves t z k e
            fun n => { n with presumed := raise16 n.presumed }) ∧
  ∀ (z : ZoneIx) (s : State), s.resetHeld = false →
    (∀ k : Fin 3, ((s.zone z).entries[k.val]? = none → exec (.entryExpiry z k) s = .next s) ∧
      ∀ e, (s.zone z).entries[k.val]? = some e →
        (s.now < e.due → exec (.entryExpiry z k) s = .next s) ∧
        (e.due ≤ s.now → ∃ t, exec (.entryExpiry z k) s = .next t ∧ s.EntryLeaves t z k.val e
          fun n => { n with expired := raise16 n.expired })) ∧
    ((s.zone z).guard = none → exec (.guardExpiry z) s = .next s) ∧
    ∀ g, (s.zone z).guard = some g →
      (s.now < g.due → exec (.guardExpiry z) s = .next s) ∧
      (g.due ≤ s.now → exec (.guardExpiry z) s = .next { s with
        zones := s.zones.set z { s.zone z with guard := none } })

/-- A SELF_THROW at a DELEGATED port (R107, R129, R130): it counts as a throw; an earlier entry of the car leaves and a driven car
loses its latch; on another port's entry it sets the conflict; it displaces the oldest of three entries and joins the tail,
whatever the state of race, part and car. An entry that takes the place of an earlier one in the same list carries the tick
and the earlier one's port, the model's own mark for R136 (log entry 31). -/
def Obligations.SelfThrowsAreAlwaysEntered : Prop :=
  ∀ (p : PortIx) (code : BitVec 5) (s : State), s.resetHeld = false → (s.port p).role = .delegated →
    (s.port p).state ≠ .off → s.ListsLawful →
    ∃ (z : ZoneIx) (car : Option CarIx) (r : Option Supersede) (u v w x : State), z = s.zoneOfPort p ∧
      (∀ a, car = some a ↔ code = carCode a) ∧
      (∀ a, car = some a → ∀ e ∈ (s.zone z).entries, e.car = some a → r = some ⟨s.now, e.port⟩) ∧
      ((∀ a, car = some a → ∀ e ∈ (s.zone z).entries, e.car ≠ some a) → r = none) ∧
      u = { s with
        ports := s.ports.set p { s.port p with moduleSending := false, throws := raise16 (s.port p).throws }
        notices := u.notices, lastPort := u.lastPort } ∧
      ((s.port p).config.threshold ≠ 0 ∧ (s.port p).config.threshold ≤ raise16 (s.port p).throws →
        u.notices = setFlag s.notices .serviceDue ∧ u.lastPort = some p) ∧
      ((s.port p).config.threshold = 0 ∨ raise16 (s.port p).throws < (s.port p).config.threshold →
        u.notices = s.notices ∧ u.lastPort = s.lastPort) ∧
      ((∀ a, car = some a → ∀ y, ∀ e ∈ (s.zone y).entries, e.car ≠ some a) → v = { u with cars := v.cars }) ∧
      (∀ a y k e, car = some a → (s.zone y).entries[k]? = some e → e.car = some a →
        State.EntryLeaves { u with cars := v.cars } v y k e id) ∧
      (∀ b, v.car b = { s.car b with armed := (s.car b).armed && !(decide (car = some b) && s.driven b) }) ∧
      ((∃ e ∈ (v.zone z).entries, e.port ≠ p) → w = { v with
        zones := v.zones.set z { v.zone z with conflict := true }
        notices := setFlag v.notices .zoneConflict, lastPort := some p }) ∧
      ((∀ e ∈ (v.zone z).entries, e.port = p) → w = v) ∧
      ((v.zone z).entries.length < 3 → x = w) ∧
      (∀ e, 3 ≤ (v.zone z).entries.length → (v.zone z).entries.head? = some e → w.EntryLeaves x z 0 e id) ∧
      exec (.selfThrow p code) s = .next { x with
        zones := x.zones.set z { x.zone z with
          entries := (x.zone z).entries ++ [⟨car, p, s.now + (s.port p).config.hold, r⟩] } }

/-! ### Time and the part -/

/-- The expiries of Run Control: the settles end STARTUP and WAKING in RUN with the silence deadline started (R139, R142, R147);
silence ends RUN in HALT, with latches cleared, cars stood, SILENCE set and the first own CYCLE frame due (R143); in HALT an
own CYCLE frame falls due every 20 ms (R144), leaving at once, waiting behind at most one other, or discarded (R10). Of a
deadline stopped, or started again to a later tick, no expiry follows (R151); that an expiry is judged by the tick when it is
taken, and new deadlines counted from there, is the model's reading (log entry 4). -/
def Obligations.RunControlDeadlinesExpire : Prop :=
  ∀ s : State, s.resetHeld = false →
    (∀ d, s.part = .startup → s.startupDue = some d → d ≤ s.now → exec .startUpSettleExpiry s = .next { s with
      part := .run, startupDue := none, silenceDue := some (s.now + s.silenceTimeout) }) ∧
    (s.part ≠ .startup ∨ (∀ d, s.startupDue = some d → s.now < d) → exec .startUpSettleExpiry s = .next s) ∧
    (∀ d, s.part = .waking → s.wakeDue = some d → d ≤ s.now → exec .wakeSettleExpiry s = .next { s with
      part := .run, wakeDue := none, silenceDue := some (s.now + s.silenceTimeout) }) ∧
    (s.part ≠ .waking ∨ (∀ d, s.wakeDue = some d → s.now < d) → exec .wakeSettleExpiry s = .next s) ∧
    (∀ d, s.part = .run → s.silenceDue = some d → d ≤ s.now → ∃ t, exec .silenceDeadlineExpiry s = .next t ∧
      t = { s with
        part := .halt, silenceDue := none, ownCycleDue := some (s.now + 20), cars := t.cars
        notices := setFlag s.notices .silence, railOut := t.railOut, window := t.window, closing := t.closing
        waitingLine := t.waitingLine } ∧
      (∀ a, t.car a = { s.car a with armed := false, fine := 0 }) ∧
      (s.railOut = none → s.waitingLine = [] → t.railOut = some (.cycle .stop false 0) ∧ t.window = none ∧
        t.closing = s.closing ++ s.window.toList ∧ t.waitingLine = []) ∧
      (s.railOut ≠ none ∨ s.waitingLine ≠ [] → t.railOut = s.railOut ∧ t.window = s.window ∧ t.closing = s.closing ∧
        t.waitingLine = if s.waitingLine.length < 2 then s.waitingLine ++ [.frame (.cycle .stop false 0)]
          else s.waitingLine)) ∧
    (s.part ≠ .run ∨ (∀ d, s.silenceDue = some d → s.now < d) → exec .silenceDeadlineExpiry s = .next s) ∧
    (∀ d, s.part = .halt → s.ownCycleDue = some d → d ≤ s.now →
      (s.railOut = none → s.waitingLine = [] → exec .ownCycleTimerExpiry s = .next { s with
        ownCycleDue := some (d + 20), railOut := some (.cycle .stop false 0), window := none
        closing := s.closing ++ s.window.toList }) ∧
      (s.railOut ≠ none ∨ s.waitingLine ≠ [] → exec .ownCycleTimerExpiry s = .next { s with
        ownCycleDue := some (d + 20)
        waitingLine := if s.waitingLine.length < 2 then s.waitingLine ++ [.frame (.cycle .stop false 0)]
          else s.waitingLine })) ∧
    (s.part ≠ .halt ∨ (∀ d, s.ownCycleDue = some d → s.now < d) → exec .ownCycleTimerExpiry s = .next s)

/-! ### Laws that every step keeps -/

/-- Every step keeps holder and binding mirror images (R24). -/
def Obligations.StepsKeepHoldersAndBindingsMirrored : Prop :=
  ∀ s t : State, step s = .next t → s.Mirrored → t.Mirrored

/-- Every step keeps the identities of the car records distinct (R42). -/
def Obligations.StepsKeepIdentitiesDistinct : Prop :=
  ∀ s t : State, step s = .next t → s.IdentitiesDistinct → t.IdentitiesDistinct

/-- Every step keeps the law that only a driven, unreserved car that is not LOST is ARMED, and only while the race record reads
GREEN with lane changes enabled, in RUN or on through REST and the wake (R31, R33, R36, R118). -/
def Obligations.StepsArmOnlyDrivenCars : Prop :=
  ∀ s t : State, step s = .next t → s.Mirrored → s.ArmedLawful → t.ArmedLawful

/-- Every step keeps the link state what the fault count gives, and LOST at count 255 alone (R56). -/
def Obligations.StepsKeepLinkStatesLawful : Prop :=
  ∀ s t : State, step s = .next t → s.LinksLawful → t.LinksLawful

/-- Every step keeps speeds, settings, counters, replies, waiting frames and the request under assembly in their ranges (R3, R10,
R18, R25, R44, R45, R142, R152, R153, R155). -/
def Obligations.StepsKeepValuesInRange : Prop :=
  ∀ s t : State, step s = .next t → s.SpeedsInRange ∧ s.CountersInRange ∧ s.BuffersLawful →
    t.SpeedsInRange ∧ t.CountersInRange ∧ t.BuffersLawful

/-- Every step keeps the crossing lists, the port records and the flap lawful: at most three entries, each in its port's zone, a
car in one entry of all zones, at most four bays, every section's configuration and counters in their ranges, and no flap
across without an entry that it serves (R92, R98, R99, R103, R112, R113, R116). -/
def Obligations.StepsKeepZonesAndPortsLawful : Prop :=
  ∀ s t : State, step s = .next t → s.ListsLawful ∧ s.PortsLawful ∧ s.FlapsServeEntries →
    t.ListsLawful ∧ t.PortsLawful ∧ t.FlapsServeEntries

/-- Every step keeps the pairing laws: claims and reservations mirror the sessions; no port stands twice among those that wait for
a place, the sequences and the ASSIGN answers still to come; and, unless the internal reset is held, every QUEUED or SENDING
session stands there (R12, R69, R74, R78). -/
def Obligations.StepsKeepSessionsAndQueueLawful : Prop :=
  ∀ s t : State, step s = .next t → s.SessionsLawful ∧ s.QueueLawful → t.SessionsLawful ∧ t.QueueLawful

/-- Every step keeps the part at rest lawful, Run Control's deadlines running in their own states and the strap's setting fixed
(R28, R109, R141, R145, R146), and moves the part state along the edges of R138 alone. -/
def Obligations.StepsKeepThePartLawful : Prop :=
  ∀ s t : State, step s = .next t → s.SessionsLawful ∧ s.QueueLawful →
    PartEdge s.part t.part ∧ (s.RestLawful → t.RestLawful) ∧ (s.DeadlinesLawful → t.DeadlinesLawful) ∧
      (s.StrapHolds → t.StrapHolds)

/-- All these laws hold in the state right after reset, so they hold in every state that the hub reaches from there. -/
def Obligations.TheLawsHoldAfterReset : Prop :=
  State.reset.Mirrored ∧ State.reset.IdentitiesDistinct ∧ State.reset.ArmedLawful ∧ State.reset.LinksLawful ∧
    State.reset.SpeedsInRange ∧ State.reset.CountersInRange ∧ State.reset.BuffersLawful ∧ State.reset.ListsLawful ∧
    State.reset.PortsLawful ∧ State.reset.FlapsServeEntries ∧ State.reset.SessionsLawful ∧ State.reset.QueueLawful ∧
    State.reset.RestLawful ∧ State.reset.DeadlinesLawful ∧ State.reset.StrapHolds

end
end

