-- ==== Sys2Proof/Laws/State.lean ====
section
/-! SUPPORT. The fields of a state after each update of Machine/Ops.lean and Machine/Flags.lean: one statement for each update,
one equation for each field, all true by definition. The normal form of a record of a table is the table's own entry. -/

namespace Sys2Proof.Machine

/-! ### Groups of fields that an update leaves as they are -/

/-- The queue of commands, the free counter and the reset line are the same in `t` as in `s`. -/
@[simp] abbrev State.SameQueue (s t : State) : Prop :=
  t.pending = s.pending ∧ t.free = s.free ∧ t.resetHeld = s.resetHeld

/-- The Console Port's fields are the same in `t` as in `s`. -/
@[simp] abbrev State.SameConsole (s t : State) : Prop :=
  t.rxBits = s.rxBits ∧ t.returnWindow = s.returnWindow

/-- The insertion queue and those that wait for it are the same in `t` as in `s`. -/
@[simp] abbrev State.SameInsertion (s t : State) : Prop :=
  t.insertionQueue = s.insertionQueue ∧ t.queueWaiting = s.queueWaiting

/-- The rail output's fields are the same in `t` as in `s`. -/
@[simp] abbrev State.SameOutput (s t : State) : Prop :=
  t.railOut = s.railOut ∧ t.window = s.window ∧ t.closing = s.closing ∧ t.waitingLine = s.waitingLine

/-- The settings that requests write are the same in `t` as in `s`. -/
@[simp] abbrev State.SameSettings (s t : State) : Prop :=
  t.directFallback = s.directFallback ∧ t.strap = s.strap ∧ t.curves = s.curves ∧ t.cautionCap = s.cautionCap ∧
  t.defaultBay = s.defaultBay ∧ t.silenceTimeout = s.silenceTimeout

/-- Run Control's fields are the same in `t` as in `s`. -/
@[simp] abbrev State.SameRun (s t : State) : Prop :=
  t.part = s.part ∧ t.race = s.race ∧ t.laneEnable = s.laneEnable ∧ t.now = s.now ∧
  t.startupDue = s.startupDue ∧ t.wakeDue = s.wakeDue ∧ t.silenceDue = s.silenceDue ∧
  t.ownCycleDue = s.ownCycleDue ∧ t.cause = s.cause

/-- The request under assembly, the replies and the counters are the same in `t` as in `s`. -/
@[simp] abbrev State.SameManagement (s t : State) : Prop :=
  t.assembly = s.assembly ∧ t.replies = s.replies ∧ t.frameErrors = s.frameErrors ∧
  t.kindErrors = s.kindErrors ∧ t.dropped = s.dropped

/-- The notice flags and their subjects are the same in `t` as in `s`. -/
@[simp] abbrev State.SameNotices (s t : State) : Prop :=
  t.notices = s.notices ∧ t.lastCar = s.lastCar ∧ t.lastPort = s.lastPort

/-! ### Reading one record -/

@[simp] theorem State.slot_eq (s : State) (h : SlotIx) : s.slot h = s.slots[h.val] := rfl

@[simp] theorem State.car_eq (s : State) (a : CarIx) : s.car a = s.cars[a.val] := rfl

@[simp] theorem State.port_eq (s : State) (p : PortIx) : s.port p = s.ports[p.val] := rfl

@[simp] theorem State.zone_eq (s : State) (z : ZoneIx) : s.zone z = s.zones[z.val] := rfl

@[simp] theorem State.session_eq (s : State) (p : PortIx) : s.session p = s.sessions[p.val] := rfl

@[simp] theorem State.after_eq (s : State) (n : Nat) : s.after n = s.now + n := rfl

/-! ### Deadlines -/

@[simp] theorem State.reached_none (s : State) : s.reached none = false := rfl

@[simp] theorem State.reached_some (s : State) (d : Nat) : s.reached (some d) = decide (d ≤ s.now) := rfl

theorem State.reached_iff (s : State) (due : Option Nat) : s.reached due = true ↔ ∃ d, due = some d ∧ d ≤ s.now := by
  cases due <;> simp

/-- The expiry of a deadline whose tick is reached. -/
theorem State.expire_of_reached {s : State} {d : Nat} (h : d ≤ s.now) (f : State → State) :
    s.expire (some d) f = f s := by simp [State.expire, h]

/-- A deadline that does not run, or runs to a later tick, does not expire. -/
theorem State.expire_of_early {s : State} {due : Option Nat} (h : ∀ d, due = some d → s.now < d) (f : State → State) :
    s.expire due f = s := by
  cases due with
  | none => rfl
  | some d => simp [State.expire, h d rfl]

/-- What holds of a state and of what an expiry makes of it, holds after the expiry, come or not. -/
theorem State.expire_induct {P : State → Prop} {s : State} {due : Option Nat} {f : State → State} (h : P s)
    (hf : ∀ d, due = some d → d ≤ s.now → P (f s)) : P (s.expire due f) := by
  cases due with
  | none => exact h
  | some d =>
    by_cases hd : d ≤ s.now
    · rw [State.expire_of_reached hd]; exact hf d rfl hd
    · simpa [State.expire, hd] using h

/-! ### The fields after each update -/

/-- The fields after `modSlot`. -/
@[simp] theorem State.modSlot_fields (s : State) (h : SlotIx) (f : Slot → Slot) :
    s.SameQueue (s.modSlot h f) ∧ s.SameConsole (s.modSlot h f) ∧ s.SameInsertion (s.modSlot h f) ∧
    s.SameOutput (s.modSlot h f) ∧ (s.modSlot h f).cars = s.cars ∧ (s.modSlot h f).sessions = s.sessions ∧
    (s.modSlot h f).ports = s.ports ∧ (s.modSlot h f).zones = s.zones ∧ s.SameSettings (s.modSlot h f) ∧
    s.SameRun (s.modSlot h f) ∧ s.SameManagement (s.modSlot h f) ∧ s.SameNotices (s.modSlot h f) ∧
    (s.modSlot h f).slots = s.slots.set h (f s.slots[h.val]) :=
  ⟨⟨rfl, rfl, rfl⟩, ⟨rfl, rfl⟩, ⟨rfl, rfl⟩, ⟨rfl, rfl, rfl, rfl⟩, rfl, rfl, rfl, rfl, ⟨rfl, rfl, rfl, rfl,
   rfl, rfl⟩, ⟨rfl, rfl, rfl, rfl, rfl, rfl, rfl, rfl, rfl⟩, ⟨rfl, rfl, rfl, rfl, rfl⟩, ⟨rfl, rfl, rfl⟩, rfl⟩

/-- The fields after `modCar`. -/
@[simp] theorem State.modCar_fields (s : State) (a : CarIx) (f : Car → Car) :
    s.SameQueue (s.modCar a f) ∧ s.SameConsole (s.modCar a f) ∧ s.SameInsertion (s.modCar a f) ∧
    s.SameOutput (s.modCar a f) ∧ (s.modCar a f).slots = s.slots ∧ (s.modCar a f).sessions = s.sessions ∧
    (s.modCar a f).ports = s.ports ∧ (s.modCar a f).zones = s.zones ∧ s.SameSettings (s.modCar a f) ∧
    s.SameRun (s.modCar a f) ∧ s.SameManagement (s.modCar a f) ∧ s.SameNotices (s.modCar a f) ∧
    (s.modCar a f).cars = s.cars.set a (f s.cars[a.val]) :=
  ⟨⟨rfl, rfl, rfl⟩, ⟨rfl, rfl⟩, ⟨rfl, rfl⟩, ⟨rfl, rfl, rfl, rfl⟩, rfl, rfl, rfl, rfl, ⟨rfl, rfl, rfl, rfl,
   rfl, rfl⟩, ⟨rfl, rfl, rfl, rfl, rfl, rfl, rfl, rfl, rfl⟩, ⟨rfl, rfl, rfl, rfl, rfl⟩, ⟨rfl, rfl, rfl⟩, rfl⟩

/-- The fields after `mapCars`. -/
@[simp] theorem State.mapCars_fields (s : State) (f : CarIx → Car → Car) :
    s.SameQueue (s.mapCars f) ∧ s.SameConsole (s.mapCars f) ∧ s.SameInsertion (s.mapCars f) ∧
    s.SameOutput (s.mapCars f) ∧ (s.mapCars f).slots = s.slots ∧ (s.mapCars f).sessions = s.sessions ∧
    (s.mapCars f).ports = s.ports ∧ (s.mapCars f).zones = s.zones ∧ s.SameSettings (s.mapCars f) ∧
    s.SameRun (s.mapCars f) ∧ s.SameManagement (s.mapCars f) ∧ s.SameNotices (s.mapCars f) :=
  by unfold State.mapCars; exact ⟨⟨rfl, rfl, rfl⟩, ⟨rfl, rfl⟩, ⟨rfl, rfl⟩, ⟨rfl, rfl, rfl, rfl⟩, rfl, rfl,
   rfl, rfl, ⟨rfl, rfl, rfl, rfl, rfl, rfl⟩, ⟨rfl, rfl, rfl, rfl, rfl, rfl, rfl, rfl, rfl⟩, ⟨rfl, rfl, rfl,
   rfl, rfl⟩, ⟨rfl, rfl, rfl⟩⟩

/-- The fields after `modPort`. -/
@[simp] theorem State.modPort_fields (s : State) (p : PortIx) (f : Port → Port) :
    s.SameQueue (s.modPort p f) ∧ s.SameConsole (s.modPort p f) ∧ s.SameInsertion (s.modPort p f) ∧
    s.SameOutput (s.modPort p f) ∧ (s.modPort p f).slots = s.slots ∧ (s.modPort p f).cars = s.cars ∧
    (s.modPort p f).sessions = s.sessions ∧ (s.modPort p f).zones = s.zones ∧ s.SameSettings (s.modPort p f) ∧
    s.SameRun (s.modPort p f) ∧ s.SameManagement (s.modPort p f) ∧ s.SameNotices (s.modPort p f) ∧
    (s.modPort p f).ports = s.ports.set p (f s.ports[p.val]) :=
  ⟨⟨rfl, rfl, rfl⟩, ⟨rfl, rfl⟩, ⟨rfl, rfl⟩, ⟨rfl, rfl, rfl, rfl⟩, rfl, rfl, rfl, rfl, ⟨rfl, rfl, rfl, rfl,
   rfl, rfl⟩, ⟨rfl, rfl, rfl, rfl, rfl, rfl, rfl, rfl, rfl⟩, ⟨rfl, rfl, rfl, rfl, rfl⟩, ⟨rfl, rfl, rfl⟩, rfl⟩

/-- The fields after `mapPorts`. -/
@[simp] theorem State.mapPorts_fields (s : State) (f : Port → Port) :
    s.SameQueue (s.mapPorts f) ∧ s.SameConsole (s.mapPorts f) ∧ s.SameInsertion (s.mapPorts f) ∧
    s.SameOutput (s.mapPorts f) ∧ (s.mapPorts f).slots = s.slots ∧ (s.mapPorts f).cars = s.cars ∧
    (s.mapPorts f).sessions = s.sessions ∧ (s.mapPorts f).zones = s.zones ∧ s.SameSettings (s.mapPorts f) ∧
    s.SameRun (s.mapPorts f) ∧ s.SameManagement (s.mapPorts f) ∧ s.SameNotices (s.mapPorts f) ∧
    (s.mapPorts f).ports = Vector.ofFn fun p => f s.ports[p.val] := by
  unfold State.mapPorts
  exact ⟨⟨rfl, rfl, rfl⟩, ⟨rfl, rfl⟩, ⟨rfl, rfl⟩, ⟨rfl, rfl, rfl, rfl⟩, rfl, rfl, rfl, rfl, ⟨rfl, rfl, rfl, rfl,
   rfl, rfl⟩, ⟨rfl, rfl, rfl, rfl, rfl, rfl, rfl, rfl, rfl⟩, ⟨rfl, rfl, rfl, rfl, rfl⟩, ⟨rfl, rfl, rfl⟩, rfl⟩

/-- The fields after `modZone`. -/
@[simp] theorem State.modZone_fields (s : State) (z : ZoneIx) (f : Zone → Zone) :
    s.SameQueue (s.modZone z f) ∧ s.SameConsole (s.modZone z f) ∧ s.SameInsertion (s.modZone z f) ∧
    s.SameOutput (s.modZone z f) ∧ (s.modZone z f).slots = s.slots ∧ (s.modZone z f).cars = s.cars ∧
    (s.modZone z f).sessions = s.sessions ∧ (s.modZone z f).ports = s.ports ∧ s.SameSettings (s.modZone z f) ∧
    s.SameRun (s.modZone z f) ∧ s.SameManagement (s.modZone z f) ∧ s.SameNotices (s.modZone z f) ∧
    (s.modZone z f).zones = s.zones.set z (f s.zones[z.val]) :=
  ⟨⟨rfl, rfl, rfl⟩, ⟨rfl, rfl⟩, ⟨rfl, rfl⟩, ⟨rfl, rfl, rfl, rfl⟩, rfl, rfl, rfl, rfl, ⟨rfl, rfl, rfl, rfl,
   rfl, rfl⟩, ⟨rfl, rfl, rfl, rfl, rfl, rfl, rfl, rfl, rfl⟩, ⟨rfl, rfl, rfl, rfl, rfl⟩, ⟨rfl, rfl, rfl⟩, rfl⟩

/-- The fields after `setSession`. -/
@[simp] theorem State.setSession_fields (s : State) (p : PortIx) (x : Option Session) :
    s.SameQueue (s.setSession p x) ∧ s.SameConsole (s.setSession p x) ∧ s.SameInsertion (s.setSession p x) ∧
    s.SameOutput (s.setSession p x) ∧ (s.setSession p x).slots = s.slots ∧ (s.setSession p x).cars = s.cars ∧
    (s.setSession p x).ports = s.ports ∧ (s.setSession p x).zones = s.zones ∧
    s.SameSettings (s.setSession p x) ∧ s.SameRun (s.setSession p x) ∧ s.SameManagement (s.setSession p x) ∧
    s.SameNotices (s.setSession p x) ∧ (s.setSession p x).sessions = s.sessions.set p x :=
  ⟨⟨rfl, rfl, rfl⟩, ⟨rfl, rfl⟩, ⟨rfl, rfl⟩, ⟨rfl, rfl, rfl, rfl⟩, rfl, rfl, rfl, rfl, ⟨rfl, rfl, rfl, rfl,
   rfl, rfl⟩, ⟨rfl, rfl, rfl, rfl, rfl, rfl, rfl, rfl, rfl⟩, ⟨rfl, rfl, rfl, rfl, rfl⟩, ⟨rfl, rfl, rfl⟩, rfl⟩

/-- The fields after `modSession`. -/
@[simp] theorem State.modSession_fields (s : State) (p : PortIx) (f : Session → Session) :
    s.SameQueue (s.modSession p f) ∧ s.SameConsole (s.modSession p f) ∧ s.SameInsertion (s.modSession p f) ∧
    s.SameOutput (s.modSession p f) ∧ (s.modSession p f).slots = s.slots ∧ (s.modSession p f).cars = s.cars ∧
    (s.modSession p f).ports = s.ports ∧ (s.modSession p f).zones = s.zones ∧
    s.SameSettings (s.modSession p f) ∧ s.SameRun (s.modSession p f) ∧ s.SameManagement (s.modSession p f) ∧
    s.SameNotices (s.modSession p f) ∧ (s.modSession p f).sessions = s.sessions.set p (s.sessions[p.val].map f) :=
  ⟨⟨rfl, rfl, rfl⟩, ⟨rfl, rfl⟩, ⟨rfl, rfl⟩, ⟨rfl, rfl, rfl, rfl⟩, rfl, rfl, rfl, rfl, ⟨rfl, rfl, rfl, rfl,
   rfl, rfl⟩, ⟨rfl, rfl, rfl, rfl, rfl, rfl, rfl, rfl, rfl⟩, ⟨rfl, rfl, rfl, rfl, rfl⟩, ⟨rfl, rfl, rfl⟩, rfl⟩

/-- The fields after `notify`. -/
@[simp] theorem State.notify_fields (s : State) (n : Notice) :
    s.SameQueue (s.notify n) ∧ s.SameConsole (s.notify n) ∧ s.SameInsertion (s.notify n) ∧
    s.SameOutput (s.notify n) ∧ (s.notify n).slots = s.slots ∧ (s.notify n).cars = s.cars ∧
    (s.notify n).sessions = s.sessions ∧ (s.notify n).ports = s.ports ∧ (s.notify n).zones = s.zones ∧
    s.SameSettings (s.notify n) ∧ s.SameRun (s.notify n) ∧ s.SameManagement (s.notify n) ∧
    (s.notify n).lastCar = s.lastCar ∧ (s.notify n).lastPort = s.lastPort ∧
    (s.notify n).notices = setFlag s.notices n :=
  ⟨⟨rfl, rfl, rfl⟩, ⟨rfl, rfl⟩, ⟨rfl, rfl⟩, ⟨rfl, rfl, rfl, rfl⟩, rfl, rfl, rfl, rfl, rfl, ⟨rfl, rfl, rfl,
   rfl, rfl, rfl⟩, ⟨rfl, rfl, rfl, rfl, rfl, rfl, rfl, rfl, rfl⟩, ⟨rfl, rfl, rfl, rfl, rfl⟩, rfl, rfl, rfl⟩

/-- The fields after `notifyCar`. -/
@[simp] theorem State.notifyCar_fields (s : State) (n : Notice) (a : CarIx) :
    s.SameQueue (s.notifyCar n a) ∧ s.SameConsole (s.notifyCar n a) ∧ s.SameInsertion (s.notifyCar n a) ∧
    s.SameOutput (s.notifyCar n a) ∧ (s.notifyCar n a).slots = s.slots ∧ (s.notifyCar n a).cars = s.cars ∧
    (s.notifyCar n a).sessions = s.sessions ∧ (s.notifyCar n a).ports = s.ports ∧
    (s.notifyCar n a).zones = s.zones ∧ s.SameSettings (s.notifyCar n a) ∧ s.SameRun (s.notifyCar n a) ∧
    s.SameManagement (s.notifyCar n a) ∧ (s.notifyCar n a).lastPort = s.lastPort ∧
    (s.notifyCar n a).notices = setFlag s.notices n ∧ (s.notifyCar n a).lastCar = some a :=
  ⟨⟨rfl, rfl, rfl⟩, ⟨rfl, rfl⟩, ⟨rfl, rfl⟩, ⟨rfl, rfl, rfl, rfl⟩, rfl, rfl, rfl, rfl, rfl, ⟨rfl, rfl, rfl,
   rfl, rfl, rfl⟩, ⟨rfl, rfl, rfl, rfl, rfl, rfl, rfl, rfl, rfl⟩, ⟨rfl, rfl, rfl, rfl, rfl⟩, rfl, rfl, rfl⟩

/-- The fields after `notifyPort`. -/
@[simp] theorem State.notifyPort_fields (s : State) (n : Notice) (p : PortIx) :
    s.SameQueue (s.notifyPort n p) ∧ s.SameConsole (s.notifyPort n p) ∧ s.SameInsertion (s.notifyPort n p) ∧
    s.SameOutput (s.notifyPort n p) ∧ (s.notifyPort n p).slots = s.slots ∧ (s.notifyPort n p).cars = s.cars ∧
    (s.notifyPort n p).sessions = s.sessions ∧ (s.notifyPort n p).ports = s.ports ∧
    (s.notifyPort n p).zones = s.zones ∧ s.SameSettings (s.notifyPort n p) ∧ s.SameRun (s.notifyPort n p) ∧
    s.SameManagement (s.notifyPort n p) ∧ (s.notifyPort n p).lastCar = s.lastCar ∧
    (s.notifyPort n p).notices = setFlag s.notices n ∧ (s.notifyPort n p).lastPort = some p :=
  ⟨⟨rfl, rfl, rfl⟩, ⟨rfl, rfl⟩, ⟨rfl, rfl⟩, ⟨rfl, rfl, rfl, rfl⟩, rfl, rfl, rfl, rfl, rfl, ⟨rfl, rfl, rfl,
   rfl, rfl, rfl⟩, ⟨rfl, rfl, rfl, rfl, rfl, rfl, rfl, rfl, rfl⟩, ⟨rfl, rfl, rfl, rfl, rfl⟩, rfl, rfl, rfl⟩

/-- The fields after `clearNotices`. -/
@[simp] theorem State.clearNotices_fields (s : State) :
    s.SameQueue (s.clearNotices) ∧ s.SameConsole (s.clearNotices) ∧ s.SameInsertion (s.clearNotices) ∧
    s.SameOutput (s.clearNotices) ∧ (s.clearNotices).slots = s.slots ∧ (s.clearNotices).cars = s.cars ∧
    (s.clearNotices).sessions = s.sessions ∧ (s.clearNotices).ports = s.ports ∧
    (s.clearNotices).zones = s.zones ∧ s.SameSettings (s.clearNotices) ∧ s.SameRun (s.clearNotices) ∧
    s.SameManagement (s.clearNotices) ∧ (s.clearNotices).notices = 0 ∧ (s.clearNotices).lastCar = none ∧
    (s.clearNotices).lastPort = none :=
  ⟨⟨rfl, rfl, rfl⟩, ⟨rfl, rfl⟩, ⟨rfl, rfl⟩, ⟨rfl, rfl, rfl, rfl⟩, rfl, rfl, rfl, rfl, rfl, ⟨rfl, rfl, rfl,
   rfl, rfl, rfl⟩, ⟨rfl, rfl, rfl, rfl, rfl, rfl, rfl, rfl, rfl⟩, ⟨rfl, rfl, rfl, rfl, rfl⟩, rfl, rfl, rfl⟩

/-- The car table after `mapCars`, entry by entry. -/
@[simp] theorem State.mapCars_getElem (s : State) (f : CarIx → Car → Car) (i : Nat) (h : i < 24) :
    (s.mapCars f).cars[i] = f ⟨i, h⟩ s.cars[i] := by
  simp only [State.mapCars, Vector.getElem_ofFn]; rfl

/-! ### One record after an update of one record -/

theorem State.slot_modSlot (s : State) (h g : SlotIx) (f : Slot → Slot) :
    (s.modSlot h f).slot g = if h = g then f (s.slot h) else s.slot g := by
  simp [Vector.getElem_set, Fin.ext_iff]

theorem State.car_modCar (s : State) (a b : CarIx) (f : Car → Car) :
    (s.modCar a f).car b = if a = b then f (s.car a) else s.car b := by
  simp [Vector.getElem_set, Fin.ext_iff]

theorem State.car_mapCars (s : State) (b : CarIx) (f : CarIx → Car → Car) :
    (s.mapCars f).car b = f b (s.car b) := by simp

theorem State.port_modPort (s : State) (p q : PortIx) (f : Port → Port) :
    (s.modPort p f).port q = if p = q then f (s.port p) else s.port q := by
  simp [Vector.getElem_set, Fin.ext_iff]

theorem State.port_mapPorts (s : State) (q : PortIx) (f : Port → Port) :
    (s.mapPorts f).port q = f (s.port q) := by simp

theorem State.zone_modZone (s : State) (z y : ZoneIx) (f : Zone → Zone) :
    (s.modZone z f).zone y = if z = y then f (s.zone z) else s.zone y := by
  simp [Vector.getElem_set, Fin.ext_iff]

theorem State.session_setSession (s : State) (p q : PortIx) (x : Option Session) :
    (s.setSession p x).session q = if p = q then x else s.session q := by
  simp [Vector.getElem_set, Fin.ext_iff]

theorem State.session_modSession (s : State) (p q : PortIx) (f : Session → Session) :
    (s.modSession p f).session q = if p = q then (s.session p).map f else s.session q := by
  simp [Vector.getElem_set, Fin.ext_iff]

end Sys2Proof.Machine
end

