-- ==== Sys2Proof/Laws/SlotMap.lean ====
section
/-! SUPPORT. What each operation of the Slot Map and Car Table leaves as it is. -/

namespace Sys2Proof.Machine

/-- What `disarmMoved` leaves as it is. -/
@[simp] theorem State.disarmMoved_same (before after : State) :
    after.SameQueue (State.disarmMoved before after) ∧ after.SameConsole (State.disarmMoved before after) ∧
    after.SameInsertion (State.disarmMoved before after) ∧ after.SameOutput (State.disarmMoved before after) ∧
    (State.disarmMoved before after).slots = after.slots ∧
    (State.disarmMoved before after).sessions = after.sessions ∧
    (State.disarmMoved before after).ports = after.ports ∧
    (State.disarmMoved before after).zones = after.zones ∧ after.SameSettings (State.disarmMoved before after) ∧
    after.SameRun (State.disarmMoved before after) ∧ after.SameManagement (State.disarmMoved before after) ∧
    after.SameNotices (State.disarmMoved before after) := by
  unfold State.disarmMoved; simp

/-- What `disarm` leaves as it is. -/
@[simp] theorem State.disarm_same (s : State) (a : CarIx) :
    s.SameQueue (s.disarm a) ∧ s.SameConsole (s.disarm a) ∧ s.SameInsertion (s.disarm a) ∧
    s.SameOutput (s.disarm a) ∧ (s.disarm a).slots = s.slots ∧ (s.disarm a).sessions = s.sessions ∧
    (s.disarm a).ports = s.ports ∧ (s.disarm a).zones = s.zones ∧ s.SameSettings (s.disarm a) ∧
    s.SameRun (s.disarm a) ∧ s.SameManagement (s.disarm a) ∧ s.SameNotices (s.disarm a) := by
  generalize e : s.disarm a = t
  simp only [State.disarm] at e
  (repeat' split at e) <;> (subst e; simp)

/-- What `disarmAll` leaves as it is. -/
@[simp] theorem State.disarmAll_same (s : State) :
    s.SameQueue (s.disarmAll) ∧ s.SameConsole (s.disarmAll) ∧ s.SameInsertion (s.disarmAll) ∧
    s.SameOutput (s.disarmAll) ∧ (s.disarmAll).slots = s.slots ∧ (s.disarmAll).sessions = s.sessions ∧
    (s.disarmAll).ports = s.ports ∧ (s.disarmAll).zones = s.zones ∧ s.SameSettings (s.disarmAll) ∧
    s.SameRun (s.disarmAll) ∧ s.SameManagement (s.disarmAll) ∧ s.SameNotices (s.disarmAll) := by
  generalize e : s.disarmAll = t
  simp only [State.disarmAll] at e
  (repeat' split at e) <;> (subst e; simp)

/-- What `laneEdge` leaves as it is. -/
@[simp] theorem State.laneEdge_same (s : State) (h : SlotIx) (x : Option CarIx) (lane : Bool) :
    s.SameQueue (s.laneEdge h x lane) ∧ s.SameConsole (s.laneEdge h x lane) ∧
    s.SameInsertion (s.laneEdge h x lane) ∧ s.SameOutput (s.laneEdge h x lane) ∧
    (s.laneEdge h x lane).slots = s.slots ∧ (s.laneEdge h x lane).sessions = s.sessions ∧
    (s.laneEdge h x lane).ports = s.ports ∧ (s.laneEdge h x lane).zones = s.zones ∧
    s.SameSettings (s.laneEdge h x lane) ∧ s.SameRun (s.laneEdge h x lane) ∧
    s.SameManagement (s.laneEdge h x lane) ∧ s.SameNotices (s.laneEdge h x lane) := by
  generalize e : s.laneEdge h x lane = t
  simp only [State.laneEdge] at e
  (repeat' split at e) <;> (subst e; simp)

/-- What `writeFlags` leaves as it is. -/
@[simp] theorem State.writeFlags_same (s : State) (h : SlotIx) (lane pair : Bool) :
    s.SameQueue (s.writeFlags h lane pair) ∧ s.SameConsole (s.writeFlags h lane pair) ∧
    s.SameInsertion (s.writeFlags h lane pair) ∧ s.SameOutput (s.writeFlags h lane pair) ∧
    (s.writeFlags h lane pair).cars = s.cars ∧ (s.writeFlags h lane pair).sessions = s.sessions ∧
    (s.writeFlags h lane pair).ports = s.ports ∧ (s.writeFlags h lane pair).zones = s.zones ∧
    s.SameSettings (s.writeFlags h lane pair) ∧ s.SameRun (s.writeFlags h lane pair) ∧
    s.SameManagement (s.writeFlags h lane pair) ∧ s.SameNotices (s.writeFlags h lane pair) := by
  generalize e : s.writeFlags h lane pair = t
  simp only [State.writeFlags] at e
  (repeat' split at e) <;> (subst e; simp)

/-- What `dropBinding` leaves as it is. -/
@[simp] theorem State.dropBinding_same (s : State) (h : SlotIx) :
    s.SameQueue (s.dropBinding h) ∧ s.SameConsole (s.dropBinding h) ∧ s.SameInsertion (s.dropBinding h) ∧
    s.SameOutput (s.dropBinding h) ∧ (s.dropBinding h).sessions = s.sessions ∧
    (s.dropBinding h).ports = s.ports ∧ (s.dropBinding h).zones = s.zones ∧ s.SameSettings (s.dropBinding h) ∧
    s.SameRun (s.dropBinding h) ∧ s.SameManagement (s.dropBinding h) ∧ s.SameNotices (s.dropBinding h) := by
  generalize e : s.dropBinding h = t
  simp only [State.dropBinding] at e
  (repeat' split at e) <;> (subst e; simp)

/-- What `dropHolder` leaves as it is. -/
@[simp] theorem State.dropHolder_same (s : State) (a : CarIx) :
    s.SameQueue (s.dropHolder a) ∧ s.SameConsole (s.dropHolder a) ∧ s.SameInsertion (s.dropHolder a) ∧
    s.SameOutput (s.dropHolder a) ∧ (s.dropHolder a).sessions = s.sessions ∧ (s.dropHolder a).ports = s.ports ∧
    (s.dropHolder a).zones = s.zones ∧ s.SameSettings (s.dropHolder a) ∧ s.SameRun (s.dropHolder a) ∧
    s.SameManagement (s.dropHolder a) ∧ s.SameNotices (s.dropHolder a) := by
  generalize e : s.dropHolder a = t
  simp only [State.dropHolder] at e
  (repeat' split at e) <;> (subst e; simp)

/-- What `bindTo` leaves as it is. -/
@[simp] theorem State.bindTo_same (s : State) (h : SlotIx) (a : CarIx) :
    s.SameQueue (s.bindTo h a) ∧ s.SameConsole (s.bindTo h a) ∧ s.SameInsertion (s.bindTo h a) ∧
    s.SameOutput (s.bindTo h a) ∧ (s.bindTo h a).sessions = s.sessions ∧ (s.bindTo h a).ports = s.ports ∧
    (s.bindTo h a).zones = s.zones ∧ s.SameSettings (s.bindTo h a) ∧ s.SameRun (s.bindTo h a) ∧
    s.SameManagement (s.bindTo h a) ∧ s.SameNotices (s.bindTo h a) := by
  generalize e : s.bindTo h a = t
  simp only [State.bindTo] at e
  (repeat' split at e) <;> (subst e; simp)

/-- What `bindCar` leaves as it is. -/
@[simp] theorem State.bindCar_same (s : State) (h : SlotIx) (a : CarIx) :
    s.SameQueue (s.bindCar h a) ∧ s.SameConsole (s.bindCar h a) ∧ s.SameInsertion (s.bindCar h a) ∧
    s.SameOutput (s.bindCar h a) ∧ (s.bindCar h a).sessions = s.sessions ∧ (s.bindCar h a).ports = s.ports ∧
    (s.bindCar h a).zones = s.zones ∧ s.SameSettings (s.bindCar h a) ∧ s.SameRun (s.bindCar h a) ∧
    s.SameManagement (s.bindCar h a) ∧ s.SameNotices (s.bindCar h a) := by
  generalize e : s.bindCar h a = t
  simp only [State.bindCar] at e
  (repeat' split at e) <;> (subst e; simp)

/-- What `unbindSlot` leaves as it is. -/
@[simp] theorem State.unbindSlot_same (s : State) (h : SlotIx) :
    s.SameQueue (s.unbindSlot h) ∧ s.SameConsole (s.unbindSlot h) ∧ s.SameInsertion (s.unbindSlot h) ∧
    s.SameOutput (s.unbindSlot h) ∧ (s.unbindSlot h).sessions = s.sessions ∧ (s.unbindSlot h).ports = s.ports ∧
    (s.unbindSlot h).zones = s.zones ∧ s.SameSettings (s.unbindSlot h) ∧ s.SameRun (s.unbindSlot h) ∧
    s.SameManagement (s.unbindSlot h) ∧ s.SameNotices (s.unbindSlot h) := by
  generalize e : s.unbindSlot h = t
  simp only [State.unbindSlot] at e
  (repeat' split at e) <;> (subst e; simp)

/-- What `forgetCar` leaves as it is. -/
@[simp] theorem State.forgetCar_same (s : State) (a : CarIx) :
    s.SameQueue (s.forgetCar a) ∧ s.SameConsole (s.forgetCar a) ∧ s.SameInsertion (s.forgetCar a) ∧
    s.SameOutput (s.forgetCar a) ∧ (s.forgetCar a).sessions = s.sessions ∧ (s.forgetCar a).ports = s.ports ∧
    (s.forgetCar a).zones = s.zones ∧ s.SameSettings (s.forgetCar a) ∧ s.SameRun (s.forgetCar a) ∧
    s.SameManagement (s.forgetCar a) ∧ s.SameNotices (s.forgetCar a) := by
  generalize e : s.forgetCar a = t
  simp only [State.forgetCar] at e
  (repeat' split at e) <;> (subst e; simp)

/-- What `reserve` leaves as it is. -/
@[simp] theorem State.reserve_same (s : State) (a : CarIx) (p : PortIx) :
    s.SameQueue (s.reserve a p) ∧ s.SameConsole (s.reserve a p) ∧ s.SameInsertion (s.reserve a p) ∧
    s.SameOutput (s.reserve a p) ∧ (s.reserve a p).slots = s.slots ∧ (s.reserve a p).sessions = s.sessions ∧
    (s.reserve a p).ports = s.ports ∧ (s.reserve a p).zones = s.zones ∧ s.SameSettings (s.reserve a p) ∧
    s.SameRun (s.reserve a p) ∧ s.SameManagement (s.reserve a p) ∧ s.SameNotices (s.reserve a p) := by
  generalize e : s.reserve a p = t
  simp only [State.reserve] at e
  (repeat' split at e) <;> (subst e; simp)

/-- What `release` leaves as it is. -/
@[simp] theorem State.release_same (s : State) (a : CarIx) :
    s.SameQueue (s.release a) ∧ s.SameConsole (s.release a) ∧ s.SameInsertion (s.release a) ∧
    s.SameOutput (s.release a) ∧ (s.release a).slots = s.slots ∧ (s.release a).sessions = s.sessions ∧
    (s.release a).ports = s.ports ∧ (s.release a).zones = s.zones ∧ s.SameSettings (s.release a) ∧
    s.SameRun (s.release a) ∧ s.SameManagement (s.release a) ∧ s.SameNotices (s.release a) := by
  generalize e : s.release a = t
  simp only [State.release] at e
  (repeat' split at e) <;> (subst e; simp)

/-- What `clearIdentity` leaves as it is. -/
@[simp] theorem State.clearIdentity_same (s : State) (a : CarIx) (id : Identity) :
    s.SameQueue (s.clearIdentity a id) ∧ s.SameConsole (s.clearIdentity a id) ∧
    s.SameInsertion (s.clearIdentity a id) ∧ s.SameOutput (s.clearIdentity a id) ∧
    (s.clearIdentity a id).slots = s.slots ∧ (s.clearIdentity a id).sessions = s.sessions ∧
    (s.clearIdentity a id).ports = s.ports ∧ (s.clearIdentity a id).zones = s.zones ∧
    s.SameSettings (s.clearIdentity a id) ∧ s.SameRun (s.clearIdentity a id) ∧
    s.SameManagement (s.clearIdentity a id) ∧ s.SameNotices (s.clearIdentity a id) := by
  generalize e : s.clearIdentity a id = t
  simp only [State.clearIdentity] at e
  (repeat' split at e) <;> (subst e; simp)

/-- What `commit` leaves as it is. -/
@[simp] theorem State.commit_same (s : State) (h : SlotIx) (a : CarIx) (id : Identity) :
    s.SameQueue (s.commit h a id) ∧ s.SameConsole (s.commit h a id) ∧ s.SameInsertion (s.commit h a id) ∧
    s.SameOutput (s.commit h a id) ∧ (s.commit h a id).sessions = s.sessions ∧
    (s.commit h a id).ports = s.ports ∧ (s.commit h a id).zones = s.zones ∧ s.SameSettings (s.commit h a id) ∧
    s.SameRun (s.commit h a id) ∧ s.SameManagement (s.commit h a id) ∧ s.SameNotices (s.commit h a id) := by
  generalize e : s.commit h a id = t
  simp only [State.commit] at e
  (repeat' split at e) <;> (subst e; simp)

/-- What `setFallback` leaves as it is. -/
@[simp] theorem State.setFallback_same (s : State) (on : Bool) :
    s.SameQueue (s.setFallback on) ∧ s.SameConsole (s.setFallback on) ∧ s.SameInsertion (s.setFallback on) ∧
    s.SameOutput (s.setFallback on) ∧ (s.setFallback on).slots = s.slots ∧
    (s.setFallback on).sessions = s.sessions ∧ (s.setFallback on).ports = s.ports ∧
    (s.setFallback on).zones = s.zones ∧ (s.setFallback on).strap = s.strap ∧
    (s.setFallback on).curves = s.curves ∧ (s.setFallback on).cautionCap = s.cautionCap ∧
    (s.setFallback on).defaultBay = s.defaultBay ∧ (s.setFallback on).silenceTimeout = s.silenceTimeout ∧
    s.SameRun (s.setFallback on) ∧ s.SameManagement (s.setFallback on) ∧ s.SameNotices (s.setFallback on) := by
  generalize e : s.setFallback on = t
  simp only [State.setFallback] at e
  (repeat' split at e) <;> (subst e; simp)

end Sys2Proof.Machine
end

