-- ==== Sys2Proof/Laws/Bindings.lean ====
section
/-! SUPPORT. What the operations on bindings do to each slot and each car, while holder and binding are mirror images (R24). -/

namespace Sys2Proof.Machine

theorem State.slot_modCar (s : State) (a : CarIx) (f : Car → Car) (g : SlotIx) : (s.modCar a f).slot g = s.slot g := rfl

theorem State.car_modSlot (s : State) (h : SlotIx) (f : Slot → Slot) (a : CarIx) : (s.modSlot h f).car a = s.car a := rfl

/-- A car with no holder is bound to no slot. -/
theorem State.mirrored_none {s : State} (hm : s.Mirrored) {a : CarIx} (h : (s.car a).holder = none) (g : SlotIx) : (s.slot g).binding ≠ some a := by
  intro hb; rw [← hm a g, h] at hb; cases hb

/-- The slots after the binding of one slot is removed. -/
theorem State.dropBinding_slot (s : State) (h g : SlotIx) :
    (s.dropBinding h).slot g = { s.slot g with binding := if g = h then none else (s.slot g).binding } := by
  unfold State.dropBinding
  split
  · rename_i hb; by_cases hg : g = h
    · subst hg; simp [-State.slot_eq, hb]; rw [← hb]
    · simp [hg]
  · simp only [State.modCar, State.slot]
    by_cases hg : g = h
    · subst hg; simp [State.modSlot]
    · have : ¬ h = g := fun e => hg e.symm
      have := State.slot_modSlot s h g (fun x => { x with binding := none })
      simp_all [Fin.ext_iff, Vector.getElem_set]

/-- The cars after the binding of one slot is removed (R24). -/
theorem State.dropBinding_car {s : State} (hm : s.Mirrored) (h : SlotIx) (b : CarIx) :
    (s.dropBinding h).car b = { s.car b with holder := if (s.car b).holder = some h then none else (s.car b).holder } := by
  unfold State.dropBinding
  split
  · rename_i hb
    have : (s.car b).holder ≠ some h := by rw [Ne, hm b h, hb]; simp
    rw [if_neg this]
  · rename_i c hb
    rw [State.car_modCar]
    have hc := (hm c h).2 hb
    by_cases e : c = b
    · subst e; simp only [hc, if_true]; simp
    · have : (s.car b).holder ≠ some h := by
        rw [Ne, hm b h, hb]; simpa using e
      rw [if_neg e, if_neg this]; simp

/-- The slots after the holder of one car is removed (R24). -/
theorem State.dropHolder_slot {s : State} (hm : s.Mirrored) (a : CarIx) (g : SlotIx) :
    (s.dropHolder a).slot g = { s.slot g with binding := if (s.slot g).binding = some a then none else (s.slot g).binding } := by
  unfold State.dropHolder
  split
  · rename_i hb
    rw [if_neg (State.mirrored_none hm hb g)]
  · rename_i k hb
    rw [State.slot_modCar, State.slot_modSlot]
    have hc := (hm a k).1 hb
    by_cases e : k = g
    · subst e; rw [if_pos rfl, if_pos hc]
    · have : (s.slot g).binding ≠ some a := by
        rw [Ne, ← hm a g, hb]; simpa using e
      rw [if_neg e, if_neg this]

/-- The cars after the holder of one car is removed. -/
theorem State.dropHolder_car (s : State) (a b : CarIx) :
    (s.dropHolder a).car b = { s.car b with holder := if b = a then none else (s.car b).holder } := by
  unfold State.dropHolder
  split
  · rename_i hb; by_cases hg : b = a
    · subst hg; rw [if_pos rfl, ← hb]
    · rw [if_neg hg]
  · rw [State.car_modCar]
    by_cases e : a = b
    · subst e; simp
    · rw [if_neg e, if_neg (fun h => e h.symm)]; simp

/-- Removing a binding keeps the mirror of R24. -/
theorem State.dropBinding_mirrored {s : State} (hm : s.Mirrored) (h : SlotIx) : (s.dropBinding h).Mirrored := by
  intro a g
  rw [State.dropBinding_slot, State.dropBinding_car hm]
  have := hm a g
  have := hm a h
  by_cases e : g = h
  · subst e; rw [if_pos rfl]; simp only [reduceCtorEq, iff_false]; split <;> simp_all
  · simp only [e, if_false]
    split <;> rename_i h1
    · have h2 := (hm a h).1 h1
      simp only [reduceCtorEq, false_iff]
      intro h3; rw [← hm a g, h1] at h3; simp at h3; exact e h3.symm
    · exact hm a g

/-- The two states that BIND passes through (R37 steps 1 and 2). -/
theorem State.bind_steps (s : State) (h : SlotIx) (a : CarIx) : ∃ s1 s2, s1 = (if (s.slot h).binding = some a then s else s.dropBinding h) ∧ s2 = (if (s1.car a).holder = some h then s1 else s1.dropHolder a) ∧ s.bindTo h a = (s2.modSlot h fun x => { x with binding := some a }).modCar a fun c => { c with holder := some h } := ⟨_, _, rfl, rfl, rfl⟩

/-- The state after step 1 of R37. -/
theorem State.bind_s1 {s : State} (hm : s.Mirrored) (h : SlotIx) (a : CarIx) {s1 : State} (e : s1 = (if (s.slot h).binding = some a then s else s.dropBinding h)) : s1.Mirrored ∧ (∀ g, s1.slot g = { s.slot g with binding := if g = h then (s1.slot h).binding else (s.slot g).binding }) ∧ ∀ b, b ≠ a → s1.car b = { s.car b with holder := if (s.car b).holder = some h then none else (s.car b).holder } := by
  split at e <;> rename_i hb <;> subst e
  · refine ⟨hm, fun g => ?_, fun b hba => ?_⟩
    · by_cases e : g = h
      · subst e; simp
      · rw [if_neg e]
    · have : (s1.car b).holder ≠ some h := by rw [Ne, hm b h, hb]; simpa using fun e => hba e.symm
      rw [if_neg this]
  · refine ⟨State.dropBinding_mirrored hm h, fun g => ?_, fun b hba => State.dropBinding_car hm h b⟩
    rw [State.dropBinding_slot, State.dropBinding_slot]; simp

/-- The state after step 2 of R37. -/
theorem State.bind_s2 {s : State} (hm : s.Mirrored) (h : SlotIx) (a : CarIx) {s1 : State} (e : s1 = (if (s.car a).holder = some h then s else s.dropHolder a)) : (∀ g, g ≠ h → s1.slot g = { s.slot g with binding := if (s.slot g).binding = some a then none else (s.slot g).binding }) ∧ (s1.slot h = { s.slot h with binding := (s1.slot h).binding }) ∧ (∀ b, b ≠ a → s1.car b = s.car b) ∧ s1.car a = { s.car a with holder := (s1.car a).holder } := by
  split at e <;> rename_i hb <;> subst e
  · refine ⟨fun g hg => ?_, rfl, fun b hba => rfl, rfl⟩
    have : (s1.slot g).binding ≠ some a := by rw [Ne, ← hm a g, hb]; simpa using fun e => hg e.symm
    rw [if_neg this]
  · refine ⟨fun g hg => State.dropHolder_slot hm a g, ?_, fun b hba => ?_, ?_⟩
    · rw [State.dropHolder_slot hm]
    · rw [State.dropHolder_car, if_neg hba]
    · rw [State.dropHolder_car]

/-- The slots after steps 1 to 3 of R37. -/
theorem State.bindTo_slot {s : State} (hm : s.Mirrored) (h g : SlotIx) (a : CarIx) :
   (s.bindTo h a).slot g = { s.slot g with binding := if g = h then some a else if (s.slot g).binding = some a then none else (s.slot g).binding } := by
  obtain ⟨s1, s2, e1, e2, e3⟩ := State.bind_steps s h a
  obtain ⟨m1, k1, -⟩ := State.bind_s1 hm h a e1
  obtain ⟨k2, k3, -⟩ := State.bind_s2 m1 h a e2
  rw [e3, State.slot_modCar, State.slot_modSlot]
  by_cases e : h = g
  · subst e; rw [if_pos rfl, if_pos rfl, k3, k1]
  · have e' : ¬ g = h := fun x => e x.symm
    rw [if_neg e, if_neg e', k2 g e', k1 g, if_neg e']

/-- The cars after steps 1 to 3 of R37. -/
theorem State.bindTo_car {s : State} (hm : s.Mirrored) (h : SlotIx) (a b : CarIx) :
   (s.bindTo h a).car b = { s.car b with holder := if b = a then some h else if (s.car b).holder = some h then none else (s.car b).holder } := by
  obtain ⟨s1, s2, e1, e2, e3⟩ := State.bind_steps s h a
  obtain ⟨m1, -, k1⟩ := State.bind_s1 hm h a e1
  obtain ⟨-, -, k2, k3⟩ := State.bind_s2 m1 h a e2
  rw [e3, State.car_modCar, State.car_modSlot]
  by_cases e : a = b
  · subst e; rw [if_pos rfl, if_pos rfl, k3]
    split at e1 <;> subst e1
    · rfl
    · rw [State.dropBinding_car hm]
  · have e' : ¬ b = a := fun x => e x.symm
    rw [if_neg e, if_neg e', State.car_modSlot, k2 b e', k1 b e']

theorem State.slot_mapCars (s : State) (f : CarIx → Car → Car) (g : SlotIx) : (s.mapCars f).slot g = s.slot g := by simp

theorem State.disarmMoved_slot (s t : State) (g : SlotIx) : (State.disarmMoved s t).slot g = t.slot g := by simp

/-- The cars after R36 has cleared the latches it names. -/
theorem State.disarmMoved_car (s t : State) (b : CarIx) : (State.disarmMoved s t).car b = { t.car b with
    armed := decide ((t.car b).holder = (s.car b).holder) && decide (t.drivingSlot b = s.drivingSlot b) && (t.car b).armed } := by
  unfold State.disarmMoved
  rw [State.car_mapCars]
  by_cases h1 : (t.car b).holder = (s.car b).holder <;> by_cases h2 : t.drivingSlot b = s.drivingSlot b <;> simp only [h1, h2, decide_true, decide_false, Bool.true_and, Bool.false_and, and_true, and_false, true_and, false_and, if_true, if_false]
  rw [← h1]

/-- What the driving slot of a car depends on (R27). -/
theorem State.drivingSlot_congr {s t : State} (a : CarIx) (h1 : (t.car a).holder = (s.car a).holder) (h2 : (t.car a).reservation = (s.car a).reservation) (h3 : (t.slot a).binding = (s.slot a).binding) (h4 : t.directFallback = s.directFallback) : t.drivingSlot a = s.drivingSlot a := by
  unfold State.drivingSlot; rw [h1, h2, h3, h4]

/-- R36 moves no driving slot. -/
theorem State.disarmMoved_drivingSlot (s t : State) (b : CarIx) : (State.disarmMoved s t).drivingSlot b = t.drivingSlot b := by
  apply State.drivingSlot_congr <;> simp only [State.disarmMoved_car, State.disarmMoved_slot, State.disarmMoved_same]

/-- The slots after a pairing commit (R42). -/
theorem State.commit_slot {s : State} (hm : s.Mirrored) (h g : SlotIx) (a : CarIx) (id : Identity) : (s.commit h a id).slot g =
   { s.slot g with binding := if g = h then some a else if (s.slot g).binding = some a then none else (s.slot g).binding } := by
  unfold State.commit
  rw [State.disarmMoved_slot, State.slot_modCar]; unfold State.clearIdentity; rw [State.slot_mapCars, State.bindTo_slot hm]

/-- The committed car (R42). -/
theorem State.commit_car {s : State} (hm : s.Mirrored) (h : SlotIx) (a : CarIx) (id : Identity) : (s.commit h a id).car a = { s.car a with
        identity := some id, holder := some h, reservation := none, fine := 0, armed := false, link := .active
        faults := 0, streak := 0 } := by
  unfold State.commit
  rw [State.disarmMoved_car]
  simp only [State.car_modCar, if_true, Bool.and_false]
  unfold State.clearIdentity; rw [State.car_mapCars]
  simp only [ne_eq, not_true_eq_false, false_and, if_false]
  rw [State.bindTo_car hm]; simp only [if_true]

/-- The other cars after a pairing commit (R42, R36). -/
theorem State.commit_other {s : State} (hm : s.Mirrored) (h : SlotIx) (a b : CarIx) (id : Identity) (hb : b ≠ a) : s.LatchFollows (s.commit h a id) b ∧ (s.commit h a id).car b = { s.car b with
        armed := ((s.commit h a id).car b).armed
        holder := if (s.car b).holder = some h then none else (s.car b).holder
        identity := if (s.car b).identity = some id then none else (s.car b).identity } := by
  have hb' : ¬ a = b := fun e => hb e.symm
  have key : (s.commit h a id).car b = { s.car b with
        armed := decide (((s.commit h a id).car b).holder = (s.car b).holder) && decide ((s.commit h a id).drivingSlot b = s.drivingSlot b) && (s.car b).armed
        holder := if (s.car b).holder = some h then none else (s.car b).holder
        identity := if (s.car b).identity = some id then none else (s.car b).identity } := by
    unfold State.commit
    rw [State.disarmMoved_drivingSlot, State.disarmMoved_car]
    simp only [State.car_modCar, if_neg hb']
    unfold State.clearIdentity
    simp only [State.car_mapCars]
    by_cases h1 : (s.car b).identity = some id <;>
    simp only [ne_eq, hb, not_false_eq_true, true_and, State.bindTo_car hm, if_false, h1, if_true]
  constructor
  · unfold State.LatchFollows; 
    conv_lhs => rw [key]
  · conv_lhs => rw [key]
    have : ((s.commit h a id).car b).armed = (decide (((s.commit h a id).car b).holder = (s.car b).holder) && decide ((s.commit h a id).drivingSlot b = s.drivingSlot b) && (s.car b).armed) := by
      conv_lhs => rw [key]
    rw [this]

end Sys2Proof.Machine
end

