-- ==== Sys2Proof/Laws/Ports.lean ====
section
/-! SUPPORT. What each operation of the Port Controller leaves as it is. -/

namespace Sys2Proof.Machine

/-- What `portError` leaves as it is. -/
@[simp] theorem State.portError_same (s : State) (p : PortIx) :
    s.SameQueue (s.portError p) ∧ s.SameConsole (s.portError p) ∧ s.SameInsertion (s.portError p) ∧
    s.SameOutput (s.portError p) ∧ (s.portError p).slots = s.slots ∧ (s.portError p).cars = s.cars ∧
    (s.portError p).sessions = s.sessions ∧ (s.portError p).zones = s.zones ∧ s.SameSettings (s.portError p) ∧
    s.SameRun (s.portError p) ∧ s.SameManagement (s.portError p) ∧ (s.portError p).lastCar = s.lastCar := by
  generalize e : s.portError p = t
  simp only [State.portError] at e
  (repeat' split at e) <;> (subst e; simp)

/-- What `countThrow` leaves as it is. -/
@[simp] theorem State.countThrow_same (s : State) (p : PortIx) :
    s.SameQueue (s.countThrow p) ∧ s.SameConsole (s.countThrow p) ∧ s.SameInsertion (s.countThrow p) ∧
    s.SameOutput (s.countThrow p) ∧ (s.countThrow p).slots = s.slots ∧ (s.countThrow p).cars = s.cars ∧
    (s.countThrow p).sessions = s.sessions ∧ (s.countThrow p).zones = s.zones ∧
    s.SameSettings (s.countThrow p) ∧ s.SameRun (s.countThrow p) ∧ s.SameManagement (s.countThrow p) ∧
    (s.countThrow p).lastCar = s.lastCar := by
  generalize e : s.countThrow p = t
  simp only [State.countThrow] at e
  (repeat' split at e) <;> (subst e; simp)

/-- What `requestThrow` leaves as it is. -/
@[simp] theorem State.requestThrow_same (s : State) (p : PortIx) :
    s.SameQueue (s.requestThrow p) ∧ s.SameConsole (s.requestThrow p) ∧ s.SameInsertion (s.requestThrow p) ∧
    s.SameOutput (s.requestThrow p) ∧ (s.requestThrow p).slots = s.slots ∧ (s.requestThrow p).cars = s.cars ∧
    (s.requestThrow p).sessions = s.sessions ∧ (s.requestThrow p).zones = s.zones ∧
    s.SameSettings (s.requestThrow p) ∧ s.SameRun (s.requestThrow p) ∧ s.SameManagement (s.requestThrow p) ∧
    (s.requestThrow p).lastCar = s.lastCar := by
  generalize e : s.requestThrow p = t
  simp only [State.requestThrow] at e
  (repeat' split at e) <;> (subst e; simp)

/-- What `requestReturn` leaves as it is. -/
@[simp] theorem State.requestReturn_same (s : State) (p : PortIx) :
    s.SameQueue (s.requestReturn p) ∧ s.SameConsole (s.requestReturn p) ∧ s.SameInsertion (s.requestReturn p) ∧
    s.SameOutput (s.requestReturn p) ∧ (s.requestReturn p).slots = s.slots ∧ (s.requestReturn p).cars = s.cars ∧
    (s.requestReturn p).sessions = s.sessions ∧ (s.requestReturn p).zones = s.zones ∧
    s.SameSettings (s.requestReturn p) ∧ s.SameRun (s.requestReturn p) ∧ s.SameManagement (s.requestReturn p) ∧
    s.SameNotices (s.requestReturn p) := by
  generalize e : s.requestReturn p = t
  simp only [State.requestReturn] at e
  (repeat' split at e) <;> (subst e; simp)

/-- What `flapFails` leaves as it is. -/
@[simp] theorem State.flapFails_same (s : State) (p : PortIx) :
    s.SameQueue (s.flapFails p) ∧ s.SameConsole (s.flapFails p) ∧ s.SameInsertion (s.flapFails p) ∧
    s.SameOutput (s.flapFails p) ∧ (s.flapFails p).slots = s.slots ∧ (s.flapFails p).cars = s.cars ∧
    (s.flapFails p).sessions = s.sessions ∧ (s.flapFails p).zones = s.zones ∧ s.SameSettings (s.flapFails p) ∧
    s.SameRun (s.flapFails p) ∧ s.SameManagement (s.flapFails p) ∧ (s.flapFails p).lastCar = s.lastCar := by
  generalize e : s.flapFails p = t
  simp only [State.flapFails] at e
  (repeat' split at e) <;> (subst e; simp)

/-- What `takeModuleFault` leaves as it is. -/
@[simp] theorem State.takeModuleFault_same (s : State) (p : PortIx) (code : BitVec 8) :
    s.SameQueue (s.takeModuleFault p code) ∧ s.SameConsole (s.takeModuleFault p code) ∧
    s.SameInsertion (s.takeModuleFault p code) ∧ s.SameOutput (s.takeModuleFault p code) ∧
    (s.takeModuleFault p code).slots = s.slots ∧ (s.takeModuleFault p code).cars = s.cars ∧
    (s.takeModuleFault p code).sessions = s.sessions ∧ (s.takeModuleFault p code).zones = s.zones ∧
    s.SameSettings (s.takeModuleFault p code) ∧ s.SameRun (s.takeModuleFault p code) ∧
    s.SameManagement (s.takeModuleFault p code) ∧ (s.takeModuleFault p code).lastCar = s.lastCar := by
  generalize e : s.takeModuleFault p code = t
  simp only [State.takeModuleFault] at e
  (repeat' split at e) <;> (subst e; simp)

/-- What `takeReady` leaves as it is. -/
@[simp] theorem State.takeReady_same (s : State) (p : PortIx) (thrown : Bool) :
    s.SameQueue (s.takeReady p thrown) ∧ s.SameConsole (s.takeReady p thrown) ∧
    s.SameInsertion (s.takeReady p thrown) ∧ s.SameOutput (s.takeReady p thrown) ∧
    (s.takeReady p thrown).slots = s.slots ∧ (s.takeReady p thrown).cars = s.cars ∧
    (s.takeReady p thrown).sessions = s.sessions ∧ (s.takeReady p thrown).zones = s.zones ∧
    s.SameSettings (s.takeReady p thrown) ∧ s.SameRun (s.takeReady p thrown) ∧
    s.SameManagement (s.takeReady p thrown) ∧ (s.takeReady p thrown).lastCar = s.lastCar := by
  generalize e : s.takeReady p thrown = t
  simp only [State.takeReady] at e
  (repeat' split at e) <;> (subst e; simp)

/-- What `takeMoving` leaves as it is. -/
@[simp] theorem State.takeMoving_same (s : State) (p : PortIx) :
    s.SameQueue (s.takeMoving p) ∧ s.SameConsole (s.takeMoving p) ∧ s.SameInsertion (s.takeMoving p) ∧
    s.SameOutput (s.takeMoving p) ∧ (s.takeMoving p).slots = s.slots ∧ (s.takeMoving p).cars = s.cars ∧
    (s.takeMoving p).sessions = s.sessions ∧ (s.takeMoving p).zones = s.zones ∧
    s.SameSettings (s.takeMoving p) ∧ s.SameRun (s.takeMoving p) ∧ s.SameManagement (s.takeMoving p) ∧
    s.SameNotices (s.takeMoving p) := by
  generalize e : s.takeMoving p = t
  simp only [State.takeMoving] at e
  (repeat' split at e) <;> (subst e; simp)

/-- What `sendLamp` leaves as it is. -/
@[simp] theorem State.sendLamp_same (s : State) (p : PortIx) (v : Lamp) :
    s.SameQueue (s.sendLamp p v) ∧ s.SameConsole (s.sendLamp p v) ∧ s.SameInsertion (s.sendLamp p v) ∧
    s.SameOutput (s.sendLamp p v) ∧ (s.sendLamp p v).slots = s.slots ∧ (s.sendLamp p v).cars = s.cars ∧
    (s.sendLamp p v).sessions = s.sessions ∧ (s.sendLamp p v).zones = s.zones ∧
    s.SameSettings (s.sendLamp p v) ∧ s.SameRun (s.sendLamp p v) ∧ s.SameManagement (s.sendLamp p v) ∧
    s.SameNotices (s.sendLamp p v) := by
  generalize e : s.sendLamp p v = t
  simp only [State.sendLamp] at e
  (repeat' split at e) <;> (subst e; simp)

/-- What `sendSessionLamp` leaves as it is. -/
@[simp] theorem State.sendSessionLamp_same (s : State) (p : PortIx) :
    s.SameQueue (s.sendSessionLamp p) ∧ s.SameConsole (s.sendSessionLamp p) ∧
    s.SameInsertion (s.sendSessionLamp p) ∧ s.SameOutput (s.sendSessionLamp p) ∧
    (s.sendSessionLamp p).slots = s.slots ∧ (s.sendSessionLamp p).cars = s.cars ∧
    (s.sendSessionLamp p).sessions = s.sessions ∧ (s.sendSessionLamp p).zones = s.zones ∧
    s.SameSettings (s.sendSessionLamp p) ∧ s.SameRun (s.sendSessionLamp p) ∧
    s.SameManagement (s.sendSessionLamp p) ∧ s.SameNotices (s.sendSessionLamp p) := by
  generalize e : s.sendSessionLamp p = t
  simp only [State.sendSessionLamp] at e
  (repeat' split at e) <;> (subst e; simp)

/-- What `startUp` leaves as it is. -/
@[simp] theorem State.startUp_same (s : State) (p : PortIx) (k : ModuleKind) (thrown : Bool) :
    s.SameQueue (s.startUp p k thrown) ∧ s.SameConsole (s.startUp p k thrown) ∧
    s.SameInsertion (s.startUp p k thrown) ∧ s.SameOutput (s.startUp p k thrown) ∧
    (s.startUp p k thrown).slots = s.slots ∧ (s.startUp p k thrown).cars = s.cars ∧
    (s.startUp p k thrown).sessions = s.sessions ∧ (s.startUp p k thrown).zones = s.zones ∧
    s.SameSettings (s.startUp p k thrown) ∧ s.SameRun (s.startUp p k thrown) ∧
    s.SameManagement (s.startUp p k thrown) ∧ (s.startUp p k thrown).lastCar = s.lastCar := by
  generalize e : s.startUp p k thrown = t
  simp only [State.startUp] at e
  (repeat' split at e) <;> (subst e; simp)

end Sys2Proof.Machine
end

