-- ==== Sys2Proof/Laws/Rail.lean ====
section
/-! SUPPORT. What each operation of the Frame Router leaves as it is. -/

namespace Sys2Proof.Machine

/-- What `send` leaves as it is. -/
@[simp] theorem State.send_same (s : State) (f : RailFrame) (w : Option AnswerWindow) :
    s.SameQueue (s.send f w) ∧ s.SameConsole (s.send f w) ∧ s.SameInsertion (s.send f w) ∧
    (s.send f w).waitingLine = s.waitingLine ∧ (s.send f w).slots = s.slots ∧ (s.send f w).cars = s.cars ∧
    (s.send f w).sessions = s.sessions ∧ (s.send f w).ports = s.ports ∧ (s.send f w).zones = s.zones ∧
    s.SameSettings (s.send f w) ∧ s.SameRun (s.send f w) ∧ s.SameManagement (s.send f w) ∧
    s.SameNotices (s.send f w) := by
  generalize e : s.send f w = t
  simp only [State.send] at e
  (repeat' split at e) <;> (subst e; simp)

/-- What `leave` leaves as it is. -/
@[simp] theorem State.leave_same (s : State) (x : LineItem) :
    s.SameQueue (s.leave x) ∧ s.SameConsole (s.leave x) ∧ s.SameInsertion (s.leave x) ∧
    (s.leave x).waitingLine = s.waitingLine ∧ (s.leave x).slots = s.slots ∧ (s.leave x).cars = s.cars ∧
    (s.leave x).sessions = s.sessions ∧ (s.leave x).ports = s.ports ∧ (s.leave x).zones = s.zones ∧
    s.SameSettings (s.leave x) ∧ s.SameRun (s.leave x) ∧ s.SameManagement (s.leave x) ∧
    s.SameNotices (s.leave x) := by
  generalize e : s.leave x = t
  simp only [State.leave] at e
  (repeat' split at e) <;> (subst e; simp)

/-- What `fallDue` leaves as it is. -/
@[simp] theorem State.fallDue_same (s : State) (x : LineItem) :
    s.SameQueue (s.fallDue x) ∧ s.SameConsole (s.fallDue x) ∧ s.SameInsertion (s.fallDue x) ∧
    (s.fallDue x).slots = s.slots ∧ (s.fallDue x).cars = s.cars ∧ (s.fallDue x).sessions = s.sessions ∧
    (s.fallDue x).ports = s.ports ∧ (s.fallDue x).zones = s.zones ∧ s.SameSettings (s.fallDue x) ∧
    s.SameRun (s.fallDue x) ∧ s.SameManagement (s.fallDue x) ∧ s.SameNotices (s.fallDue x) := by
  generalize e : s.fallDue x = t
  simp only [State.fallDue] at e
  (repeat' split at e) <;> (subst e; simp)

/-- What `position` leaves as it is. -/
@[simp] theorem State.position_same (s : State) (x : LineItem) :
    s.SameQueue (s.position x) ∧ s.SameConsole (s.position x) ∧ s.SameInsertion (s.position x) ∧
    (s.position x).slots = s.slots ∧ (s.position x).cars = s.cars ∧ (s.position x).sessions = s.sessions ∧
    (s.position x).ports = s.ports ∧ (s.position x).zones = s.zones ∧ s.SameSettings (s.position x) ∧
    s.SameRun (s.position x) ∧ s.SameManagement (s.position x) ∧ s.SameNotices (s.position x) := by
  generalize e : s.position x = t
  simp only [State.position] at e
  (repeat' split at e) <;> (subst e; simp)

/-- What `freePosition` leaves as it is. -/
@[simp] theorem State.freePosition_same (s : State) :
    s.SameQueue s.freePosition ∧ s.SameConsole s.freePosition ∧ s.freePosition.queueWaiting = s.queueWaiting ∧
    s.freePosition.slots = s.slots ∧ s.freePosition.cars = s.cars ∧ s.freePosition.sessions = s.sessions ∧
    s.freePosition.ports = s.ports ∧ s.freePosition.zones = s.zones ∧ s.SameSettings s.freePosition ∧
    s.SameRun s.freePosition ∧ s.SameManagement s.freePosition ∧ s.SameNotices s.freePosition := by
  generalize e : s.freePosition = t
  simp only [State.freePosition] at e
  (repeat' split at e) <;> (subst e; simp)

/-- What `railFree` leaves as it is. -/
@[simp] theorem State.railFree_same (s : State) :
    s.SameQueue (s.railFree) ∧ s.SameConsole (s.railFree) ∧ s.SameInsertion (s.railFree) ∧
    (s.railFree).slots = s.slots ∧ (s.railFree).cars = s.cars ∧ (s.railFree).sessions = s.sessions ∧
    (s.railFree).ports = s.ports ∧ (s.railFree).zones = s.zones ∧ s.SameSettings (s.railFree) ∧
    s.SameRun (s.railFree) ∧ s.SameManagement (s.railFree) ∧ s.SameNotices (s.railFree) := by
  generalize e : s.railFree = t
  simp only [State.railFree] at e
  (repeat' split at e) <;> (subst e; simp)

/-- What `abandonWindows` leaves as it is. -/
@[simp] theorem State.abandonWindows_same (s : State) (p : PortIx) :
    s.SameQueue (s.abandonWindows p) ∧ s.SameConsole (s.abandonWindows p) ∧
    s.SameInsertion (s.abandonWindows p) ∧ (s.abandonWindows p).railOut = s.railOut ∧
    (s.abandonWindows p).waitingLine.length = s.waitingLine.length ∧ (s.abandonWindows p).slots = s.slots ∧
    (s.abandonWindows p).cars = s.cars ∧ (s.abandonWindows p).sessions = s.sessions ∧
    (s.abandonWindows p).ports = s.ports ∧ (s.abandonWindows p).zones = s.zones ∧
    s.SameSettings (s.abandonWindows p) ∧ s.SameRun (s.abandonWindows p) ∧
    s.SameManagement (s.abandonWindows p) ∧ s.SameNotices (s.abandonWindows p) := by
  generalize e : s.abandonWindows p = t
  simp only [State.abandonWindows] at e
  (repeat' split at e) <;> (subst e; simp)

/-- What `appendSequence` leaves as it is. -/
@[simp] theorem State.appendSequence_same (s : State) (p : PortIx) :
    s.SameQueue (s.appendSequence p) ∧ s.SameConsole (s.appendSequence p) ∧
    (s.appendSequence p).queueWaiting = s.queueWaiting ∧ s.SameOutput (s.appendSequence p) ∧
    (s.appendSequence p).slots = s.slots ∧ (s.appendSequence p).cars = s.cars ∧
    (s.appendSequence p).ports = s.ports ∧ (s.appendSequence p).zones = s.zones ∧
    s.SameSettings (s.appendSequence p) ∧ s.SameRun (s.appendSequence p) ∧
    s.SameManagement (s.appendSequence p) ∧ s.SameNotices (s.appendSequence p) := by
  generalize e : s.appendSequence p = t
  simp only [State.appendSequence] at e
  (repeat' split at e) <;> (subst e; simp)

/-- What `enqueue` leaves as it is. -/
@[simp] theorem State.enqueue_same (s : State) (p : PortIx) :
    s.SameQueue (s.enqueue p) ∧ s.SameConsole (s.enqueue p) ∧ s.SameOutput (s.enqueue p) ∧
    (s.enqueue p).slots = s.slots ∧ (s.enqueue p).cars = s.cars ∧ (s.enqueue p).ports = s.ports ∧
    (s.enqueue p).zones = s.zones ∧ s.SameSettings (s.enqueue p) ∧ s.SameRun (s.enqueue p) ∧
    s.SameManagement (s.enqueue p) ∧ s.SameNotices (s.enqueue p) := by
  generalize e : s.enqueue p = t
  simp only [State.enqueue] at e
  (repeat' split at e) <;> (subst e; simp)

/-- What `queuePlace` leaves as it is. -/
@[simp] theorem State.queuePlace_same (s : State) :
    s.SameQueue (s.queuePlace) ∧ s.SameConsole (s.queuePlace) ∧ s.SameOutput (s.queuePlace) ∧
    (s.queuePlace).slots = s.slots ∧ (s.queuePlace).cars = s.cars ∧ (s.queuePlace).ports = s.ports ∧
    (s.queuePlace).zones = s.zones ∧ s.SameSettings (s.queuePlace) ∧ s.SameRun (s.queuePlace) ∧
    s.SameManagement (s.queuePlace) ∧ s.SameNotices (s.queuePlace) := by
  generalize e : s.queuePlace = t
  simp only [State.queuePlace] at e
  (repeat' split at e) <;> (subst e; simp)

/-- What `removeSequence` leaves as it is. -/
@[simp] theorem State.removeSequence_same (s : State) (p : PortIx) :
    s.SameQueue (s.removeSequence p) ∧ s.SameConsole (s.removeSequence p) ∧ s.SameOutput (s.removeSequence p) ∧
    (s.removeSequence p).slots = s.slots ∧ (s.removeSequence p).cars = s.cars ∧
    (s.removeSequence p).sessions = s.sessions ∧ (s.removeSequence p).ports = s.ports ∧
    (s.removeSequence p).zones = s.zones ∧ s.SameSettings (s.removeSequence p) ∧
    s.SameRun (s.removeSequence p) ∧ s.SameManagement (s.removeSequence p) ∧ s.SameNotices (s.removeSequence p) := by
  generalize e : s.removeSequence p = t
  simp only [State.removeSequence] at e
  (repeat' split at e) <;> (subst e; simp)

end Sys2Proof.Machine
end

