-- ==== Sys2Proof/Laws/Pairing.lean ====
section
/-! SUPPORT. What each operation of the Pairing Engine leaves as it is. -/

namespace Sys2Proof.Machine

/-- What `showSession` leaves as it is. -/
@[simp] theorem State.showSession_same (s : State) (p : PortIx) (old : SessionState) (x : Session) :
    s.SameQueue (s.showSession p old x) ∧ s.SameConsole (s.showSession p old x) ∧
    s.SameInsertion (s.showSession p old x) ∧ s.SameOutput (s.showSession p old x) ∧
    (s.showSession p old x).slots = s.slots ∧ (s.showSession p old x).cars = s.cars ∧
    (s.showSession p old x).zones = s.zones ∧ s.SameSettings (s.showSession p old x) ∧
    s.SameRun (s.showSession p old x) ∧ s.SameManagement (s.showSession p old x) ∧
    s.SameNotices (s.showSession p old x) := by
  generalize e : s.showSession p old x = t
  simp only [State.showSession] at e
  (repeat' split at e) <;> (subst e; simp)

/-- What `claimSlot` leaves as it is. -/
@[simp] theorem State.claimSlot_same (s : State) (h : Option SlotIx) (c : Option PortIx) :
    s.SameQueue (s.claimSlot h c) ∧ s.SameConsole (s.claimSlot h c) ∧ s.SameInsertion (s.claimSlot h c) ∧
    s.SameOutput (s.claimSlot h c) ∧ (s.claimSlot h c).cars = s.cars ∧ (s.claimSlot h c).sessions = s.sessions ∧
    (s.claimSlot h c).ports = s.ports ∧ (s.claimSlot h c).zones = s.zones ∧ s.SameSettings (s.claimSlot h c) ∧
    s.SameRun (s.claimSlot h c) ∧ s.SameManagement (s.claimSlot h c) ∧ s.SameNotices (s.claimSlot h c) := by
  generalize e : s.claimSlot h c = t
  simp only [State.claimSlot] at e
  (repeat' split at e) <;> (subst e; simp)

/-- What `openSession` leaves as it is. -/
@[simp] theorem State.openSession_same (s : State) (p : PortIx) (old : SessionState) (h : Option SlotIx) (ms : Nat) :
    s.SameQueue (s.openSession p old h ms) ∧ s.SameConsole (s.openSession p old h ms) ∧
    s.SameInsertion (s.openSession p old h ms) ∧ s.SameOutput (s.openSession p old h ms) ∧
    (s.openSession p old h ms).cars = s.cars ∧ (s.openSession p old h ms).zones = s.zones ∧
    s.SameSettings (s.openSession p old h ms) ∧ s.SameRun (s.openSession p old h ms) ∧
    s.SameManagement (s.openSession p old h ms) ∧ s.SameNotices (s.openSession p old h ms) := by
  generalize e : s.openSession p old h ms = t
  simp only [State.openSession] at e
  (repeat' split at e) <;> (subst e; simp)

/-- What `releaseSession` leaves as it is. -/
@[simp] theorem State.releaseSession_same (s : State) (p : PortIx) (x : Session) :
    s.SameQueue (s.releaseSession p x) ∧ s.SameConsole (s.releaseSession p x) ∧
    (s.releaseSession p x).railOut = s.railOut ∧ (s.releaseSession p x).waitingLine.length = s.waitingLine.length ∧
    (s.releaseSession p x).sessions = s.sessions ∧ (s.releaseSession p x).ports = s.ports ∧
    (s.releaseSession p x).zones = s.zones ∧ s.SameSettings (s.releaseSession p x) ∧
    s.SameRun (s.releaseSession p x) ∧ s.SameManagement (s.releaseSession p x) ∧
    s.SameNotices (s.releaseSession p x) := by
  generalize e : s.releaseSession p x = t
  simp only [State.releaseSession] at e
  (repeat' split at e) <;> (subst e; simp)

/-- What `failSession` leaves as it is. -/
@[simp] theorem State.failSession_same (s : State) (p : PortIx) (x : Session) (why : SessionOutcome) :
    s.SameQueue (s.failSession p x why) ∧ s.SameConsole (s.failSession p x why) ∧
    (s.failSession p x why).railOut = s.railOut ∧ (s.failSession p x why).waitingLine.length = s.waitingLine.length ∧
    (s.failSession p x why).zones = s.zones ∧ s.SameSettings (s.failSession p x why) ∧
    s.SameRun (s.failSession p x why) ∧ s.SameManagement (s.failSession p x why) ∧
    (s.failSession p x why).lastCar = s.lastCar := by
  generalize e : s.failSession p x why = t
  simp only [State.failSession] at e
  (repeat' split at e) <;> (subst e; simp)

/-- What `abortSession` leaves as it is. -/
@[simp] theorem State.abortSession_same (s : State) (p : PortIx) :
    s.SameQueue (s.abortSession p) ∧ s.SameConsole (s.abortSession p) ∧ (s.abortSession p).railOut = s.railOut ∧
    (s.abortSession p).waitingLine.length = s.waitingLine.length ∧ (s.abortSession p).ports = s.ports ∧
    (s.abortSession p).zones = s.zones ∧ s.SameSettings (s.abortSession p) ∧ s.SameRun (s.abortSession p) ∧
    s.SameManagement (s.abortSession p) ∧ (s.abortSession p).lastCar = s.lastCar := by
  generalize e : s.abortSession p = t
  simp only [State.abortSession] at e
  (repeat' split at e) <;> (subst e; simp)

/-- What `reserveFor` leaves as it is. -/
@[simp] theorem State.reserveFor_same (s : State) (p : PortIx) (x : Session) (a : CarIx) :
    s.SameQueue (s.reserveFor p x a) ∧ s.SameConsole (s.reserveFor p x a) ∧ s.SameOutput (s.reserveFor p x a) ∧
    (s.reserveFor p x a).slots = s.slots ∧ (s.reserveFor p x a).ports = s.ports ∧
    (s.reserveFor p x a).zones = s.zones ∧ s.SameSettings (s.reserveFor p x a) ∧
    s.SameRun (s.reserveFor p x a) ∧ s.SameManagement (s.reserveFor p x a) ∧ s.SameNotices (s.reserveFor p x a) := by
  generalize e : s.reserveFor p x a = t
  simp only [State.reserveFor] at e
  (repeat' split at e) <;> (subst e; simp)

/-- What `lookup` leaves as it is. -/
@[simp] theorem State.lookup_same (s : State) (p : PortIx) (x : Session) (id : Identity) :
    s.SameQueue (s.lookup p x id) ∧ s.SameConsole (s.lookup p x id) ∧ (s.lookup p x id).railOut = s.railOut ∧
    (s.lookup p x id).waitingLine.length = s.waitingLine.length ∧ (s.lookup p x id).zones = s.zones ∧
    s.SameSettings (s.lookup p x id) ∧ s.SameRun (s.lookup p x id) ∧ s.SameManagement (s.lookup p x id) ∧
    (s.lookup p x id).lastCar = s.lastCar := by
  generalize e : s.lookup p x id = t
  simp only [State.lookup] at e
  (repeat' split at e) <;> (subst e; simp)

/-- What `fillSession` leaves as it is. -/
@[simp] theorem State.fillSession_same (s : State) (p : PortIx) (x : Session) :
    s.SameQueue (s.fillSession p x) ∧ s.SameConsole (s.fillSession p x) ∧
    (s.fillSession p x).railOut = s.railOut ∧ (s.fillSession p x).waitingLine.length = s.waitingLine.length ∧
    (s.fillSession p x).zones = s.zones ∧ s.SameSettings (s.fillSession p x) ∧ s.SameRun (s.fillSession p x) ∧
    s.SameManagement (s.fillSession p x) ∧ (s.fillSession p x).lastCar = s.lastCar := by
  generalize e : s.fillSession p x = t
  simp only [State.fillSession] at e
  (repeat' split at e) <;> (subst e; simp)

/-- What `takeIdentity` leaves as it is. -/
@[simp] theorem State.takeIdentity_same (s : State) (p : PortIx) (id : Identity) :
    s.SameQueue (s.takeIdentity p id) ∧ s.SameConsole (s.takeIdentity p id) ∧
    (s.takeIdentity p id).railOut = s.railOut ∧ (s.takeIdentity p id).waitingLine.length = s.waitingLine.length ∧
    (s.takeIdentity p id).zones = s.zones ∧ s.SameSettings (s.takeIdentity p id) ∧
    s.SameRun (s.takeIdentity p id) ∧ s.SameManagement (s.takeIdentity p id) ∧
    (s.takeIdentity p id).lastCar = s.lastCar := by
  generalize e : s.takeIdentity p id = t
  simp only [State.takeIdentity] at e
  (repeat' split at e) <;> (subst e; simp)

/-- What `joinSession` leaves as it is. -/
@[simp] theorem State.joinSession_same (s : State) (p : PortIx) (h : SlotIx) :
    s.SameQueue (s.joinSession p h) ∧ s.SameConsole (s.joinSession p h) ∧
    (s.joinSession p h).railOut = s.railOut ∧ (s.joinSession p h).waitingLine.length = s.waitingLine.length ∧
    (s.joinSession p h).zones = s.zones ∧ s.SameSettings (s.joinSession p h) ∧ s.SameRun (s.joinSession p h) ∧
    s.SameManagement (s.joinSession p h) ∧ (s.joinSession p h).lastCar = s.lastCar := by
  generalize e : s.joinSession p h = t
  simp only [State.joinSession] at e
  (repeat' split at e) <;> (subst e; simp)

/-- What `openDefault` leaves as it is. -/
@[simp] theorem State.openDefault_same (s : State) (h : SlotIx) :
    s.SameQueue (s.openDefault h) ∧ s.SameConsole (s.openDefault h) ∧ s.SameInsertion (s.openDefault h) ∧
    s.SameOutput (s.openDefault h) ∧ (s.openDefault h).cars = s.cars ∧ (s.openDefault h).zones = s.zones ∧
    s.SameSettings (s.openDefault h) ∧ s.SameRun (s.openDefault h) ∧ s.SameManagement (s.openDefault h) ∧
    s.SameNotices (s.openDefault h) := by
  generalize e : s.openDefault h = t
  simp only [State.openDefault] at e
  (repeat' split at e) <;> (subst e; simp)

/-- What `gesture` leaves as it is. -/
@[simp] theorem State.gesture_same (s : State) (h : SlotIx) :
    s.SameQueue (s.gesture h) ∧ s.SameConsole (s.gesture h) ∧ (s.gesture h).railOut = s.railOut ∧
    (s.gesture h).waitingLine.length = s.waitingLine.length ∧ (s.gesture h).zones = s.zones ∧ s.SameSettings (s.gesture h) ∧
    s.SameRun (s.gesture h) ∧ s.SameManagement (s.gesture h) ∧ (s.gesture h).lastCar = s.lastCar := by
  generalize e : s.gesture h = t
  simp only [State.gesture] at e
  (repeat' split at e) <;> (subst e; simp)

/-- What `pairEdge` leaves as it is. -/
@[simp] theorem State.pairEdge_same (s : State) (h : SlotIx) (pair : Bool) :
    s.SameQueue (s.pairEdge h pair) ∧ s.SameConsole (s.pairEdge h pair) ∧
    (s.pairEdge h pair).railOut = s.railOut ∧ (s.pairEdge h pair).waitingLine.length = s.waitingLine.length ∧
    (s.pairEdge h pair).zones = s.zones ∧ s.SameSettings (s.pairEdge h pair) ∧ s.SameRun (s.pairEdge h pair) ∧
    s.SameManagement (s.pairEdge h pair) ∧ (s.pairEdge h pair).lastCar = s.lastCar := by
  generalize e : s.pairEdge h pair = t
  simp only [State.pairEdge] at e
  (repeat' split at e) <;> (subst e; simp)

/-- What `commitSession` leaves as it is. -/
@[simp] theorem State.commitSession_same (s : State) (p : PortIx) (x : Session) (h : SlotIx) (a : CarIx) (id : Identity) :
    s.SameQueue (s.commitSession p x h a id) ∧ s.SameConsole (s.commitSession p x h a id) ∧
    s.SameInsertion (s.commitSession p x h a id) ∧ s.SameOutput (s.commitSession p x h a id) ∧
    (s.commitSession p x h a id).zones = s.zones ∧ s.SameSettings (s.commitSession p x h a id) ∧
    s.SameRun (s.commitSession p x h a id) ∧ s.SameManagement (s.commitSession p x h a id) ∧
    (s.commitSession p x h a id).lastPort = s.lastPort := by
  generalize e : s.commitSession p x h a id = t
  simp only [State.commitSession] at e
  (repeat' split at e) <;> (subst e; simp)

/-- What `silentAttempt` leaves as it is. -/
@[simp] theorem State.silentAttempt_same (s : State) (p : PortIx) (x : Session) :
    s.SameQueue (s.silentAttempt p x) ∧ s.SameConsole (s.silentAttempt p x) ∧
    (s.silentAttempt p x).railOut = s.railOut ∧ (s.silentAttempt p x).waitingLine.length = s.waitingLine.length ∧
    (s.silentAttempt p x).zones = s.zones ∧ s.SameSettings (s.silentAttempt p x) ∧
    s.SameRun (s.silentAttempt p x) ∧ s.SameManagement (s.silentAttempt p x) ∧
    (s.silentAttempt p x).lastCar = s.lastCar := by
  generalize e : s.silentAttempt p x = t
  simp only [State.silentAttempt] at e
  (repeat' split at e) <;> (subst e; simp)

/-- What `assignResult` leaves as it is. -/
@[simp] theorem State.assignResult_same (s : State) (p : PortIx) (answered : Bool) :
    s.SameQueue (s.assignResult p answered) ∧ s.SameConsole (s.assignResult p answered) ∧
    (s.assignResult p answered).railOut = s.railOut ∧ (s.assignResult p answered).waitingLine.length = s.waitingLine.length ∧
    (s.assignResult p answered).zones = s.zones ∧ s.SameSettings (s.assignResult p answered) ∧
    s.SameRun (s.assignResult p answered) ∧ s.SameManagement (s.assignResult p answered) := by
  generalize e : s.assignResult p answered = t
  simp only [State.assignResult] at e
  (repeat' split at e) <;> (subst e; simp)

end Sys2Proof.Machine
end

