-- ==== Sys2Proof/Laws/Speed.lean ====
section
/-! SUPPORT. What each operation of the Link Monitor and the Throttle Shaper leaves as it is. -/

namespace Sys2Proof.Machine

/-- What `setFaults` leaves as it is. -/
@[simp] theorem State.setFaults_same (s : State) (a : CarIx) (n : Nat) :
    s.SameQueue (s.setFaults a n) ∧ s.SameConsole (s.setFaults a n) ∧ s.SameInsertion (s.setFaults a n) ∧
    s.SameOutput (s.setFaults a n) ∧ (s.setFaults a n).slots = s.slots ∧
    (s.setFaults a n).sessions = s.sessions ∧ (s.setFaults a n).ports = s.ports ∧
    (s.setFaults a n).zones = s.zones ∧ s.SameSettings (s.setFaults a n) ∧ s.SameRun (s.setFaults a n) ∧
    s.SameManagement (s.setFaults a n) ∧ (s.setFaults a n).lastPort = s.lastPort := by
  generalize e : s.setFaults a n = t
  simp only [State.setFaults] at e
  (repeat' split at e) <;> (subst e; simp)

/-- What `loseLink` leaves as it is. -/
@[simp] theorem State.loseLink_same (s : State) (a : CarIx) :
    s.SameQueue (s.loseLink a) ∧ s.SameConsole (s.loseLink a) ∧ s.SameInsertion (s.loseLink a) ∧
    s.SameOutput (s.loseLink a) ∧ (s.loseLink a).slots = s.slots ∧ (s.loseLink a).sessions = s.sessions ∧
    (s.loseLink a).ports = s.ports ∧ (s.loseLink a).zones = s.zones ∧ s.SameSettings (s.loseLink a) ∧
    s.SameRun (s.loseLink a) ∧ s.SameManagement (s.loseLink a) ∧ (s.loseLink a).lastPort = s.lastPort := by
  generalize e : s.loseLink a = t
  simp only [State.loseLink] at e
  (repeat' split at e) <;> (subst e; simp)

/-- What `restoreLink` leaves as it is. -/
@[simp] theorem State.restoreLink_same (s : State) (a : CarIx) :
    s.SameQueue (s.restoreLink a) ∧ s.SameConsole (s.restoreLink a) ∧ s.SameInsertion (s.restoreLink a) ∧
    s.SameOutput (s.restoreLink a) ∧ (s.restoreLink a).slots = s.slots ∧
    (s.restoreLink a).sessions = s.sessions ∧ (s.restoreLink a).ports = s.ports ∧
    (s.restoreLink a).zones = s.zones ∧ s.SameSettings (s.restoreLink a) ∧ s.SameRun (s.restoreLink a) ∧
    s.SameManagement (s.restoreLink a) ∧ (s.restoreLink a).lastPort = s.lastPort := by
  generalize e : s.restoreLink a = t
  simp only [State.restoreLink] at e
  (repeat' split at e) <;> (subst e; simp)

/-- What `lostResult` leaves as it is. -/
@[simp] theorem State.lostResult_same (s : State) (a : CarIx) (answered : Bool) :
    s.SameQueue (s.lostResult a answered) ∧ s.SameConsole (s.lostResult a answered) ∧
    s.SameInsertion (s.lostResult a answered) ∧ s.SameOutput (s.lostResult a answered) ∧
    (s.lostResult a answered).slots = s.slots ∧ (s.lostResult a answered).sessions = s.sessions ∧
    (s.lostResult a answered).ports = s.ports ∧ (s.lostResult a answered).zones = s.zones ∧
    s.SameSettings (s.lostResult a answered) ∧ s.SameRun (s.lostResult a answered) ∧
    s.SameManagement (s.lostResult a answered) ∧ (s.lostResult a answered).lastPort = s.lastPort := by
  generalize e : s.lostResult a answered = t
  simp only [State.lostResult] at e
  (repeat' split at e) <;> (subst e; simp)

/-- What `linkResult` leaves as it is. -/
@[simp] theorem State.linkResult_same (s : State) (a : CarIx) (answered : Bool) :
    s.SameQueue (s.linkResult a answered) ∧ s.SameConsole (s.linkResult a answered) ∧
    s.SameInsertion (s.linkResult a answered) ∧ s.SameOutput (s.linkResult a answered) ∧
    (s.linkResult a answered).slots = s.slots ∧ (s.linkResult a answered).sessions = s.sessions ∧
    (s.linkResult a answered).ports = s.ports ∧ (s.linkResult a answered).zones = s.zones ∧
    s.SameSettings (s.linkResult a answered) ∧ s.SameRun (s.linkResult a answered) ∧
    s.SameManagement (s.linkResult a answered) ∧ (s.linkResult a answered).lastPort = s.lastPort := by
  generalize e : s.linkResult a answered = t
  simp only [State.linkResult] at e
  (repeat' split at e) <;> (subst e; simp)

/-- What `shape` leaves as it is. -/
@[simp] theorem State.shape_same (s : State) (a : CarIx) (t : Nat) (brake : Bool) :
    s.SameQueue (s.shape a t brake) ∧ s.SameConsole (s.shape a t brake) ∧ s.SameInsertion (s.shape a t brake) ∧
    s.SameOutput (s.shape a t brake) ∧ (s.shape a t brake).slots = s.slots ∧
    (s.shape a t brake).sessions = s.sessions ∧ (s.shape a t brake).ports = s.ports ∧
    (s.shape a t brake).zones = s.zones ∧ s.SameSettings (s.shape a t brake) ∧ s.SameRun (s.shape a t brake) ∧
    s.SameManagement (s.shape a t brake) ∧ s.SameNotices (s.shape a t brake) := by
  generalize e : s.shape a t brake = t
  simp only [State.shape] at e
  (repeat' split at e) <;> (subst e; simp)

/-- What `zeroFine` leaves as it is. -/
@[simp] theorem State.zeroFine_same (s : State) :
    s.SameQueue (s.zeroFine) ∧ s.SameConsole (s.zeroFine) ∧ s.SameInsertion (s.zeroFine) ∧
    s.SameOutput (s.zeroFine) ∧ (s.zeroFine).slots = s.slots ∧ (s.zeroFine).sessions = s.sessions ∧
    (s.zeroFine).ports = s.ports ∧ (s.zeroFine).zones = s.zones ∧ s.SameSettings (s.zeroFine) ∧
    s.SameRun (s.zeroFine) ∧ s.SameManagement (s.zeroFine) ∧ s.SameNotices (s.zeroFine) := by
  generalize e : s.zeroFine = t
  simp only [State.zeroFine] at e
  (repeat' split at e) <;> (subst e; simp)

end Sys2Proof.Machine
end

