-- ==== Sys2Proof/Laws/Zones.lean ====
section
/-! SUPPORT. What each operation of the Zone Arbiter leaves as it is. -/

namespace Sys2Proof.Machine

/-- What `returnIfDone` leaves as it is. -/
@[simp] theorem State.returnIfDone_same (s : State) (z : ZoneIx) (p : PortIx) :
    s.SameQueue (s.returnIfDone z p) ∧ s.SameConsole (s.returnIfDone z p) ∧
    s.SameInsertion (s.returnIfDone z p) ∧ s.SameOutput (s.returnIfDone z p) ∧
    (s.returnIfDone z p).slots = s.slots ∧ (s.returnIfDone z p).cars = s.cars ∧
    (s.returnIfDone z p).sessions = s.sessions ∧ (s.returnIfDone z p).zones = s.zones ∧
    s.SameSettings (s.returnIfDone z p) ∧ s.SameRun (s.returnIfDone z p) ∧
    s.SameManagement (s.returnIfDone z p) ∧ s.SameNotices (s.returnIfDone z p) := by
  generalize e : s.returnIfDone z p = t
  simp only [State.returnIfDone] at e
  (repeat' split at e) <;> (subst e; simp)

/-- What `removeEntry` leaves as it is. -/
@[simp] theorem State.removeEntry_same (s : State) (z : ZoneIx) (k : Nat) (f : Counters → Counters) :
    s.SameQueue (s.removeEntry z k f) ∧ s.SameConsole (s.removeEntry z k f) ∧
    s.SameInsertion (s.removeEntry z k f) ∧ s.SameOutput (s.removeEntry z k f) ∧
    (s.removeEntry z k f).slots = s.slots ∧ (s.removeEntry z k f).cars = s.cars ∧
    (s.removeEntry z k f).sessions = s.sessions ∧ s.SameSettings (s.removeEntry z k f) ∧
    s.SameRun (s.removeEntry z k f) ∧ s.SameManagement (s.removeEntry z k f) ∧
    s.SameNotices (s.removeEntry z k f) := by
  generalize e : s.removeEntry z k f = t
  simp only [State.removeEntry] at e
  (repeat' split at e) <;> (subst e; simp)

/-- What `supersede` leaves as it is. -/
@[simp] theorem State.supersede_same (s : State) (a : CarIx) (p : PortIx) :
    s.SameQueue (s.supersede a p) ∧ s.SameConsole (s.supersede a p) ∧ s.SameInsertion (s.supersede a p) ∧
    s.SameOutput (s.supersede a p) ∧ (s.supersede a p).slots = s.slots ∧ (s.supersede a p).cars = s.cars ∧
    (s.supersede a p).sessions = s.sessions ∧ s.SameSettings (s.supersede a p) ∧ s.SameRun (s.supersede a p) ∧
    s.SameManagement (s.supersede a p) ∧ s.SameNotices (s.supersede a p) := by
  generalize e : s.supersede a p = t
  simp only [State.supersede] at e
  (repeat' split at e) <;> (subst e; simp)

/-- What `abandon` leaves as it is. -/
@[simp] theorem State.abandon_same (s : State) (p : PortIx) :
    s.SameQueue (s.abandon p) ∧ s.SameConsole (s.abandon p) ∧ s.SameInsertion (s.abandon p) ∧
    s.SameOutput (s.abandon p) ∧ (s.abandon p).slots = s.slots ∧ (s.abandon p).cars = s.cars ∧
    (s.abandon p).sessions = s.sessions ∧ (s.abandon p).ports = s.ports ∧ s.SameSettings (s.abandon p) ∧
    s.SameRun (s.abandon p) ∧ s.SameManagement (s.abandon p) ∧ s.SameNotices (s.abandon p) := by
  generalize e : s.abandon p = t
  simp only [State.abandon] at e
  (repeat' split at e) <;> (subst e; simp)

/-- What `appendEntry` leaves as it is. -/
@[simp] theorem State.appendEntry_same (s : State) (z : ZoneIx) (car : Option CarIx) (p : PortIx) (r : Option Supersede) :
    s.SameQueue (s.appendEntry z car p r) ∧ s.SameConsole (s.appendEntry z car p r) ∧
    s.SameInsertion (s.appendEntry z car p r) ∧ s.SameOutput (s.appendEntry z car p r) ∧
    (s.appendEntry z car p r).slots = s.slots ∧ (s.appendEntry z car p r).cars = s.cars ∧
    (s.appendEntry z car p r).sessions = s.sessions ∧ (s.appendEntry z car p r).ports = s.ports ∧
    s.SameSettings (s.appendEntry z car p r) ∧ s.SameRun (s.appendEntry z car p r) ∧
    s.SameManagement (s.appendEntry z car p r) ∧ s.SameNotices (s.appendEntry z car p r) := by
  generalize e : s.appendEntry z car p r = t
  simp only [State.appendEntry] at e
  (repeat' split at e) <;> (subst e; simp)

/-- What `recordDecision` leaves as it is. -/
@[simp] theorem State.recordDecision_same (s : State) (p : PortIx) (code : BitVec 5) (v : Verdict) :
    s.SameQueue (s.recordDecision p code v) ∧ s.SameConsole (s.recordDecision p code v) ∧
    s.SameInsertion (s.recordDecision p code v) ∧ s.SameOutput (s.recordDecision p code v) ∧
    (s.recordDecision p code v).slots = s.slots ∧ (s.recordDecision p code v).cars = s.cars ∧
    (s.recordDecision p code v).sessions = s.sessions ∧ (s.recordDecision p code v).zones = s.zones ∧
    s.SameSettings (s.recordDecision p code v) ∧ s.SameRun (s.recordDecision p code v) ∧
    s.SameManagement (s.recordDecision p code v) ∧ s.SameNotices (s.recordDecision p code v) := by
  generalize e : s.recordDecision p code v = t
  simp only [State.recordDecision] at e
  (repeat' split at e) <;> (subst e; simp)

/-- What `grantCar` leaves as it is. -/
@[simp] theorem State.grantCar_same (s : State) (p : PortIx) (code : BitVec 5) (a : CarIx) :
    s.SameQueue (s.grantCar p code a) ∧ s.SameConsole (s.grantCar p code a) ∧
    s.SameInsertion (s.grantCar p code a) ∧ s.SameOutput (s.grantCar p code a) ∧
    (s.grantCar p code a).slots = s.slots ∧ (s.grantCar p code a).sessions = s.sessions ∧
    s.SameSettings (s.grantCar p code a) ∧ s.SameRun (s.grantCar p code a) ∧
    s.SameManagement (s.grantCar p code a) ∧ (s.grantCar p code a).lastCar = s.lastCar := by
  generalize e : s.grantCar p code a = t
  simp only [State.grantCar] at e
  (repeat' split at e) <;> (subst e; simp)

/-- What `refuseCar` leaves as it is. -/
@[simp] theorem State.refuseCar_same (s : State) (p : PortIx) (code : BitVec 5) (v : Verdict) :
    s.SameQueue (s.refuseCar p code v) ∧ s.SameConsole (s.refuseCar p code v) ∧
    s.SameInsertion (s.refuseCar p code v) ∧ s.SameOutput (s.refuseCar p code v) ∧
    (s.refuseCar p code v).slots = s.slots ∧ (s.refuseCar p code v).cars = s.cars ∧
    (s.refuseCar p code v).sessions = s.sessions ∧ (s.refuseCar p code v).zones = s.zones ∧
    s.SameSettings (s.refuseCar p code v) ∧ s.SameRun (s.refuseCar p code v) ∧
    s.SameManagement (s.refuseCar p code v) ∧ s.SameNotices (s.refuseCar p code v) := by
  generalize e : s.refuseCar p code v = t
  simp only [State.refuseCar] at e
  (repeat' split at e) <;> (subst e; simp)

/-- What `approach` leaves as it is. -/
@[simp] theorem State.approach_same (s : State) (p : PortIx) (code : BitVec 5) :
    s.SameQueue (s.approach p code) ∧ s.SameConsole (s.approach p code) ∧ s.SameInsertion (s.approach p code) ∧
    s.SameOutput (s.approach p code) ∧ (s.approach p code).slots = s.slots ∧
    (s.approach p code).sessions = s.sessions ∧ s.SameSettings (s.approach p code) ∧
    s.SameRun (s.approach p code) ∧ s.SameManagement (s.approach p code) ∧
    (s.approach p code).lastCar = s.lastCar := by
  generalize e : s.approach p code = t
  simp only [State.approach] at e
  (repeat' split at e) <;> (subst e; simp)

/-- What `takeGuard` leaves as it is. -/
@[simp] theorem State.takeGuard_same (s : State) (p : PortIx) (code : BitVec 5) :
    s.SameQueue (s.takeGuard p code) ∧ s.SameConsole (s.takeGuard p code) ∧
    s.SameInsertion (s.takeGuard p code) ∧ s.SameOutput (s.takeGuard p code) ∧
    (s.takeGuard p code).slots = s.slots ∧ (s.takeGuard p code).cars = s.cars ∧
    (s.takeGuard p code).sessions = s.sessions ∧ (s.takeGuard p code).ports = s.ports ∧
    s.SameSettings (s.takeGuard p code) ∧ s.SameRun (s.takeGuard p code) ∧
    s.SameManagement (s.takeGuard p code) ∧ s.SameNotices (s.takeGuard p code) := by
  generalize e : s.takeGuard p code = t
  simp only [State.takeGuard] at e
  (repeat' split at e) <;> (subst e; simp)

/-- What `countSwept` leaves as it is. -/
@[simp] theorem State.countSwept_same (s : State) (p : PortIx) :
    s.SameQueue (s.countSwept p) ∧ s.SameConsole (s.countSwept p) ∧ s.SameInsertion (s.countSwept p) ∧
    s.SameOutput (s.countSwept p) ∧ (s.countSwept p).slots = s.slots ∧ (s.countSwept p).cars = s.cars ∧
    (s.countSwept p).sessions = s.sessions ∧ (s.countSwept p).zones = s.zones ∧
    s.SameSettings (s.countSwept p) ∧ s.SameRun (s.countSwept p) ∧ s.SameManagement (s.countSwept p) ∧
    s.SameNotices (s.countSwept p) := by
  generalize e : s.countSwept p = t
  simp only [State.countSwept] at e
  (repeat' split at e) <;> (subst e; simp)

/-- Which entries an exit that names a car finds. -/
@[simp] theorem Entry.foundByName_iff (now : Nat) (a : CarIx) (e : Entry) :
    Entry.foundByName now a e = true ↔ e.car = some a ∧ ∀ r, e.replaced = some r → r.tick ≠ now := by
  simp [Entry.foundByName]

/-- Which entries a presumed exit finds. -/
@[simp] theorem Entry.foundByPort_iff (now : Nat) (p : PortIx) (e : Entry) :
    Entry.foundByPort now p e = true ↔ e.port = p ∧ e.replaced ≠ some ⟨now, p⟩ := by
  simp [Entry.foundByPort]

/-- The entry that an exit finds is the oldest of those it may find. -/
theorem State.exitPlace_eq_some_iff (s : State) (z : ZoneIx) (f : Nat → Entry → Bool) (k : Nat) :
    s.exitPlace z f = some k ↔ ∃ h : k < (s.zone z).entries.length,
      f s.now (s.zone z).entries[k] = true ∧ ∀ j (hj : j < k), f s.now (s.zone z).entries[j] = false := by
  simp [State.exitPlace, List.findIdx?_eq_some_iff_getElem]

/-- An exit finds no entry where the list has none that it may find. -/
theorem State.exitPlace_eq_none_iff (s : State) (z : ZoneIx) (f : Nat → Entry → Bool) :
    s.exitPlace z f = none ↔ ∀ e ∈ (s.zone z).entries, f s.now e = false := by
  simp [State.exitPlace, List.findIdx?_eq_none_iff]

/-- The mark is the present tick and the earlier entry's port, for a car that stands in the list already. -/
theorem State.replacing_eq_some (s : State) (z : ZoneIx) (a : CarIx) (h : ∃ e ∈ (s.zone z).entries, e.car = some a) :
    ∃ e ∈ (s.zone z).entries, e.car = some a ∧ s.replacing z (some a) = some ⟨s.now, e.port⟩ := by
  obtain ⟨e, he⟩ : ∃ e, (s.zone z).entries.find? (fun e => decide (e.car = some a)) = some e := by
    rw [← Option.isSome_iff_exists]; simpa using h
  exact ⟨e, List.mem_of_find?_eq_some he, by simpa using List.find?_some he, by
    unfold State.replacing; rw [Option.bind_some, he]; rfl⟩

/-- There is no mark for a car that does not stand in the list, and none without a car. -/
theorem State.replacing_eq_none (s : State) (z : ZoneIx) (car : Option CarIx)
    (h : ∀ a, car = some a → ∀ e ∈ (s.zone z).entries, e.car ≠ some a) : s.replacing z car = none := by
  cases car <;> simp_all [State.replacing]

/-- What `takeExitCross` leaves as it is. -/
@[simp] theorem State.takeExitCross_same (s : State) (p : PortIx) (code : BitVec 5) :
    s.SameQueue (s.takeExitCross p code) ∧ s.SameConsole (s.takeExitCross p code) ∧
    s.SameInsertion (s.takeExitCross p code) ∧ s.SameOutput (s.takeExitCross p code) ∧
    (s.takeExitCross p code).slots = s.slots ∧ (s.takeExitCross p code).cars = s.cars ∧
    (s.takeExitCross p code).sessions = s.sessions ∧ s.SameSettings (s.takeExitCross p code) ∧
    s.SameRun (s.takeExitCross p code) ∧ s.SameManagement (s.takeExitCross p code) ∧
    s.SameNotices (s.takeExitCross p code) := by
  generalize e : s.takeExitCross p code = t
  simp only [State.takeExitCross] at e
  (repeat' split at e) <;> (subst e; simp)

/-- What `takeExitStraight` leaves as it is. -/
@[simp] theorem State.takeExitStraight_same (s : State) (p : PortIx) (code : BitVec 5) :
    s.SameQueue (s.takeExitStraight p code) ∧ s.SameConsole (s.takeExitStraight p code) ∧
    s.SameInsertion (s.takeExitStraight p code) ∧ s.SameOutput (s.takeExitStraight p code) ∧
    (s.takeExitStraight p code).slots = s.slots ∧ (s.takeExitStraight p code).cars = s.cars ∧
    (s.takeExitStraight p code).sessions = s.sessions ∧ s.SameSettings (s.takeExitStraight p code) ∧
    s.SameRun (s.takeExitStraight p code) ∧ s.SameManagement (s.takeExitStraight p code) ∧
    s.SameNotices (s.takeExitStraight p code) := by
  generalize e : s.takeExitStraight p code = t
  simp only [State.takeExitStraight] at e
  (repeat' split at e) <;> (subst e; simp)

/-- What `selfThrowCar` leaves as it is. -/
@[simp] theorem State.selfThrowCar_same (s : State) (p : PortIx) (car : Option CarIx) :
    s.SameQueue (s.selfThrowCar p car) ∧ s.SameConsole (s.selfThrowCar p car) ∧
    s.SameInsertion (s.selfThrowCar p car) ∧ s.SameOutput (s.selfThrowCar p car) ∧
    (s.selfThrowCar p car).slots = s.slots ∧ (s.selfThrowCar p car).sessions = s.sessions ∧
    s.SameSettings (s.selfThrowCar p car) ∧ s.SameRun (s.selfThrowCar p car) ∧
    s.SameManagement (s.selfThrowCar p car) ∧ s.SameNotices (s.selfThrowCar p car) := by
  generalize e : s.selfThrowCar p car = t
  simp only [State.selfThrowCar] at e
  (repeat' split at e) <;> (subst e; simp)

/-- What `markConflict` leaves as it is. -/
@[simp] theorem State.markConflict_same (s : State) (p : PortIx) (z : ZoneIx) :
    s.SameQueue (s.markConflict p z) ∧ s.SameConsole (s.markConflict p z) ∧
    s.SameInsertion (s.markConflict p z) ∧ s.SameOutput (s.markConflict p z) ∧
    (s.markConflict p z).slots = s.slots ∧ (s.markConflict p z).cars = s.cars ∧
    (s.markConflict p z).sessions = s.sessions ∧ (s.markConflict p z).ports = s.ports ∧
    s.SameSettings (s.markConflict p z) ∧ s.SameRun (s.markConflict p z) ∧
    s.SameManagement (s.markConflict p z) ∧ (s.markConflict p z).lastCar = s.lastCar := by
  generalize e : s.markConflict p z = t
  simp only [State.markConflict] at e
  (repeat' split at e) <;> (subst e; simp)

/-- What `displace` leaves as it is. -/
@[simp] theorem State.displace_same (s : State) (z : ZoneIx) :
    s.SameQueue (s.displace z) ∧ s.SameConsole (s.displace z) ∧ s.SameInsertion (s.displace z) ∧
    s.SameOutput (s.displace z) ∧ (s.displace z).slots = s.slots ∧ (s.displace z).cars = s.cars ∧
    (s.displace z).sessions = s.sessions ∧ s.SameSettings (s.displace z) ∧ s.SameRun (s.displace z) ∧
    s.SameManagement (s.displace z) ∧ s.SameNotices (s.displace z) := by
  generalize e : s.displace z = t
  simp only [State.displace] at e
  (repeat' split at e) <;> (subst e; simp)

/-- What `takeSelfThrow` leaves as it is. -/
@[simp] theorem State.takeSelfThrow_same (s : State) (p : PortIx) (code : BitVec 5) :
    s.SameQueue (s.takeSelfThrow p code) ∧ s.SameConsole (s.takeSelfThrow p code) ∧
    s.SameInsertion (s.takeSelfThrow p code) ∧ s.SameOutput (s.takeSelfThrow p code) ∧
    (s.takeSelfThrow p code).slots = s.slots ∧ (s.takeSelfThrow p code).sessions = s.sessions ∧
    s.SameSettings (s.takeSelfThrow p code) ∧ s.SameRun (s.takeSelfThrow p code) ∧
    s.SameManagement (s.takeSelfThrow p code) ∧ (s.takeSelfThrow p code).lastCar = s.lastCar := by
  generalize e : s.takeSelfThrow p code = t
  simp only [State.takeSelfThrow] at e
  (repeat' split at e) <;> (subst e; simp)

end Sys2Proof.Machine
end

