-- ==== Sys2Proof/Laws/Control.lean ====
section
/-! SUPPORT. What each operation of Run Control, the Management Unit and the commands leaves as it is. -/

namespace Sys2Proof.Machine

/-- What `startSilence` leaves as it is. -/
@[simp] theorem State.startSilence_same (s : State) :
    s.SameQueue (s.startSilence) ∧ s.SameConsole (s.startSilence) ∧ s.SameInsertion (s.startSilence) ∧
    s.SameOutput (s.startSilence) ∧ (s.startSilence).slots = s.slots ∧ (s.startSilence).cars = s.cars ∧
    (s.startSilence).sessions = s.sessions ∧ (s.startSilence).ports = s.ports ∧
    (s.startSilence).zones = s.zones ∧ s.SameSettings (s.startSilence) ∧ (s.startSilence).part = s.part ∧
    (s.startSilence).race = s.race ∧ (s.startSilence).laneEnable = s.laneEnable ∧ (s.startSilence).now = s.now ∧
    (s.startSilence).startupDue = s.startupDue ∧ (s.startSilence).wakeDue = s.wakeDue ∧
    (s.startSilence).ownCycleDue = s.ownCycleDue ∧ (s.startSilence).cause = s.cause ∧
    s.SameManagement (s.startSilence) ∧ s.SameNotices (s.startSilence) := by
  generalize e : s.startSilence = t
  simp only [State.startSilence] at e
  (repeat' split at e) <;> (subst e; simp)

/-- What `enterRun` leaves as it is. -/
@[simp] theorem State.enterRun_same (s : State) :
    s.SameQueue (s.enterRun) ∧ s.SameConsole (s.enterRun) ∧ s.SameInsertion (s.enterRun) ∧
    s.SameOutput (s.enterRun) ∧ (s.enterRun).slots = s.slots ∧ (s.enterRun).cars = s.cars ∧
    (s.enterRun).sessions = s.sessions ∧ (s.enterRun).ports = s.ports ∧ (s.enterRun).zones = s.zones ∧
    s.SameSettings (s.enterRun) ∧ (s.enterRun).race = s.race ∧ (s.enterRun).laneEnable = s.laneEnable ∧
    (s.enterRun).now = s.now ∧ (s.enterRun).startupDue = s.startupDue ∧ (s.enterRun).wakeDue = s.wakeDue ∧
    (s.enterRun).ownCycleDue = s.ownCycleDue ∧ (s.enterRun).cause = s.cause ∧ s.SameManagement (s.enterRun) ∧
    s.SameNotices (s.enterRun) := by
  generalize e : s.enterRun = t
  simp only [State.enterRun] at e
  (repeat' split at e) <;> (subst e; simp)

/-- What `writeRace` leaves as it is. -/
@[simp] theorem State.writeRace_same (s : State) (r : RaceState) (e : Bool) :
    s.SameQueue (s.writeRace r e) ∧ s.SameConsole (s.writeRace r e) ∧ s.SameInsertion (s.writeRace r e) ∧
    s.SameOutput (s.writeRace r e) ∧ (s.writeRace r e).slots = s.slots ∧
    (s.writeRace r e).sessions = s.sessions ∧ (s.writeRace r e).ports = s.ports ∧
    (s.writeRace r e).zones = s.zones ∧ s.SameSettings (s.writeRace r e) ∧ (s.writeRace r e).part = s.part ∧
    (s.writeRace r e).now = s.now ∧ (s.writeRace r e).startupDue = s.startupDue ∧
    (s.writeRace r e).wakeDue = s.wakeDue ∧ (s.writeRace r e).silenceDue = s.silenceDue ∧
    (s.writeRace r e).ownCycleDue = s.ownCycleDue ∧ (s.writeRace r e).cause = s.cause ∧
    s.SameManagement (s.writeRace r e) ∧ s.SameNotices (s.writeRace r e) := by
  generalize e : s.writeRace r e = t
  simp only [State.writeRace] at e
  (repeat' split at e) <;> (subst e; simp)

/-- What `enterHalt` leaves as it is. -/
@[simp] theorem State.enterHalt_same (s : State) :
    s.SameQueue (s.enterHalt) ∧ s.SameConsole (s.enterHalt) ∧ (s.enterHalt).queueWaiting = s.queueWaiting ∧
    (s.enterHalt).slots = s.slots ∧ (s.enterHalt).sessions = s.sessions ∧ (s.enterHalt).ports = s.ports ∧
    (s.enterHalt).zones = s.zones ∧ s.SameSettings (s.enterHalt) ∧ (s.enterHalt).race = s.race ∧
    (s.enterHalt).laneEnable = s.laneEnable ∧ (s.enterHalt).now = s.now ∧
    (s.enterHalt).startupDue = s.startupDue ∧ (s.enterHalt).wakeDue = s.wakeDue ∧
    (s.enterHalt).cause = s.cause ∧ s.SameManagement (s.enterHalt) ∧ (s.enterHalt).lastCar = s.lastCar ∧
    (s.enterHalt).lastPort = s.lastPort := by
  generalize e : s.enterHalt = t
  simp only [State.enterHalt] at e
  (repeat' split at e) <;> (subst e; simp)

/-- What `enterRest` leaves as it is. -/
@[simp] theorem State.enterRest_same (s : State) :
    s.SameQueue (s.enterRest) ∧ s.SameConsole (s.enterRest) ∧ s.SameInsertion (s.enterRest) ∧
    (s.enterRest).railOut = s.railOut ∧ (s.enterRest).window = s.window ∧ (s.enterRest).closing = s.closing ∧
    (s.enterRest).slots = s.slots ∧ (s.enterRest).sessions = s.sessions ∧ (s.enterRest).zones = s.zones ∧
    s.SameSettings (s.enterRest) ∧ (s.enterRest).race = s.race ∧ (s.enterRest).laneEnable = s.laneEnable ∧
    (s.enterRest).now = s.now ∧ (s.enterRest).startupDue = s.startupDue ∧ (s.enterRest).wakeDue = s.wakeDue ∧
    (s.enterRest).ownCycleDue = s.ownCycleDue ∧ (s.enterRest).cause = s.cause ∧ s.SameManagement (s.enterRest) ∧
    s.SameNotices (s.enterRest) := by
  generalize e : s.enterRest = t
  simp only [State.enterRest] at e
  (repeat' split at e) <;> (subst e; simp)

/-- What `beginWake` leaves as it is. -/
@[simp] theorem State.beginWake_same (s : State) :
    s.SameQueue (s.beginWake) ∧ s.SameConsole (s.beginWake) ∧ s.SameInsertion (s.beginWake) ∧
    s.SameOutput (s.beginWake) ∧ (s.beginWake).slots = s.slots ∧ (s.beginWake).cars = s.cars ∧
    (s.beginWake).sessions = s.sessions ∧ (s.beginWake).zones = s.zones ∧ s.SameSettings (s.beginWake) ∧
    (s.beginWake).race = s.race ∧ (s.beginWake).laneEnable = s.laneEnable ∧ (s.beginWake).now = s.now ∧
    (s.beginWake).startupDue = s.startupDue ∧ (s.beginWake).silenceDue = s.silenceDue ∧
    (s.beginWake).ownCycleDue = s.ownCycleDue ∧ (s.beginWake).cause = s.cause ∧ s.SameManagement (s.beginWake) ∧
    s.SameNotices (s.beginWake) := by
  generalize e : s.beginWake = t
  simp only [State.beginWake] at e
  (repeat' split at e) <;> (subst e; simp)

/-- What `cycleRun` leaves as it is. -/
@[simp] theorem State.cycleRun_same (s : State) :
    s.SameQueue (s.cycleRun) ∧ s.SameConsole (s.cycleRun) ∧ s.SameInsertion (s.cycleRun) ∧
    s.SameOutput (s.cycleRun) ∧ (s.cycleRun).slots = s.slots ∧ (s.cycleRun).cars = s.cars ∧
    (s.cycleRun).sessions = s.sessions ∧ (s.cycleRun).zones = s.zones ∧ s.SameSettings (s.cycleRun) ∧
    (s.cycleRun).race = s.race ∧ (s.cycleRun).laneEnable = s.laneEnable ∧ (s.cycleRun).now = s.now ∧
    (s.cycleRun).startupDue = s.startupDue ∧ (s.cycleRun).cause = s.cause ∧ s.SameManagement (s.cycleRun) ∧
    s.SameNotices (s.cycleRun) := by
  generalize e : s.cycleRun = t
  simp only [State.cycleRun] at e
  (repeat' split at e) <;> (subst e; simp)

/-- What `dropRequest` leaves as it is. -/
@[simp] theorem State.dropRequest_same (s : State) :
    s.SameQueue (s.dropRequest) ∧ s.SameConsole (s.dropRequest) ∧ s.SameInsertion (s.dropRequest) ∧
    s.SameOutput (s.dropRequest) ∧ (s.dropRequest).slots = s.slots ∧ (s.dropRequest).cars = s.cars ∧
    (s.dropRequest).sessions = s.sessions ∧ (s.dropRequest).ports = s.ports ∧ (s.dropRequest).zones = s.zones ∧
    s.SameSettings (s.dropRequest) ∧ s.SameRun (s.dropRequest) ∧ (s.dropRequest).assembly = s.assembly ∧
    (s.dropRequest).replies = s.replies ∧ (s.dropRequest).frameErrors = s.frameErrors ∧
    (s.dropRequest).kindErrors = s.kindErrors ∧ (s.dropRequest).lastCar = s.lastCar ∧
    (s.dropRequest).lastPort = s.lastPort := by
  generalize e : s.dropRequest = t
  simp only [State.dropRequest] at e
  (repeat' split at e) <;> (subst e; simp)

/-- What `queueReply` leaves as it is. -/
@[simp] theorem State.queueReply_same (s : State) (r : Reply) :
    s.SameQueue (s.queueReply r) ∧ s.SameConsole (s.queueReply r) ∧ s.SameInsertion (s.queueReply r) ∧
    s.SameOutput (s.queueReply r) ∧ (s.queueReply r).slots = s.slots ∧ (s.queueReply r).cars = s.cars ∧
    (s.queueReply r).sessions = s.sessions ∧ (s.queueReply r).ports = s.ports ∧
    (s.queueReply r).zones = s.zones ∧ s.SameSettings (s.queueReply r) ∧ s.SameRun (s.queueReply r) ∧
    (s.queueReply r).assembly = s.assembly ∧ (s.queueReply r).frameErrors = s.frameErrors ∧
    (s.queueReply r).kindErrors = s.kindErrors ∧ (s.queueReply r).dropped = s.dropped ∧
    s.SameNotices (s.queueReply r) := by
  generalize e : s.queueReply r = t
  simp only [State.queueReply] at e
  (repeat' split at e) <;> (subst e; simp)

/-- What `interrupt` leaves as it is. -/
@[simp] theorem State.interrupt_same (s : State) :
    s.SameQueue (s.interrupt) ∧ s.SameConsole (s.interrupt) ∧ s.SameInsertion (s.interrupt) ∧
    s.SameOutput (s.interrupt) ∧ (s.interrupt).slots = s.slots ∧ (s.interrupt).cars = s.cars ∧
    (s.interrupt).sessions = s.sessions ∧ (s.interrupt).ports = s.ports ∧ (s.interrupt).zones = s.zones ∧
    s.SameSettings (s.interrupt) ∧ s.SameRun (s.interrupt) ∧ (s.interrupt).frameErrors = s.frameErrors ∧
    (s.interrupt).kindErrors = s.kindErrors ∧ (s.interrupt).lastCar = s.lastCar ∧
    (s.interrupt).lastPort = s.lastPort := by
  generalize e : s.interrupt = t
  simp only [State.interrupt] at e
  (repeat' split at e) <;> (subst e; simp)

/-- What `openWindow` leaves as it is. -/
@[simp] theorem State.openWindow_same (s : State) :
    s.SameQueue (s.openWindow) ∧ (s.openWindow).rxBits = s.rxBits ∧ s.SameInsertion (s.openWindow) ∧
    s.SameOutput (s.openWindow) ∧ (s.openWindow).slots = s.slots ∧ (s.openWindow).cars = s.cars ∧
    (s.openWindow).sessions = s.sessions ∧ (s.openWindow).ports = s.ports ∧ (s.openWindow).zones = s.zones ∧
    s.SameSettings (s.openWindow) ∧ s.SameRun (s.openWindow) ∧ (s.openWindow).assembly = s.assembly ∧
    (s.openWindow).frameErrors = s.frameErrors ∧ (s.openWindow).kindErrors = s.kindErrors ∧
    (s.openWindow).dropped = s.dropped ∧ s.SameNotices (s.openWindow) := by
  generalize e : s.openWindow = t
  simp only [State.openWindow] at e
  (repeat' split at e) <;> (subst e; simp)

/-- What `arrive` leaves as it is. -/
@[simp] theorem State.arrive_same (s : State) :
    s.SameQueue (s.arrive) ∧ s.SameInsertion (s.arrive) ∧ s.SameOutput (s.arrive) ∧ (s.arrive).slots = s.slots ∧
    (s.arrive).cars = s.cars ∧ (s.arrive).sessions = s.sessions ∧ (s.arrive).ports = s.ports ∧
    (s.arrive).zones = s.zones ∧ s.SameSettings (s.arrive) ∧ s.SameRun (s.arrive) ∧
    s.SameManagement (s.arrive) ∧ s.SameNotices (s.arrive) := by
  generalize e : s.arrive = t
  simp only [State.arrive] at e
  (repeat' split at e) <;> (subst e; simp)

/-- What `arriveOther` leaves as it is. -/
@[simp] theorem State.arriveOther_same (s : State) :
    s.SameQueue (s.arriveOther) ∧ s.SameInsertion (s.arriveOther) ∧ s.SameOutput (s.arriveOther) ∧
    (s.arriveOther).slots = s.slots ∧ (s.arriveOther).cars = s.cars ∧ (s.arriveOther).sessions = s.sessions ∧
    (s.arriveOther).ports = s.ports ∧ (s.arriveOther).zones = s.zones ∧ s.SameSettings (s.arriveOther) ∧
    s.SameRun (s.arriveOther) ∧ (s.arriveOther).frameErrors = s.frameErrors ∧
    (s.arriveOther).kindErrors = s.kindErrors ∧ (s.arriveOther).lastCar = s.lastCar ∧
    (s.arriveOther).lastPort = s.lastPort := by
  generalize e : s.arriveOther = t
  simp only [State.arriveOther] at e
  (repeat' split at e) <;> (subst e; simp)

/-- What `cycleWindow` leaves as it is. -/
@[simp] theorem State.cycleWindow_same (s : State) :
    (s.cycleWindow).pending = s.pending ∧ (s.cycleWindow).resetHeld = s.resetHeld ∧
    (s.cycleWindow).rxBits = s.rxBits ∧ s.SameInsertion (s.cycleWindow) ∧ s.SameOutput (s.cycleWindow) ∧
    (s.cycleWindow).slots = s.slots ∧ (s.cycleWindow).cars = s.cars ∧ (s.cycleWindow).sessions = s.sessions ∧
    (s.cycleWindow).ports = s.ports ∧ (s.cycleWindow).zones = s.zones ∧ s.SameSettings (s.cycleWindow) ∧
    s.SameRun (s.cycleWindow) ∧ (s.cycleWindow).frameErrors = s.frameErrors ∧
    (s.cycleWindow).kindErrors = s.kindErrors ∧ (s.cycleWindow).lastCar = s.lastCar ∧
    (s.cycleWindow).lastPort = s.lastPort := by
  generalize e : s.cycleWindow = t
  simp only [State.cycleWindow] at e
  (repeat' split at e) <;> (subst e; simp)

/-- What `driveFlags` leaves as it is. -/
@[simp] theorem State.driveFlags_same (s : State) (h : SlotIx) (x : Option CarIx) (lane pair : Bool) :
    s.SameQueue (s.driveFlags h x lane pair) ∧ s.SameConsole (s.driveFlags h x lane pair) ∧
    (s.driveFlags h x lane pair).railOut = s.railOut ∧
    (s.driveFlags h x lane pair).waitingLine.length = s.waitingLine.length ∧ (s.driveFlags h x lane pair).zones = s.zones ∧
    s.SameSettings (s.driveFlags h x lane pair) ∧ s.SameRun (s.driveFlags h x lane pair) ∧
    s.SameManagement (s.driveFlags h x lane pair) ∧ (s.driveFlags h x lane pair).lastCar = s.lastCar := by
  generalize e : s.driveFlags h x lane pair = t
  simp only [State.driveFlags] at e
  (repeat' split at e) <;> (subst e; simp)

/-- What `driveOut` leaves as it is. -/
@[simp] theorem State.driveOut_same (s : State) (x : Option CarIx) (t : Nat) (brake : Bool) :
    s.SameQueue (s.driveOut x t brake) ∧ s.SameConsole (s.driveOut x t brake) ∧
    (s.driveOut x t brake).queueWaiting = s.queueWaiting ∧ (s.driveOut x t brake).slots = s.slots ∧
    (s.driveOut x t brake).sessions = s.sessions ∧ (s.driveOut x t brake).ports = s.ports ∧
    (s.driveOut x t brake).zones = s.zones ∧ s.SameSettings (s.driveOut x t brake) ∧
    s.SameRun (s.driveOut x t brake) ∧ s.SameManagement (s.driveOut x t brake) ∧
    s.SameNotices (s.driveOut x t brake) := by
  generalize e : s.driveOut x t brake = t
  simp only [State.driveOut] at e
  (repeat' split at e) <;> (subst e; simp)

/-- What `restartPort` leaves as it is. -/
@[simp] theorem State.restartPort_same (s : State) (p : PortIx) :
    s.SameQueue (s.restartPort p) ∧ s.SameConsole (s.restartPort p) ∧ s.SameInsertion (s.restartPort p) ∧
    s.SameOutput (s.restartPort p) ∧ (s.restartPort p).slots = s.slots ∧ (s.restartPort p).cars = s.cars ∧
    (s.restartPort p).sessions = s.sessions ∧ s.SameSettings (s.restartPort p) ∧ s.SameRun (s.restartPort p) ∧
    s.SameManagement (s.restartPort p) ∧ s.SameNotices (s.restartPort p) := by
  generalize e : s.restartPort p = t
  simp only [State.restartPort] at e
  (repeat' split at e) <;> (subst e; simp)

/-- What `takeHello` leaves as it is. -/
@[simp] theorem State.takeHello_same (s : State) (p : PortIx) (k : ModuleKind) (thrown : Bool) :
    s.SameQueue (s.takeHello p k thrown) ∧ s.SameConsole (s.takeHello p k thrown) ∧
    s.SameInsertion (s.takeHello p k thrown) ∧ s.SameOutput (s.takeHello p k thrown) ∧
    (s.takeHello p k thrown).slots = s.slots ∧ (s.takeHello p k thrown).cars = s.cars ∧
    (s.takeHello p k thrown).sessions = s.sessions ∧ s.SameSettings (s.takeHello p k thrown) ∧
    s.SameRun (s.takeHello p k thrown) ∧ s.SameManagement (s.takeHello p k thrown) ∧
    (s.takeHello p k thrown).lastCar = s.lastCar := by
  generalize e : s.takeHello p k thrown = t
  simp only [State.takeHello] at e
  (repeat' split at e) <;> (subst e; simp)

/-- What `writeRole` leaves as it is. -/
@[simp] theorem State.writeRole_same (s : State) (p : PortIx) (role : Role) :
    s.SameQueue (s.writeRole p role) ∧ s.SameConsole (s.writeRole p role) ∧
    (s.writeRole p role).railOut = s.railOut ∧ (s.writeRole p role).waitingLine.length = s.waitingLine.length ∧
    s.SameSettings (s.writeRole p role) ∧ s.SameRun (s.writeRole p role) ∧
    s.SameManagement (s.writeRole p role) ∧ (s.writeRole p role).lastCar = s.lastCar := by
  generalize e : s.writeRole p role = t
  simp only [State.writeRole] at e
  (repeat' split at e) <;> (subst e; simp)

/-- What `writeMode` leaves as it is. -/
@[simp] theorem State.writeMode_same (s : State) (w v on : Bool) (bay : Option PortIx) :
    s.SameQueue (s.writeMode w v on bay) ∧ s.SameConsole (s.writeMode w v on bay) ∧
    s.SameInsertion (s.writeMode w v on bay) ∧ s.SameOutput (s.writeMode w v on bay) ∧
    (s.writeMode w v on bay).slots = s.slots ∧ (s.writeMode w v on bay).sessions = s.sessions ∧
    (s.writeMode w v on bay).ports = s.ports ∧ (s.writeMode w v on bay).zones = s.zones ∧
    (s.writeMode w v on bay).strap = s.strap ∧ (s.writeMode w v on bay).curves = s.curves ∧
    (s.writeMode w v on bay).cautionCap = s.cautionCap ∧
    (s.writeMode w v on bay).silenceTimeout = s.silenceTimeout ∧ s.SameRun (s.writeMode w v on bay) ∧
    s.SameManagement (s.writeMode w v on bay) ∧ s.SameNotices (s.writeMode w v on bay) := by
  generalize e : s.writeMode w v on bay = t
  simp only [State.writeMode] at e
  (repeat' split at e) <;> (subst e; simp)

end Sys2Proof.Machine
end

