-- ==== Sys2Proof/Laws/PerInstr.lean ====
section
/-! SUPPORT. For every constructor of Instr: a request command is spelled by frames (section 9.4). -/

namespace Sys2Proof.Laws

open Sys2Proof.Machine

/-- A command that is a request is what some argument and data words of its code spell (R157 to R167), so the packings
drop no field of it. -/
def RequestSpelling.Statement (i : Instr) : Prop :=
  ∀ code, requestCode i = some code →
    ∃ (arg : BitVec 8) (d1 d2 d3 : Word16), framedRequest code arg d1 d2 d3 = some i

namespace RequestSpelling

/-- The high field of two, read back. -/
theorem extract_high {m n : Nat} (a : BitVec m) (b : BitVec n) : (a ++ b).extractLsb' n m = a := by
  ext k hk
  simp [BitVec.getLsbD_append, ← BitVec.getLsbD_eq_getElem, hk]

/-- The low field of two, read back. -/
theorem extract_low {m n : Nat} (a : BitVec m) (b : BitVec n) : (a ++ b).extractLsb' 0 n = b := by
  ext k hk
  simp [BitVec.getLsbD_append, hk]

/-- A field that a wider word holds at its low end, read back. -/
theorem extract_widened {m n : Nat} (a : BitVec m) (h : m ≤ n) : (a.setWidth n).extractLsb' 0 m = a := by
  ext k hk
  simp [show k < n by omega, ← BitVec.getLsbD_eq_getElem, hk]

/-- Two nibbles of a byte, read back. -/
theorem nibbles_read (a b : BitVec 4) :
    (a ++ b : BitVec 8).extractLsb' 4 4 = a ∧ (a ++ b : BitVec 8).extractLsb' 0 4 = b :=
  ⟨extract_high a b, extract_low a b⟩

/-- Two bytes of a word, read back. -/
theorem bytes_read (a b : BitVec 8) :
    (a ++ b : Word16).extractLsb' 8 8 = a ∧ (a ++ b : Word16).extractLsb' 0 8 = b :=
  ⟨extract_high a b, extract_low a b⟩

/-- The two low bits of an argument, read back. -/
theorem lowBits_read (a b : Bool) :
    ((0 : BitVec 6) ++ BitVec.ofBool b ++ BitVec.ofBool a : BitVec 8).getLsbD 0 = a ∧
      ((0 : BitVec 6) ++ BitVec.ofBool b ++ BitVec.ofBool a : BitVec 8).getLsbD 1 = b := by
  cases a <;> cases b <;> decide

/-- The top bit of a word, read back. -/
theorem top_read (b : Bool) (a : BitVec 8) : (BitVec.ofBool b ++ (0 : BitVec 7) ++ a : Word16).getLsbD 15 = b := by
  rw [BitVec.getLsbD_append, BitVec.getLsbD_append]
  cases b <;> rfl

theorem cycleFrame (race : RaceState) (laneEnable : Bool) (console : BitVec 13) :
    Statement (.cycleFrame race laneEnable console) := by
  intro code h
  cases h

theorem driveFrame (slot : BitVec 5) (throttle : BitVec 6) (brake : Bool) (lane : Bool) (pair : Bool) :
    Statement (.driveFrame slot throttle brake lane pair) := by
  intro code h
  cases h

theorem headFrame (code : BitVec 6) (count : BitVec 2) (arg : BitVec 8) : Statement (.headFrame code count arg) := by
  intro code h
  cases h

theorem dataFrame (word : Word16) : Statement (.dataFrame word) := by
  intro code h
  cases h

theorem fillFrame : Statement .fillFrame := by
  intro code h
  cases h

theorem auxFrame (kind : Fin 3) (body : Word16) : Statement (.auxFrame kind body) := by
  intro code h
  cases h

theorem frameError : Statement .frameError := by
  intro code h
  cases h

theorem kindError : Statement .kindError := by
  intro code h
  cases h

theorem frameBrokenOff : Statement .frameBrokenOff := by
  intro code h
  cases h

theorem carAnswerWindowClose (address : BitVec 5) (answered : Bool) :
    Statement (.carAnswerWindowClose address answered) := by
  intro code h
  cases h

theorem assignAnswerWindowClose (port : PortIx) (answered : Bool) :
    Statement (.assignAnswerWindowClose port answered) := by
  intro code h
  cases h

theorem railOutputFree : Statement .railOutputFree := by
  intro code h
  cases h

theorem insertionQueuePlace : Statement .insertionQueuePlace := by
  intro code h
  cases h

theorem hello (port : PortIx) (kind : ModuleKind) (thrown : Bool) : Statement (.hello port kind thrown) := by
  intro code h
  cases h

theorem approach (port : PortIx) (code : BitVec 5) : Statement (.approach port code) := by
  intro code h
  cases h

theorem guard (port : PortIx) (code : BitVec 5) : Statement (.guard port code) := by
  intro code h
  cases h

theorem exitCross (port : PortIx) (code : BitVec 5) : Statement (.exitCross port code) := by
  intro code h
  cases h

theorem exitStraight (port : PortIx) (code : BitVec 5) : Statement (.exitStraight port code) := by
  intro code h
  cases h

theorem ready (port : PortIx) (thrown : Bool) : Statement (.ready port thrown) := by
  intro code h
  cases h

theorem moving (port : PortIx) : Statement (.moving port) := by
  intro code h
  cases h

theorem moduleFault (port : PortIx) (code : BitVec 8) : Statement (.moduleFault port code) := by
  intro code h
  cases h

theorem selfThrow (port : PortIx) (code : BitVec 5) : Statement (.selfThrow port code) := by
  intro code h
  cases h

theorem identity (port : PortIx) (id : Identity) : Statement (.identity port id) := by
  intro code h
  cases h

theorem portLineError (port : PortIx) : Statement (.portLineError port) := by
  intro code h
  cases h

theorem portMessageBrokenOff (port : PortIx) : Statement (.portMessageBrokenOff port) := by
  intro code h
  cases h

theorem portLineFree (port : PortIx) : Statement (.portLineFree port) := by
  intro code h
  cases h

theorem flapCommandLeft (port : PortIx) : Statement (.flapCommandLeft port) := by
  intro code h
  cases h

theorem startUpSettleExpiry : Statement .startUpSettleExpiry := by
  intro code h
  cases h

theorem wakeSettleExpiry : Statement .wakeSettleExpiry := by
  intro code h
  cases h

theorem silenceDeadlineExpiry : Statement .silenceDeadlineExpiry := by
  intro code h
  cases h

theorem ownCycleTimerExpiry : Statement .ownCycleTimerExpiry := by
  intro code h
  cases h

theorem resetDeadlineExpiry (port : PortIx) : Statement (.resetDeadlineExpiry port) := by
  intro code h
  cases h

theorem flapDeadlineExpiry (port : PortIx) : Statement (.flapDeadlineExpiry port) := by
  intro code h
  cases h

theorem windowDeadlineExpiry (port : PortIx) : Statement (.windowDeadlineExpiry port) := by
  intro code h
  cases h

theorem showDeadlineExpiry (port : PortIx) : Statement (.showDeadlineExpiry port) := by
  intro code h
  cases h

theorem entryExpiry (zone : ZoneIx) (position : Fin 3) : Statement (.entryExpiry zone position) := by
  intro code h
  cases h

theorem guardExpiry (zone : ZoneIx) : Statement (.guardExpiry zone) := by
  intro code h
  cases h

theorem powerOn : Statement .powerOn := by
  intro code h
  cases h

theorem resetPinAssertion : Statement .resetPinAssertion := by
  intro code h
  cases h

theorem supplyDip : Statement .supplyDip := by
  intro code h
  cases h

theorem internalResetRelease (strapHigh : Bool) : Statement (.internalResetRelease strapHigh) := by
  intro code h
  cases h

theorem ident : Statement .ident := by
  intro code h
  obtain rfl := Option.some.inj h
  refine ⟨0, 0, 0, 0, ?_⟩
  rfl

theorem status (clearCounters : Bool) : Statement (.status clearCounters) := by
  intro code h
  obtain rfl := Option.some.inj h
  refine ⟨(0 : BitVec 7) ++ BitVec.ofBool clearCounters, 0, 0, 0, ?_⟩
  cases clearCounters <;> rfl

theorem notices : Statement .notices := by
  intro code h
  obtain rfl := Option.some.inj h
  refine ⟨0, 0, 0, 0, ?_⟩
  rfl

theorem cause : Statement .cause := by
  intro code h
  obtain rfl := Option.some.inj h
  refine ⟨0, 0, 0, 0, ?_⟩
  rfl

theorem portRole (port : BitVec 8) (role : BitVec 4) : Statement (.portRole port role) := by
  intro code h
  obtain rfl := Option.some.inj h
  refine ⟨port, role.setWidth 16, 0, 0, ?_⟩
  exact congrArg (fun x => some (Instr.portRole port x)) (extract_widened _ (by decide))

theorem portMask (port : BitVec 8) (masked : Bool) : Statement (.portMask port masked) := by
  intro code h
  obtain rfl := Option.some.inj h
  refine ⟨port, (0 : BitVec 15) ++ BitVec.ofBool masked, 0, 0, ?_⟩
  cases masked <;> rfl

theorem sectionWrite (port : BitVec 4) (zone : BitVec 4) (cap : BitVec 8) (hold : BitVec 8) (guardTime : BitVec 8) (flap : BitVec 8) (threshold : Word16) :
    Statement (.sectionWrite port zone cap hold guardTime flap threshold) := by
  intro code h
  obtain rfl := Option.some.inj h
  refine ⟨port ++ zone, cap ++ hold, guardTime ++ flap, threshold, ?_⟩
  refine congrArg some (?_ : Instr.sectionWrite _ _ _ _ _ _ _ = _)
  congr 1
  · exact (nibbles_read _ _).1
  · exact (nibbles_read _ _).2
  · exact (bytes_read _ _).1
  · exact (bytes_read _ _).2
  · exact (bytes_read _ _).1
  · exact (bytes_read _ _).2

theorem sectionRead (port : BitVec 8) : Statement (.sectionRead port) := by
  intro code h
  obtain rfl := Option.some.inj h
  refine ⟨port, 0, 0, 0, ?_⟩
  rfl

theorem sectionCounts (port : BitVec 8) (page : BitVec 2) (clearErrors : Bool) :
    Statement (.sectionCounts port page clearErrors) := by
  intro code h
  obtain rfl := Option.some.inj h
  refine ⟨port, BitVec.ofBool clearErrors ++ (0 : BitVec 13) ++ page, 0, 0, ?_⟩
  refine congrArg some (?_ : Instr.sectionCounts _ _ _ = _)
  congr 1
  · exact extract_low _ page
  · show (BitVec.ofBool clearErrors ++ (0 : BitVec 13) ++ page).getLsbD 15 = clearErrors
    rw [BitVec.getLsbD_append, BitVec.getLsbD_append]
    cases clearErrors <;> rfl

theorem sectionClear (port : BitVec 8) : Statement (.sectionClear port) := by
  intro code h
  obtain rfl := Option.some.inj h
  refine ⟨port, 0, 0, 0, ?_⟩
  rfl

theorem zoneWrite (zone : BitVec 8) (capacity : BitVec 8) : Statement (.zoneWrite zone capacity) := by
  intro code h
  obtain rfl := Option.some.inj h
  refine ⟨zone, capacity.setWidth 16, 0, 0, ?_⟩
  exact congrArg (fun x => some (Instr.zoneWrite zone x)) (extract_widened _ (by decide))

theorem zoneRead (zone : BitVec 8) (page : BitVec 2) : Statement (.zoneRead zone page) := by
  intro code h
  obtain rfl := Option.some.inj h
  refine ⟨zone, page.setWidth 16, 0, 0, ?_⟩
  exact congrArg (fun x => some (Instr.zoneRead zone x)) (extract_widened _ (by decide))

theorem curveWrite (curve : BitVec 4) (point : BitVec 4) (value : BitVec 8) :
    Statement (.curveWrite curve point value) := by
  intro code h
  obtain rfl := Option.some.inj h
  refine ⟨curve ++ point, value.setWidth 16, 0, 0, ?_⟩
  refine congrArg some (?_ : Instr.curveWrite _ _ _ = _)
  congr 1
  · exact (nibbles_read _ _).1
  · exact (nibbles_read _ _).2
  · exact extract_widened _ (by decide)

theorem curveRead (curve : BitVec 4) (half : BitVec 4) : Statement (.curveRead curve half) := by
  intro code h
  obtain rfl := Option.some.inj h
  refine ⟨curve ++ half, 0, 0, 0, ?_⟩
  refine congrArg some (?_ : Instr.curveRead _ _ = _)
  congr 1
  · exact (nibbles_read _ _).1
  · exact (nibbles_read _ _).2

theorem carWrite (address : BitVec 8) (limit : BitVec 8) (curve : BitVec 4) (up : BitVec 8) (down : BitVec 8) :
    Statement (.carWrite address limit curve up down) := by
  intro code h
  obtain rfl := Option.some.inj h
  refine ⟨address, limit ++ (0 : BitVec 4) ++ curve, up ++ down, 0, ?_⟩
  refine congrArg some (?_ : Instr.carWrite _ _ _ _ _ = _)
  congr 1
  · ext k hk
    rw [BitVec.getElem_extractLsb', BitVec.getLsbD_append, BitVec.getLsbD_append]
    simp [show ¬8 + k < 4 by omega, show ¬8 + k - 4 < 4 by omega, show 8 + k - 4 - 4 = k by omega, ←
      BitVec.getLsbD_eq_getElem]
  · exact extract_low (limit ++ (0 : BitVec 4)) curve
  · exact (bytes_read _ _).1
  · exact (bytes_read _ _).2

theorem carRead (address : BitVec 8) : Statement (.carRead address) := by
  intro code h
  obtain rfl := Option.some.inj h
  refine ⟨address, 0, 0, 0, ?_⟩
  rfl

theorem carIdentity (address : BitVec 8) : Statement (.carIdentity address) := by
  intro code h
  obtain rfl := Option.some.inj h
  refine ⟨address, 0, 0, 0, ?_⟩
  rfl

theorem bind (slot : BitVec 8) (address : BitVec 8) : Statement (.bind slot address) := by
  intro code h
  obtain rfl := Option.some.inj h
  refine ⟨slot, address.setWidth 16, 0, 0, ?_⟩
  exact congrArg (fun x => some (Instr.bind slot x)) (extract_widened _ (by decide))

theorem unbind (slot : BitVec 8) : Statement (.unbind slot) := by
  intro code h
  obtain rfl := Option.some.inj h
  refine ⟨slot, 0, 0, 0, ?_⟩
  rfl

theorem forget (address : BitVec 8) : Statement (.forget address) := by
  intro code h
  obtain rfl := Option.some.inj h
  refine ⟨address, 0, 0, 0, ?_⟩
  rfl

theorem pairOpen (port : BitVec 8) (slot : BitVec 8) (window : BitVec 8) : Statement (.pairOpen port slot window) := by
  intro code h
  obtain rfl := Option.some.inj h
  refine ⟨port, slot ++ window, 0, 0, ?_⟩
  refine congrArg some (?_ : Instr.pairOpen _ _ _ = _)
  congr 1
  · exact (bytes_read _ _).1
  · exact (bytes_read _ _).2

theorem pairCancel (port : BitVec 8) : Statement (.pairCancel port) := by
  intro code h
  obtain rfl := Option.some.inj h
  refine ⟨port, 0, 0, 0, ?_⟩
  rfl

theorem pairRead (port : BitVec 8) (page : BitVec 2) : Statement (.pairRead port page) := by
  intro code h
  obtain rfl := Option.some.inj h
  refine ⟨port, page.setWidth 16, 0, 0, ?_⟩
  exact congrArg (fun x => some (Instr.pairRead port x)) (extract_widened _ (by decide))

theorem revive (address : BitVec 8) : Statement (.revive address) := by
  intro code h
  obtain rfl := Option.some.inj h
  refine ⟨address, 0, 0, 0, ?_⟩
  rfl

theorem limits (writeCap : Bool) (writeTimeout : Bool) (cap : BitVec 8) (timeout : BitVec 8) :
    Statement (.limits writeCap writeTimeout cap timeout) := by
  intro code h
  obtain rfl := Option.some.inj h
  refine ⟨(0 : BitVec 6) ++ BitVec.ofBool writeTimeout ++ BitVec.ofBool writeCap, cap ++ timeout, 0, 0, ?_⟩
  refine congrArg some (?_ : Instr.limits _ _ _ _ = _)
  congr 1
  · exact (lowBits_read _ _).1
  · exact (lowBits_read _ _).2
  · exact (bytes_read _ _).1
  · exact (bytes_read _ _).2

theorem mode (writeFallback : Bool) (writeBay : Bool) (fallback : Bool) (bay : BitVec 8) :
    Statement (.mode writeFallback writeBay fallback bay) := by
  intro code h
  obtain rfl := Option.some.inj h
  refine ⟨(0 : BitVec 6) ++ BitVec.ofBool writeBay ++ BitVec.ofBool writeFallback, BitVec.ofBool fallback ++ (0 : BitVec 7) ++ bay, 0, 0, ?_⟩
  refine congrArg some (?_ : Instr.mode _ _ _ _ = _)
  congr 1
  · exact (lowBits_read _ _).1
  · exact (lowBits_read _ _).2
  · exact top_read _ _
  · exact extract_low _ bay

theorem rest : Statement .rest := by
  intro code h
  obtain rfl := Option.some.inj h
  refine ⟨0, 0, 0, 0, ?_⟩
  rfl

theorem wake : Statement .wake := by
  intro code h
  obtain rfl := Option.some.inj h
  refine ⟨0, 0, 0, 0, ?_⟩
  rfl

theorem softReset : Statement .softReset := by
  intro code h
  obtain rfl := Option.some.inj h
  refine ⟨0, 0, 0, 0, ?_⟩
  rfl

end RequestSpelling

end Sys2Proof.Laws
end

