-- ==== Sys2Proof/Laws/Regimes.lean ====
section
/-! SUPPORT. What a position of the rails is in each regime of R6, R10 and R11, what a free position takes, what an arriving
frame does before its kind is looked at, and what a tick changes. -/

namespace Sys2Proof.Machine

@[simp] theorem State.send_output (s : State) (f : RailFrame) (w : Option AnswerWindow) :
    (s.send f w).railOut = some f ∧ (s.send f w).window = w ∧ (s.send f w).closing = s.closing ++ s.window.toList :=
  ⟨rfl, rfl, rfl⟩

@[simp] theorem State.arrive_console (s : State) : s.arrive.rxBits = [] ∧ s.arrive.returnWindow = [] := ⟨rfl, rfl⟩

theorem State.interrupt_of_none {s : State} (h : s.assembly = none) : s.interrupt = s := by simp [State.interrupt, h]

theorem State.arriveOther_of_none {s : State} (h : s.assembly = none) : s.arriveOther = s.arrive :=
  State.interrupt_of_none (by simpa using h)

/-- After an interruption no request is under assembly (R154). -/
@[simp] theorem State.interrupt_assembly (s : State) : s.interrupt.assembly = none := by
  unfold State.interrupt
  split
  · assumption
  · split <;> simp

@[simp] theorem State.arriveOther_fields (s : State) :
    s.arriveOther.assembly = none ∧ s.arriveOther.rxBits = [] ∧ s.arriveOther.returnWindow = [] := by
  simp [State.arriveOther]

/-! ### Positions -/

theorem State.position_of_unshared {s : State} (h : s.Unshared) (x : LineItem) : s.position x = s.leave x := by
  obtain ⟨h1, h2⟩ := h
  rcases h1 with h1 | h1 | h1 <;> simp [State.position, State.sharing, h1]
  intro hw; exact absurd (h2 h1) hw

theorem State.position_of_rest {s : State} (h : s.part = .rest) (x : LineItem) : s.position x = s := by
  simp [State.position, h]

theorem State.position_of_shared {s : State} (h : s.Shared) (x : LineItem) :
    s.position x = s.fallDue x := by
  rcases h with h | ⟨h, hw⟩
  · simp [State.position, State.sharing, h]
  · simp [State.position, State.sharing, h, hw]

/-- The regime is one of the three. -/
theorem State.regimes (s : State) : s.Unshared ∨ s.Shared ∨ s.part = .rest := by
  unfold State.Unshared State.Shared
  cases h : s.part <;> simp <;> tauto

/-- A frame that falls due leaves, waits or is discarded (R10). -/
theorem State.fallDue_fallsDue (s : State) (x : LineItem) : s.FallsDue x (s.fallDue x) := by
  refine ⟨fun h1 h2 => ?_, fun h1 h2 => ?_, fun h => ?_⟩
  · simp [State.fallDue, h1, h2, State.leave, State.send]
  · have : (s.railOut.isNone && s.waitingLine.isEmpty) = false := by
      rcases h1 with h1 | h1 <;> simp [h1]
    simp [State.fallDue, this, h2]
  · have h1 : s.waitingLine ≠ [] := by rintro h1; simp [h1] at h
    simp [State.fallDue, h1, Nat.not_lt.mpr h]

/-! ### Free positions -/

/-- The frame that a free position takes and the queue it leaves (R9, R14). -/
theorem takeFree_takes (queue : List Sequence) : FreeTakes queue (takeFree queue).1 (takeFree queue).2 := by
  refine ⟨fun h => by subst h; exact ⟨rfl, rfl⟩, fun q rest h => ⟨fun k hk => ?_, fun hk => ?_⟩⟩
  · simp [h, takeFree, hk, LineItem.frame, RailFrame.answerWindow]
  · simp [h, takeFree, hk]

theorem State.freePosition_of_rest {s : State} (h : s.part = .rest) : s.freePosition = s := by
  simp [State.freePosition, h]

/-- A free position that is not discarded (R6, R9). -/
theorem State.freePosition_of_room {s : State} (h : s.part ≠ .rest) (hf : s.lineFull = false) :
    s.freePosition =
      State.position { s with insertionQueue := (takeFree s.insertionQueue).2 } (takeFree s.insertionQueue).1 := by
  simp [State.freePosition, h, hf]

theorem State.lineFull_of_unshared {s : State} (h : s.Unshared) : s.lineFull = false := by
  obtain ⟨h1, h2⟩ := h
  rcases h1 with h1 | h1 | h1 <;> simp [State.lineFull, State.sharing, h1]
  intro hw; exact absurd (h2 h1) hw

/-- While nothing waits a free position sends the frame it takes. -/
theorem State.freePosition_of_unshared {s : State} (h : s.Unshared) :
    s.freePosition =
      State.leave { s with insertionQueue := (takeFree s.insertionQueue).2 } (takeFree s.insertionQueue).1 := by
  have hr : s.part ≠ .rest := by rcases h.1 with h1 | h1 | h1 <;> simp [h1]
  rw [State.freePosition_of_room hr (State.lineFull_of_unshared h)]
  exact State.position_of_unshared (s := { s with insertionQueue := (takeFree s.insertionQueue).2 }) h _

/-- A free position on the shared output: its frame falls due, or, while two wait, it takes none (R10). -/
theorem State.freePosition_of_shared {s : State} (h : s.Shared) :
    s.freePosition = if s.waitingLine.length < 2 then
      State.fallDue { s with insertionQueue := (takeFree s.insertionQueue).2 } (takeFree s.insertionQueue).1
      else s := by
  have hs : s.sharing = true := by
    rcases h with h | ⟨h, hw⟩
    · simp [State.sharing, h]
    · simp [State.sharing, h, hw]
  have hr : s.part ≠ .rest := by rcases h with h | ⟨h, _⟩ <;> simp [h]
  by_cases hl : s.waitingLine.length < 2
  · have hf : s.lineFull = false := by simp [State.lineFull, hl]
    rw [State.freePosition_of_room hr hf, if_pos hl]
    exact State.position_of_shared (s := { s with insertionQueue := (takeFree s.insertionQueue).2 }) h _
  · simp [State.freePosition, State.lineFull, hs, hl, Nat.not_lt.mp hl]

/-! ### The idle step -/

/-- A tick at a port: at most its module begins to send, where the hub listens and nothing leaves (log entry 18). -/
theorem Port.moduleTick_cases (q : Port) (begins : Bool) :
    q.moduleTick begins = q ∨
      (q.moduleTick begins = { q with moduleSending := true } ∧ q.state ≠ .off ∧ q.leaving = none) := by
  cases begins
  · left; simp [Port.moduleTick]
  · by_cases h : q.state ≠ .off ∧ q.leaving = none
    · right; exact ⟨by simp [Port.moduleTick, h], h⟩
    · left
      have : (decide (q.state ≠ .off) && q.leaving.isNone) = false := by
        rw [Bool.eq_false_iff]
        intro h1
        simp only [Bool.and_eq_true, decide_eq_true_eq, Option.isNone_iff_eq_none] at h1
        exact h h1
      simp only [Port.moduleTick, this, Bool.false_and, Bool.or_false]

/-- The port records after a tick. -/
theorem State.port_tick (s : State) (p : PortIx) :
    s.tick.port p = (s.port p).moduleTick (Config.moduleBegins s.free p) := by simp [State.tick]

/-- What a tick leaves as it is. -/
theorem State.tick_same (s : State) :
    s.tick = { s with
      now := s.now + 1, free := s.free + 1, pending := s.tick.pending, ports := s.tick.ports } := rfl

end Sys2Proof.Machine
end

