-- ==== Sys2Proof/Tests/Slice0.lean ====
section
/-! SUPPORT. Small tests: the refusals of the well-formedness check, words written out from the spec's layouts, and for each
statement of Certificates/Slice0/Obligations.lean states and operands that meet its hypotheses. -/

namespace Sys2Proof.Tests

open Sys2Proof.Machine

set_option maxRecDepth 20000

/-! ### Well-formedness -/

theorem test_slot24IsIllFormed : (Instr.driveFrame 24 0 false false false).wellFormed = false := by decide

theorem test_slot23IsWellFormed : (Instr.driveFrame 23 0 false false false).wellFormed = true := by decide

theorem test_address0IsIllFormed : (Instr.carAnswerWindowClose 0 true).wellFormed = false := by decide

theorem test_address25IsIllFormed : (Instr.carAnswerWindowClose 25 true).wellFormed = false := by decide

theorem test_addresses1And24AreWellFormed :
    (Instr.carAnswerWindowClose 1 true).wellFormed = true ∧ (Instr.carAnswerWindowClose 24 true).wellFormed = true := by
  decide

/-! ### Words of the spec's worked examples and layouts -/

/-- The table's rows give no bits. -/
theorem test_noWordSpellsACommand : decodeTableWord 24 0x00000F = none := rfl

/-- Section 1.1: slot 3 (00011), throttle 45 (101101), brake 0, lane 1, pair 0. -/
theorem test_driveWord : upstreamCommand 0x21DA8D = .driveFrame 3 45 false true false := by decide

/-- Section 1.1: car 7 (00111), step 9 (1001), brake 0, lamp 1. -/
theorem test_carWord : (RailFrame.car 6 9 false true).word = 0x53CA01 := by decide

/-- Section 9.7: code 000111, count 11, argument 01100010; the reply's code 000111, status OK, count 3. -/
theorem test_requestWords : upstreamCommand 0x31F624 = .headFrame 0x07 3 0x62 ∧
    (ReturnFrame.reply 0x07 .ok 3).word = 0x71C182 := by decide

/-- R1: the hub's FILL frame and its own CYCLE frame. -/
theorem test_ownWords : RailFrame.fill.word = 0x00000F ∧ ownCycle.word = 0x1C0002 := by decide

/-- Section 1.7: APPROACH of car 7, type 2, argument 0x07, check 6; the check byte of an identity. -/
theorem test_portWords : shortCommand 3 0x2076 = .approach 3 7 ∧ identityCheck 0x00A1B2C3D4E5F607 = 0x33 := by decide

/-- A CYCLE frame of GREEN (01), lane changes enabled (1) and console bits 0x0005 has body 0x6005 and check 3. -/
theorem test_cycleWord : upstreamCommand 0x160053 = .cycleFrame .green true 5 := by decide

/-- One nibble wrong, a reserved kind and a DRIVE frame of slot 24. -/
theorem test_erroneousWords : upstreamCommand 0x160054 = .frameError ∧ upstreamCommand 0x50000A = .kindError ∧
    upstreamCommand 0x2C0001 = .frameError := by decide

/-! ### A racing hub -/

/-- A port of a role in a state. -/
def portIn (p : PortIx) (role : Role) (state : PortState) : Port := { Port.reset p with role := role, state := state }

/-- Ports 0 to 4 and 10 to 11 are SWITCH, 5, 6, 7 and 12 BAY, 8 and 9 DELEGATED, 13 to 15 UNUSED. -/
def benchPort (p : PortIx) : Port :=
  match p.val with
  | 0 => portIn p .switch .straight
  | 1 => { portIn p .switch .throwing with flapAwaiting := true, leaving := some .throw }
  | 2 => portIn p .switch .thrown
  | 3 => { portIn p .switch .returning with flapDue := some 60 }
  | 4 => { portIn p .switch .fault with faultCode := some 3 }
  | 5 | 6 | 7 => portIn p .bay .ready
  | 8 => portIn p .delegated .ready
  | 9 => portIn p .delegated .mismatch
  | 10 => { portIn p .switch .resetting with resetDue := some 100 }
  | 11 => portIn p .switch .absent
  | 12 => { portIn p .bay .resetting with resetDue := some 100 }
  | _ => Port.reset p

/-- Car 1 is bound to slot 0 and ARMED, car 2 reserved by port 6, car 3 LOST, car 4 KNOWN, car 5 bound and crossing, car 7
reserved by port 12; the others are FREE. -/
def benchCar (a : CarIx) : Car :=
  match a.val with
  | 0 => { Car.reset with identity := some 7, holder := some 0, armed := true, fine := 100 }
  | 1 => { Car.reset with reservation := some 6, faults := 128, link := .passive }
  | 2 => { Car.reset with holder := some 2, link := .lost, faults := 255, streak := 23 }
  | 3 => { Car.reset with identity := some 9, faults := 95 }
  | 4 => { Car.reset with holder := some 4, faults := 96, link := .warn }
  | 6 => { Car.reset with reservation := some 12 }
  | _ => Car.reset

/-- The slots of those cars, and the slots that sessions claim. -/
def benchSlot (h : SlotIx) : Slot :=
  match h.val with
  | 0 => { Slot.reset with binding := some 0 }
  | 2 => { Slot.reset with binding := some 2 }
  | 4 => { Slot.reset with binding := some 4 }
  | 6 => { Slot.reset with claim := some 6 }
  | 12 => { Slot.reset with claim := some 12 }
  | _ => Slot.reset

/-- The session of port 6, SENDING. -/
def sendingSession : Session := ⟨.sending, some 6, some 11, some 1, 1, none, none, none⟩

/-- Port 5 waits without slot and identity, port 6 sends, port 7 shows a success, port 12 is queued. -/
def benchSession (p : PortIx) : Option Session :=
  match p.val with
  | 5 => some ⟨.waiting, none, none, none, 0, some 30000, none, none⟩
  | 6 => some sendingSession
  | 7 => some ⟨.showDone, some 0, some 7, some 0, 0, none, some 2000, some .done⟩
  | 12 => some ⟨.queued, some 12, some 13, some 6, 0, none, none, none⟩
  | _ => none

/-- Zones 1 and 2 hold the entries that the flaps of ports 1 and 2 serve, zone 3 has a guard. -/
def benchZone (z : ZoneIx) : Zone :=
  match z.val with
  | 1 => { Zone.reset with entries := [⟨some 4, 1, 1500, none⟩] }
  | 2 => { Zone.reset with entries := [⟨some 5, 2, 1500, none⟩], conflict := true }
  | 3 => { Zone.reset with guard := some ⟨9, 300⟩ }
  | _ => Zone.reset

/-- A hub in RUN under GREEN with lane changes enabled, at tick 0. -/
def bench : State :=
  { State.reset with
    pending := [.fillFrame], part := .run, startupDue := none, silenceDue := some 250, race := .green, laneEnable := true
    directFallback := true, slots := Vector.ofFn benchSlot, cars := Vector.ofFn benchCar, ports := Vector.ofFn benchPort
    sessions := Vector.ofFn benchSession, zones := Vector.ofFn benchZone
    insertionQueue := [⟨6, 11, 1, 4⟩], queueWaiting := [12], defaultBay := some 7 }

/-- The same hub at a tick that every deadline of it has come at. -/
def late : State := { bench with now := 30000 }

/-- The state after a command. -/
def after (c : Instr) (s : State) : State :=
  match exec c s with
  | .next t => t
  | .fault _ => s
  | .refused _ => s

/-! ### The laws' hypotheses, met by the racing hub: it takes a step, and its records are lawful -/

theorem test_benchStepsMirroredDistinctArmed : (∃ t, step bench = .next t) ∧ bench.Mirrored ∧ bench.ArmedLawful := by
  refine ⟨⟨_, rfl⟩, ?_, ?_⟩
  · unfold State.Mirrored; decide
  · unfold State.ArmedLawful; decide

theorem test_benchLinks : bench.LinksLawful := by unfold State.LinksLawful Car.LinkLawful; decide

theorem test_benchIdentities : bench.IdentitiesDistinct := by
  have h : ∀ a b : CarIx, (bench.car a).identity.isSome → (bench.car a).identity = (bench.car b).identity → a = b := by decide
  intro a b id ha hb
  exact h a b (by simp only [ha, Option.isSome_some]) (ha.trans hb.symm)

theorem test_benchRanges : bench.SpeedsInRange ∧ bench.CountersInRange ∧ bench.BuffersLawful := by
  refine ⟨?_, by unfold State.CountersInRange; decide, ?_⟩
  · unfold State.SpeedsInRange; decide
  · refine ⟨by decide, by decide, by decide, by decide, ?_⟩
    intro r h
    cases h

theorem test_benchZonesAndPorts : bench.ListsLawful ∧ bench.PortsLawful ∧ bench.FlapsServeEntries := by
  refine ⟨?_, ?_, ?_⟩
  · unfold State.ListsLawful; decide
  · unfold State.PortsLawful Port.Lawful SectionConfig.InRange Counters.InRange; decide
  · unfold State.FlapsServeEntries; decide

theorem test_benchSessions : bench.SessionsLawful := by
  refine ⟨by decide, ?_, ?_, ?_⟩
  · have h : ∀ p, ∀ x ∈ bench.session p, x.Lawful := by unfold Session.Lawful; decide
    exact h
  · have h : ∀ h p, (bench.slot h).claim = some p ↔ ∃ x ∈ bench.session p, x.state.isOpen = true ∧ x.slot = some h := by
      decide
    exact h
  · have h : ∀ a p, (bench.car a).reservation = some p ↔
        ∃ x ∈ bench.session p, x.state.holdsCar = true ∧ x.address = some a := by decide
    exact h

theorem test_benchQueue : bench.QueueLawful := by
  refine ⟨by decide, by decide, ?_, ?_, ?_, fun _ => ?_⟩
  · have h : ∀ p ∈ bench.queueWaiting, ∃ x ∈ bench.session p, x.state = .queued := by decide
    exact h
  · have h : ∀ q ∈ bench.insertionQueue, q.sent ≤ 4 ∧ ∃ x ∈ bench.session q.port, x.state = .sending ∧
        x.identity = some q.identity ∧ x.address = some q.address := by decide
    exact h
  · intro p h
    cases h
  · have h : ∀ p, ∀ x ∈ bench.session p, x.state.holdsCar = true → p ∈ bench.pairingPorts := by decide
    exact h

theorem test_benchPart : bench.RestLawful ∧ bench.DeadlinesLawful ∧ bench.StrapHolds := by
  refine ⟨⟨?_, fun _ => by decide⟩, by unfold State.DeadlinesLawful; decide, ?_⟩
  · intro h
    cases h
  · intro h
    cases h

/-! ### The hypotheses of the other statements, met clause by clause -/

/-- StepTakesTheFrontCommand. -/
theorem test_aCommandWaits : bench.pending = .fillFrame :: [] := rfl

/-- IdleStepIsOneTick: the settle comes at the tick it falls on and not before it; while the reset is held nothing does. -/
theorem test_idleTicks : State.reset.pending = [] ∧ State.reset.resetHeld = false ∧
    State.dueEvents { State.reset with now := 199 } = [] ∧
    State.dueEvents { State.reset with now := 200 } = [.startUpSettleExpiry] ∧
    (State.reset.idle).now = 1 ∧ (State.reset.idle.port 0).moduleSending = false ∧
    step { State.reset with resetHeld := true } = .next { State.reset with resetHeld := true } := by
  refine ⟨rfl, rfl, by decide, by decide, rfl, by decide, rfl⟩

/-- IdleStepIsOneTick: a module begins to send where the free value has it so, and a message issued then waits. -/
theorem test_moduleBegins : ((portIn 0 .switch .straight).moduleTick true).moduleSending = true ∧
    (((portIn 0 .switch .straight).moduleTick true).issue .throw).waiting = [.throw] ∧
    ((Port.reset 0).moduleTick true).moduleSending = false := by decide

/-- ResetSourcesHoldTheReset: a held reset, a command that is not a reset; one of the sources. -/
theorem test_heldReset : (after .powerOn bench).resetHeld = true ∧ isResetCommand .fillFrame = false ∧
    (after .resetPinAssertion bench).cause = ⟨true, true, false, false⟩ ∧
    (after .supplyDip (after .powerOn bench)).cause = ⟨true, false, true, false⟩ := by decide

/-- ReleaseGivesTheHardResetValues. -/
theorem test_releaseAfterPowerOn : State.reset.pending = [] ∧ State.reset.free = 0 ∧
    (after (.internalResetRelease true) (after .powerOn bench)).directFallback = true := by decide

/-- SoftResetKeepsConfigurationAlone: a port that is OFF, one that is not. -/
theorem test_softResetBench : bench.TakesRequests ∧ (bench.port 15).state = .off ∧ (bench.port 0).state ≠ .off ∧
    (after .softReset { bench with window := some (.assign 6) }).window = some (.abandoned 6) ∧
    (after .softReset { bench with closing := [.car 3] }).closing = [.car 3] := by
  unfold State.TakesRequests; decide

/-- The same with a DORMANT port. -/
theorem test_softResetDormant : State.TakesRequests { bench with
      part := .rest, ports := bench.ports.set 0 (portIn 0 .switch .dormant) } ∧
    (State.port { bench with ports := bench.ports.set 0 (portIn 0 .switch .dormant) } 0).state = .dormant := by
  unfold State.TakesRequests; decide

/-- FramesAreCheckedAndClassified: an unsound word, a CYCLE and an AUX frame, the kinds 5, 11 and 15, slots 23 and 24. -/
theorem test_frameKinds : sound 0x160054 = false ∧ upstreamCommand 0x160053 = .cycleFrame .green true 5 ∧
    upstreamCommand (frameOf 12 1) = .auxFrame 0 1 ∧ upstreamCommand (frameOf 5 0) = .kindError ∧
    upstreamCommand (frameOf 11 0) = .kindError ∧ upstreamCommand (frameOf 15 0) = .kindError ∧
    upstreamCommand (frameOf 2 0xB800) = .driveFrame 23 0 false false false ∧
    upstreamCommand (frameOf 2 0xC000) = .frameError ∧ (RailFrame.assign 23).word = 0x6C000D := by decide

/-- PortMessagesAreClassified: a wrong check, the types 0, 11 and 15, the kinds 0 and 3. -/
theorem test_portMessages : shortCommand 0 0x2075 = .portLineError 0 ∧
    shortCommand 0 (shortMessage 0 0) = .portLineError 0 ∧ shortCommand 0 (shortMessage 11 0) = .portLineError 0 ∧
    shortCommand 0 (shortMessage 15 0) = .portLineError 0 ∧ shortCommand 0 (shortMessage 1 0x01) = .portLineError 0 ∧
    shortCommand 0 (shortMessage 1 0xC0) = .hello 0 .external false ∧
    HubMsg.throw.word = 0x100E ∧ (HubMsg.lamp .fast).word = 0x3039 := by decide

/-- FreePositionsCarryTheInsertionQueue: in STARTUP with an empty queue, in RUN with the ASSIGN and with a SELECT to send. -/
theorem test_unsharedPositions : State.reset.Unshared ∧ State.reset.assembly = none ∧ State.reset.insertionQueue = [] ∧
    bench.Unshared ∧ bench.insertionQueue = [⟨6, 11, 1, 4⟩] ∧
    (after .fillFrame bench).railOut = some (.assign 1) ∧
    (after .fillFrame { bench with insertionQueue := [⟨6, 11, 1, 0⟩] }).railOut = some (.select 0 11) ∧
    (after .fillFrame { bench with insertionQueue := [⟨6, 11, 1, 3⟩] }).railOut = some (.select 3 0) := by
  unfold State.Unshared; decide

/-- A hub in HALT. -/
def halted (railOut : Option RailFrame) (waiting : List LineItem) : State :=
  { bench with part := .halt, silenceDue := none, ownCycleDue := some 20, railOut := railOut, waitingLine := waiting }

/-- SharedOutputKeepsAWaitingLineOfTwo: an output free, busy, with one and with two frames waiting. -/
theorem test_sharedOutput : (halted none []).part = .halt ∧
    (after (.auxFrame 0 1) (halted none [])).railOut = some (.aux 0 1) ∧
    (after (.auxFrame 0 1) (halted (some .fill) [])).waitingLine = [.frame (.aux 0 1)] ∧
    (after (.auxFrame 0 1) (halted (some .fill) [.frame .fill])).waitingLine = [.frame .fill, .frame (.aux 0 1)] ∧
    (after (.auxFrame 0 1) (halted (some .fill) [.frame .fill, .frame .fill])).waitingLine =
      [.frame .fill, .frame .fill] := by decide

/-- The same for free positions, which take the ASSIGN frame as they arrive, and for the CYCLE frame that ends HALT. -/
theorem test_sharedFreePositions : (halted none []).Shared ∧
    (after .fillFrame (halted none [])).window = some (.assign 6) ∧
    (after .fillFrame (halted (some .fill) [])).waitingLine = [⟨.assign 1, some (.assign 6)⟩] ∧
    (after .fillFrame (halted (some .fill) [])).insertionQueue = [] ∧
    (after .fillFrame (halted (some .fill) [.frame .fill, .frame .fill])).insertionQueue = [⟨6, 11, 1, 4⟩] ∧
    (after (.cycleFrame .green true 5) (halted (some .fill) [])).waitingLine = [.frame (.cycle .green true 5)] ∧
    (after (.cycleFrame .green true 5) (halted (some .fill) [.frame .fill, .frame .fill])).part = .run := by
  refine ⟨Or.inl rfl, by decide, by decide, by decide, by decide, by decide, by decide⟩

/-- A session that is cancelled while its ASSIGN frame waits: the frame leaves, and its result is discarded (R14, R82). -/
theorem test_cancelledWhileWaiting :
    (after (.pairCancel 6) (halted (some .fill) [⟨.assign 1, some (.assign 6)⟩])).waitingLine =
      [⟨.assign 1, some (.abandoned 6)⟩] := by decide

/-- SharedOutputKeepsAWaitingLineOfTwo, the output becoming free: the hypotheses of its clauses on RAIL_OUTPUT_FREE. -/
theorem test_railOutputFree : after .railOutputFree { bench with window := some (.car 0) } =
      { bench with window := some (.car 0) } ∧
    (after .railOutputFree (halted (some .fill) [])).railOut = none ∧
    (after .railOutputFree (halted (some .fill) [.frame (.car 3 0 true false)])).window = some (.car 3) ∧
    (after .railOutputFree (halted (some .fill) [⟨.assign 1, some (.assign 6)⟩])).window = some (.assign 6) := by decide

/-- A request of two data words under assembly, one word of it taken. -/
def partialRequest : Assembly := ⟨0x0F, 2, 1, [0x0100]⟩

/-- ErroneousFramesAreCountedAndDiscarded and InterruptedRequestsAreAnsweredMalformed. -/
theorem test_erroneousFrames : bench.assembly = none ∧ (after .frameError bench).frameErrors = 1 ∧
    (after (.driveFrame 24 0 false false false) { bench with frameErrors := 65535 }).frameErrors = 65535 ∧
    (after .kindError bench).kindErrors = 1 ∧ (after .kindError bench).railOut = some (.assign 1) ∧
    (after .frameError bench).window = some (.assign 6) ∧ (after .frameError (halted (some .fill) [])).waitingLine.length = 1 ∧
    (after .fillFrame { bench with assembly := some partialRequest }).replies = [⟨0x0F, .malformed, []⟩] ∧
    (bench.interrupted partialRequest).replies = [⟨0x0F, .malformed, []⟩] ∧
    (after (.headFrame 1 3 0) { bench with
      assembly := some partialRequest, replies := List.replicate 4 ⟨1, .ok, []⟩ }).dropped = 1 := by decide

/-- CycleFrameOpensAReturnWindow: no reply, one reply, an interrupted request with 0, 3 and 4 replies. -/
theorem test_returnWindows : (after (.cycleFrame .green true 0) bench).returnWindow = [.attention 0] ∧
    (after (.cycleFrame .green true 0) { bench with replies := [⟨2, .ok, [5]⟩] }).returnWindow =
      [.reply 2 .ok 1, .data 5] ∧
    ({ bench with assembly := some partialRequest } : State).resetHeld = false ∧
    ({ bench with assembly := some partialRequest, replies := List.replicate 3 ⟨1, .ok, []⟩ } : State).replies.length < 4 ∧
    4 ≤ ({ bench with assembly := some partialRequest, replies := List.replicate 4 ⟨1, .ok, []⟩ } : State).replies.length := by
  decide

/-- CycleFrameWritesTheRaceRecord in each part state. -/
theorem test_cycleFrames : bench.resetHeld = false ∧ bench.assembly = none ∧
    (after (.cycleFrame .green true 0) bench).cars = bench.cars ∧
    (after (.cycleFrame .green true 0) { bench with window := some (.car 0) }).closing = [.car 0] ∧
    ((after (.cycleFrame .caution true 0) bench).car 0).armed = false ∧
    (after (.cycleFrame .green true 0) (halted none [])).part = .run ∧
    (after (.cycleFrame .green true 0) { bench with part := .rest }).part = .waking ∧
    (after (.cycleFrame .green true 0) State.reset).part = .startup := by decide

/-- A hub at rest, port 0 DORMANT. -/
def resting : State :=
  { State.reset with
    part := .rest, startupDue := none, ports := State.reset.ports.set 0 (portIn 0 .switch .dormant) }

/-- RestSendsNothingToTheRails. -/
theorem test_restIsSilent : resting.resetHeld = false ∧ resting.part = .rest ∧ resting.insertionQueue = [] ∧
    resting.assembly = none ∧ (after .fillFrame resting).railOut = none ∧
    (after (.driveFrame 0 63 false true false) resting).slots = resting.slots ∧
    (after (.headFrame 0x1C 0 0) resting).railOut = none := by decide

/-- The same, the whole law of REST. -/
theorem test_restIsLawful : resting.RestLawful := by
  refine ⟨fun _ => ⟨by decide, ?_, rfl⟩, fun h => absurd rfl h⟩
  have h : ∀ p, ∀ x ∈ resting.session p, x.state = .closed := by decide
  exact h

/-- RequestsAreAssembledWordByWord: a HEAD that announces one word, a DATA frame without a request, the word before the last. -/
theorem test_assembly : (after (.headFrame 0x0F 1 1) bench).assembly = some ⟨0x0F, 1, 1, []⟩ ∧
    exec (.dataFrame 5) bench = exec .fillFrame bench ∧
    (after (.dataFrame 5) { bench with assembly := some ⟨7, 3, 0x62, [1]⟩ }).assembly = some ⟨7, 3, 0x62, [1, 5]⟩ := by
  refine ⟨by decide, rfl, by decide⟩

/-- FramesRunTheRequestTheySpell: IDENT by its HEAD frame, ZONE_WRITE by its DATA frame. -/
theorem test_framedRequests : framedRequest 1 0 0 0 0 = some .ident ∧ requestDataCount .ident = 0 ∧
    framedRequest 0x0B 3 2 0 0 = some (.zoneWrite 3 2) ∧ requestDataCount (.zoneWrite 3 2) = 1 ∧
    State.reset.insertionQueue = [] ∧ bench.insertionQueue ≠ [] ∧
    ((after (.dataFrame 2) { State.reset with assembly := some ⟨0x0B, 1, 3, []⟩ }).zone 3).capacity = 2 := by decide

/-- UnknownAndMiscountedRequestsAreAnswered: code 30, IDENT with one word too many, a full queue. -/
theorem test_refusedRequests : framedRequest 0x1E 0 0 0 0 = none ∧ framedRequest 0 0 0 0 0 = none ∧
    (after (.headFrame 0x1E 0 0) State.reset).replies = [⟨0x1E, .unknown, []⟩] ∧
    (after (.dataFrame 0) { State.reset with assembly := some ⟨1, 1, 0, []⟩ }).replies = [⟨1, .malformed, []⟩] ∧
    (after (.headFrame 1 0 0) { State.reset with replies := List.replicate 4 ⟨1, .ok, []⟩ }).dropped = 1 := by decide

/-- The same while a sequence is queued: the position sends its ASSIGN frame in either order. -/
theorem test_refusedRequestBesideSequence : bench.assembly = none ∧ bench.insertionQueue ≠ [] ∧ bench.replies.length < 4 ∧
    exec (.headFrame 0x1E 0 0) bench = .next { after .fillFrame bench with
      free := 1, replies := [⟨0x1E, .unknown, []⟩] } := by
  refine ⟨rfl, by decide, by decide, ?_⟩
  change Host.Outcome.next (if Config.requestBeforePosition 0 then _ else _) = _
  cases Config.requestBeforePosition 0 <;> rfl

/-- The bench with an answer window open. -/
def windowed (w : AnswerWindow) : State :=
  { bench with window := some w, railOut := some .fill, insertionQueue := [], queueWaiting := [] }

/-- The only window of `windowed w` closes. -/
theorem windowed_closes (f : AnswerWindow → Prop) (w : AnswerWindow) (h : f w) :
    (windowed w).Closes f w { windowed w with window := none, railOut := none } :=
  ⟨h, Or.inr ⟨fun _ hv => absurd hv List.not_mem_nil, rfl, rfl⟩⟩

/-- AnswerResultsMoveTheLinkState: a window closes; counts 95, 96, 128, 255 and LOST at streak 23; results at the edges. -/
theorem test_answerResults :
    (windowed (.car 3)).Closes (fun w => w = .car 3) (.car 3) { windowed (.car 3) with window := none, railOut := none } ∧
    (∀ a : CarIx, (bench.car a).LinkLawful) ∧
    (((after (.carAnswerWindowClose 4 false) (windowed (.car 3))).car 3).link = .warn ∧
      (after (.carAnswerWindowClose 4 false) (windowed (.car 3))).lastCar = some 3) ∧
    ((after (.carAnswerWindowClose 5 true) (windowed (.car 4))).car 4).link = .active ∧
    ((after (.carAnswerWindowClose 3 true) (windowed (.car 2))).car 2).link = .active ∧
    ((after (.carAnswerWindowClose 3 false) (windowed (.car 2))).car 2).streak = 0 := by
  refine ⟨windowed_closes _ _ rfl, by unfold Car.LinkLawful; decide, by decide, by decide, by decide, by decide⟩

/-- The counts 247 and 248, from which a silence gives 255 and LOST. -/
theorem test_lastSilences : Car.LinkLawful { Car.reset with faults := 247, link := .passive } ∧
    Car.LinkLawful { Car.reset with faults := 248, link := .passive } ∧
    ((after (.carAnswerWindowClose 8 false) { windowed (.car 7) with
      cars := bench.cars.set 7 { Car.reset with faults := 247, link := .passive } }).car 7).link = .passive ∧
    ((after (.carAnswerWindowClose 8 false) { windowed (.car 7) with
      cars := bench.cars.set 7 { Car.reset with faults := 248, link := .passive } }).car 7).link = .lost := by
  unfold Car.LinkLawful; decide

/-- AnAnsweredAssignCommitsThePairing. -/
theorem test_assignAnswered :
    (windowed (.assign 6)).Closes (AnswerWindow.OfPort 6) (.assign 6)
      { windowed (.assign 6) with window := none, railOut := none } ∧
    (windowed (.assign 6)).session 6 = some sendingSession ∧ sendingSession.state = .sending ∧
    sendingSession.slot = some 6 ∧ sendingSession.address = some 1 ∧ sendingSession.identity = some 11 ∧
    ((after (.assignAnswerWindowClose 6 true) (windowed (.assign 6))).slot 6).binding = some 1 := by
  refine ⟨windowed_closes _ _ (Or.inl rfl), by decide, rfl, rfl, rfl, rfl, by decide⟩

/-- SilentAttemptsRepeatAndTheThirdFails: the second and the third silence, a place free, none free, none waiting. -/
theorem test_assignSilent :
    (after (.assignAnswerWindowClose 6 false) (windowed (.assign 6))).insertionQueue = [⟨6, 11, 1, 0⟩] ∧
    ((after (.assignAnswerWindowClose 6 false) { windowed (.assign 6) with
      sessions := bench.sessions.set 6 (some { sendingSession with attempts := 2 }) }).session 6).map Session.outcome =
        some (some .noAnswer) ∧
    bench.queueWaiting = [12] ∧ bench.insertionQueue.length < 3 ∧
    (after .insertionQueuePlace bench).insertionQueue = [⟨6, 11, 1, 4⟩, ⟨12, 13, 6, 0⟩] ∧
    after .insertionQueuePlace { bench with insertionQueue := List.replicate 3 ⟨6, 11, 1, 0⟩ } =
      { bench with insertionQueue := List.replicate 3 ⟨6, 11, 1, 0⟩ } := by decide

/-- ResultsWithoutATakerChangeNoRecord: no window owed, an abandoned one, one of a session that is not SENDING. -/
theorem test_resultsWithoutATaker : bench.closing = [] ∧ bench.window = none ∧
    (windowed (.abandoned 6)).Closes (AnswerWindow.OfPort 6) (.abandoned 6)
      { windowed (.abandoned 6) with window := none, railOut := none } ∧
    (windowed (.assign 7)).Closes (AnswerWindow.OfPort 7) (.assign 7)
      { windowed (.assign 7) with window := none, railOut := none } ∧
    (∀ x ∈ bench.session 7, x.state ≠ .sending) ∧
    after (.carAnswerWindowClose 0 true) bench = bench ∧ after (.assignAnswerWindowClose 6 true) bench = bench := by
  refine ⟨rfl, rfl, windowed_closes _ _ (Or.inr rfl), windowed_closes _ _ (Or.inl rfl), by decide, by decide, by decide⟩

/-- ACarsDrivingSlotIsTheOneThatResolvesToIt: a bound slot, a slot with its direct-path car, one without. -/
theorem test_resolves : (bench.slot 0).binding = some 0 ∧ bench.resolve 0 = some 0 ∧ (bench.slot 3).binding = none ∧
    bench.resolve 3 = some 3 ∧ bench.resolve 1 = none ∧ bench.drivingSlot 3 = some 3 := by decide

/-- DriveFramesAreHandledInOrder and SpeedStepsObeyEveryCap: resolved to no car, to a car that runs, to a LOST car; the least
cap of car 1 is its limit. -/
theorem test_driveFrames : bench.resolve 1 = none ∧ bench.resolve 0 = some 0 ∧ bench.resolve 2 = some 2 ∧
    bench.part ≠ .rest ∧ bench.race = .green ∧ (bench.car 0).link = .active ∧ (bench.car 2).link = .lost ∧
    (after (.driveFrame 0 63 false false false) bench).railOut = some (.car 0 8 false true) ∧
    (after (.driveFrame 0 63 true true false) bench).railOut = some (.car 0 0 true false) ∧
    (after (.driveFrame 2 63 false true false) bench).railOut = some (.car 2 0 true false) := by decide

/-- The least cap of a car in no entry is its limit, that of a car crossing the cross cap of its section. -/
theorem test_leastCaps : (bench.CapsCar 0 255 ∧ ∀ c, bench.CapsCar 0 c → 255 ≤ c) ∧
    (bench.CapsCar 4 160 ∧ ∀ c, bench.CapsCar 4 c → 160 ≤ c) := by
  have h : ∀ a : CarIx, ∀ z, ∀ e ∈ (bench.zone z).entries, e.car = some a → a ≠ 0 ∧ 160 ≤ (bench.port e.port).config.cap := by
    decide
  refine ⟨⟨Or.inl (by decide), ?_⟩, ⟨Or.inr (Or.inr ⟨1, ⟨some 4, 1, 1500, none⟩, by decide, rfl, by decide⟩), ?_⟩⟩
  · intro c hc
    rcases hc with hc | ⟨hc, _⟩ | ⟨z, e, he, ha, hc⟩
    · rw [hc]; decide
    · cases hc
    · exact absurd rfl (h 0 z e he ha).1
  · intro c hc
    rcases hc with hc | ⟨hc, _⟩ | ⟨z, e, he, ha, hc⟩
    · rw [hc]; decide
    · cases hc
    · rw [hc]; exact (h 4 z e he ha).2

/-- CurveValuesLieOnTheLine: the linear curve at 0, 1, 55, 56 and 63, and a falling segment whose half is rounded upward. -/
theorem test_curveValues : (∀ j : Fin 9, linearCurve[j] ≤ 255) ∧ curveValue linearCurve 0 = 0 ∧
    curveValue linearCurve 1 = 4 ∧ curveValue linearCurve 55 = 223 ∧ curveValue linearCurve 56 = 227 ∧
    curveValue linearCurve 63 = 255 ∧ curveValue #v[4, 0, 0, 0, 0, 0, 0, 0, 0] 1 = 4 := by decide

/-- GesturesJoinOrOpenASession: a slot with a claim; a waiting session; none waiting, a default bay whose session is shown,
open and absent. -/
theorem test_gestures : (bench.slot 6).claim ≠ none ∧ (bench.slot 0).claim = none ∧
    ((bench.gesture 0).slot 0).claim = some 5 ∧
    ((State.gesture { bench with sessions := bench.sessions.set 5 (some Session.fresh) } 0).slot 0).claim = some 7 ∧
    State.gesture { bench with sessions := bench.sessions.set 5 (some Session.fresh), defaultBay := some 6 } 0 =
      { bench with sessions := bench.sessions.set 5 (some Session.fresh), defaultBay := some 6 } ∧
    State.gesture { bench with sessions := bench.sessions.set 5 (some Session.fresh), defaultBay := none } 0 =
      { bench with sessions := bench.sessions.set 5 (some Session.fresh), defaultBay := none } := by decide

/-- A WAITING session of port 5 with slot 8 and an identity. -/
def waitingSession (id : Identity) : Session := ⟨.waiting, some 8, some id, none, 0, some 30000, none, none⟩

/-- IdentitiesAreLookedUpAndACarReserved: in use by another session, held by a reserved record, by a free one, by none. -/
theorem test_lookups : (bench.port 5).role = .bay ∧ (bench.port 5).state = .ready ∧
    ((after (.identity 5 0) bench).session 5).bind Session.identity = none ∧
    ((after (.identity 5 21) bench).session 5).bind Session.identity = some 21 ∧
    ((bench.lookup 5 (waitingSession 11) 11).session 5).bind Session.outcome = some .inUse ∧
    ((State.lookup { bench with cars := bench.cars.set 1 { benchCar 1 with identity := some 40 } } 5
      (waitingSession 40) 40).session 5).bind Session.outcome = some .inUse ∧
    ((bench.lookup 5 (waitingSession 7) 7).car 0).reservation = some 5 ∧
    ((bench.lookup 5 (waitingSession 21) 21).car 5).reservation = some 5 ∧
    ((State.lookup { bench with cars := Vector.ofFn fun a => { benchCar a with identity := some 50 } } 5
      (waitingSession 21) 21).session 5).bind Session.outcome = some .noAddress := by decide

/-- EveryRequestGivesOneReplyOrIsDropped and ThePartReportsItself. -/
theorem test_replies : bench.TakesRequests ∧ requestCode .ident = some 1 ∧
    (after .ident bench).replies = [⟨1, .ok, [0x2E71, 0x0624, 0x0011, 2]⟩] ∧
    (after .ident { bench with replies := List.replicate 4 ⟨1, .ok, []⟩ }).dropped = 1 ∧
    (after .softReset { bench with replies := List.replicate 3 ⟨1, .ok, []⟩ }).replies = [⟨0x1D, .ok, []⟩] ∧
    (after .cause State.reset).replies = [⟨4, .ok, [8]⟩] := by
  unfold State.TakesRequests; decide

/-- IdentifiersOutOfRangeAreRefused at the first values out of range. -/
theorem test_firstOutOfRange : RequestOutOfRange (.portMask 16 true) ∧ RequestOutOfRange (.portRole 0 4) ∧
    RequestOutOfRange (.sectionCounts 0 3 false) ∧ RequestOutOfRange (.zoneRead 8 0) ∧ RequestOutOfRange (.carRead 0) ∧
    RequestOutOfRange (.carRead 25) ∧ RequestOutOfRange (.unbind 24) ∧ RequestOutOfRange (.pairOpen 0 254 10) ∧
    RequestOutOfRange (.mode false true false 16) ∧ RequestOutOfRange (.curveWrite 3 9 0) := by
  refine ⟨by unfold RequestOutOfRange; decide, by unfold RequestOutOfRange; decide, by unfold RequestOutOfRange; decide,
    by unfold RequestOutOfRange; decide, by unfold RequestOutOfRange; decide, by unfold RequestOutOfRange; decide,
    by unfold RequestOutOfRange; decide, by unfold RequestOutOfRange; decide, by unfold RequestOutOfRange; decide,
    by unfold RequestOutOfRange; decide⟩

/-- BindMovesTheBinding: a reserved car, a car of another slot, the binding that stands. -/
theorem test_binds : (bench.car 1).reservation ≠ none ∧ (bench.car 0).reservation = none ∧
    ((after (.bind 4 1) bench).slot 4).binding = some 0 ∧ ((after (.bind 4 1) bench).slot 0).binding = none ∧
    ((after (.bind 4 1) bench).car 4).holder = none ∧ (bench.slot 4).binding = some 4 := by decide

/-- UnbindAndForgetRemoveTheBinding: slots without and with a binding; cars reserved, crossing, FREE and KNOWN. -/
theorem test_unbinds : (bench.slot 1).binding = none ∧ (bench.slot 0).binding = some 0 ∧
    (bench.car 1).reservation ≠ none ∧ bench.crossing 4 = true ∧ (bench.car 8).tenure = .free ∧
    (bench.car 3).tenure = .known ∧ bench.crossing 3 = false ∧ ((after (.forget 4) bench).car 3).identity = none := by decide

/-- CarAndSpeedSettingsAreWrittenAndRead: records with and without identity, the ends of each clamp. -/
theorem test_carSettings : (bench.car 0).identity = some 7 ∧ (bench.car 1).identity = none ∧
    ((after (.carWrite 24 0 3 0 255) bench).car 23).up = 1 ∧ ((after (.curveWrite 3 8 9) bench).curves[3])[8] = 9 ∧
    (after (.limits true true 5 0) bench).silenceTimeout = 50 ∧
    (after (.limits true true 5 101) bench).silenceTimeout = 1000 := by decide

/-- ModeWritesTheSelectedSettings: bays 15, 16 and 255; the fallback off under a high and under a low strap. -/
theorem test_modes : (after (.mode true true false 15) bench).defaultBay = some 15 ∧
    (after (.mode false true false 255) bench).defaultBay = none ∧
    (after (.mode true true false 16) bench).replies = [⟨0x1A, .badArg, []⟩] ∧
    (after (.mode true false false 16) { bench with strap := true }).replies = [⟨0x1A, .fixed, []⟩] := by decide

/-- PairOpenOpensAWaitingSession: at rest, at a port of another role, an open session, a slot with a claim, a shown one. -/
theorem test_pairOpens : resting.part = .rest ∧ resting.TakesRequests ∧ (bench.port 0).role ≠ .bay ∧
    (after (.pairOpen 5 255 4) bench).replies = [⟨0x15, .busy, []⟩] ∧
    (after (.pairOpen 7 6 4) bench).replies = [⟨0x15, .busy, []⟩] ∧
    (after (.pairOpen 7 23 4) bench).replies = [⟨0x15, .ok, [5]⟩] ∧
    (after (.pairOpen 7 255 121) bench).replies = [⟨0x15, .ok, [120]⟩] ∧
    (after (.pairRead 5 1) bench).replies = [⟨0x17, .notFound, []⟩] := by
  unfold State.TakesRequests; decide

/-- SessionsEndByCancelAndByTheirDeadlines. -/
theorem test_sessionEnds : bench.session 0 = none ∧ (after (.pairCancel 0) bench).replies = [⟨0x16, .wrongRole, []⟩] ∧
    (after (.pairCancel 7) bench).replies = [⟨0x16, .notFound, []⟩] ∧
    ((after (.pairCancel 5) bench).session 5).bind Session.outcome = some .cancelled ∧
    ((after (.windowDeadlineExpiry 5) late).session 5).bind Session.outcome = some .timeout ∧
    after (.windowDeadlineExpiry 5) bench = bench ∧ after (.windowDeadlineExpiry 6) late = late ∧
    after (.showDeadlineExpiry 5) late = late ∧ after (.showDeadlineExpiry 7) bench = bench ∧
    ((after (.showDeadlineExpiry 7) late).session 7).map Session.state = some .closed := by decide

/-- PortRoleStartsThePortAfresh: at rest, a fifth BAY port, a port with an entry, a BAY port with an open session, one whose
session is shown, one that becomes UNUSED. -/
theorem test_portRoles : resting.part = .rest ∧ bench.bayCount = 4 ∧
    (after (.portRole 0 2) bench).replies = [⟨5, .full, []⟩] ∧
    ((after (.portRole 1 1) bench).zone 1).entries = [] ∧
    ((after (.portRole 6 2) bench).session 6).bind Session.outcome = some .aborted ∧
    ((after (.portRole 7 1) bench).session 7) = none ∧ ((after (.portRole 0 0) bench).port 0).state = .off := by decide

/-- SectionRequestsWriteAndReadTheRecord: the roles, FAULT, a zone written while the port holds an entry, the clamps. -/
theorem test_sections : (after (.portMask 5 true) bench).replies = [⟨6, .wrongRole, []⟩] ∧
    ((after (.portMask 0 true) bench).port 0).masked = true ∧
    ((after (.sectionClear 4) bench).port 4).state = .returning ∧
    (after (.sectionClear 15) bench).replies = [⟨0x0A, .wrongRole, []⟩] ∧
    ((after (.sectionClear 8) bench).port 8).state = .ready ∧
    (after (.sectionWrite 1 2 0 0 0 0 0) bench).replies = [⟨7, .busy, []⟩] ∧
    ((after (.sectionWrite 1 1 0 0 255 255 0) bench).port 1).config = ⟨1, 0, 100, 2000, 250, 0⟩ := by decide

/-- ZoneRequestsWriteAndReadTheRecord: a capacity below and above the range, an entry that stands and one that does not. -/
theorem test_zones : ((after (.zoneWrite 7 0) bench).zone 7).capacity = 1 ∧
    ((after (.zoneWrite 7 4) bench).zone 7).capacity = 3 ∧ (bench.zone 1).entries[0]? = some ⟨some 4, 1, 1500, none⟩ ∧
    (bench.zone 1).entries[1]? = none ∧ (after (.zoneRead 1 1) bench).replies = [⟨0x0C, .ok, [0x9401, 1500]⟩] := by decide

/-- RestAndWakeSwitchThePart: refused, accepted, and WAKE in and out of REST. -/
theorem test_restAndWake : bench.TakesRequests ∧ (after .rest bench).part = .run ∧
    (after .rest { State.reset with part := .run }).part = .rest ∧ resting.TakesRequests ∧
    (after .wake resting).part = .waking ∧ (after .wake bench).part = .run := by
  unfold State.TakesRequests; decide

/-- LinesKeepTheOrderOfIssue: a free and a busy line, a flap command that starts the deadline, and a line without one. -/
theorem test_lines : ((bench.port 0).issue .throw).leaving = some .throw ∧
    ((bench.port 1).issue .straight).waiting = [.straight] ∧ (bench.port 1).leaving = some .throw ∧
    ((after (.flapCommandLeft 1) bench).port 1).flapDue = some 60 ∧
    ((after (.portLineFree 1) bench).port 1).flapDue = some 60 ∧ after (.flapCommandLeft 0) bench = bench ∧
    ((after (.flapCommandLeft 1) { bench with ports := bench.ports.set 1 ((bench.port 1).issue .straight) }).port 1).flapDue =
      none := by decide

/-- LineAndRoleErrorsAreCounted: an OFF port, a line error, role errors, an APPROACH at a DELEGATED port. -/
theorem test_portErrors : (bench.port 15).state = .off ∧ after (.portLineError 15) bench = bench ∧
    ((after (.portLineError 0) bench).port 0).errors = 1 ∧ ((after (.approach 5 1) bench).port 5).errors = 1 ∧
    ((after (.moving 8) bench).port 8).errors = 1 ∧ ((after (.selfThrow 0 1) bench).port 0).errors = 1 ∧
    ((after (.identity 8 1) bench).port 8).errors = 1 ∧ ((after (.approach 8 1) bench).port 8).errors = 0 := by decide

/-- A late report of the motion that PORT_ROLE cut off is ignored in RESETTING until a READY ends the motion (R95); with no motion
only a report of the same tick is ignored (R111); every other one is a role error (R93, R94). -/
theorem test_lateFlapReports :
    let s := { after (.portRole 1 3) bench with now := 9 }
    (s.port 1).state = .resetting ∧ (s.port 1).lateMotion = true ∧ after (.moving 1) s = s ∧
    ((after (.ready 1 true) s).port 1).errors = 0 ∧ ((after (.ready 1 true) (after (.ready 1 true) s)).port 1).errors = 1 ∧
    ((after (.moving 1) (after (.hello 1 .external false) s)).port 1).errors = 1 ∧
    ((after (.moving 1) (after (.resetDeadlineExpiry 1) { s with now := 100 })).port 1).errors = 1 ∧
    ((after (.moving 1) (after (.portRole 1 3) (after (.portRole 1 0) bench))).port 1).errors = 1 ∧
    ((after (.moving 12) bench).port 12).errors = 1 := by decide

/-- The same with the flap at rest when PORT_ROLE takes the role, and where a soft reset cuts the motion off first. -/
theorem test_flapReportsTogether :
    let s := after (.portRole 0 3) bench
    (s.port 0).lateMotion = false ∧ after (.moduleFault 0 4) s = s ∧
    ((after (.moduleFault 0 4) { s with now := 1 }).port 0).errors = 1 ∧
    ((after .softReset bench).port 1).lateMotion = true ∧ ((after .softReset bench).port 0).lateMotion = false := by decide

/-- HelloStartsOrRestartsThePort: start-up of each role, a mismatch, a restart, a DORMANT port. -/
theorem test_hellos : ((after (.hello 10 .switch false) bench).port 10).state = .straight ∧
    ((after (.hello 11 .switch true) bench).port 11).state = .returning ∧
    ((after (.hello 9 .external false) bench).port 9).state = .ready ∧
    ((after (.hello 12 .bay false) bench).port 12).leaving = some (.lamp .slow) ∧
    ((after (.hello 0 .bay false) bench).port 0).state = .mismatch ∧
    ((after (.hello 1 .switch false) bench).zone 1).entries = [] ∧ (resting.port 0).state = .dormant := by decide

/-- FlapReportsMoveTheFlapMachine: READY and MOVING in each motion, a return pending, two extensions, FAULT. -/
theorem test_flaps : ((after (.ready 1 true) bench).port 1).state = .thrown ∧
    ((after (.ready 1 true) { bench with ports := bench.ports.set 1 { benchPort 1 with returnPending := true } }).port 1).state =
      .returning ∧
    ((after (.ready 3 false) bench).port 3).state = .straight ∧ ((after (.ready 3 true) bench).port 3).state = .fault ∧
    ((after (.moving 3) bench).port 3).extension = 1 ∧
    ((after (.moving 3) { bench with ports := bench.ports.set 3 { benchPort 3 with extension := 2 } }).port 3).extension = 2 ∧
    ((after (.moduleFault 4 9) bench).port 4).faultCode = some 9 ∧ (bench.port 2).state.working = true := by decide

/-- PortDeadlinesExpire: deadlines that run and that do not; flap reports and an IDENTITY outside the working states. -/
theorem test_portDeadlines : ((after (.resetDeadlineExpiry 10) late).port 10).state = .absent ∧
    after (.resetDeadlineExpiry 11) late = late ∧ ((after (.flapDeadlineExpiry 3) late).port 3).state = .fault ∧
    after (.flapDeadlineExpiry 1) late = late ∧ after (.resetDeadlineExpiry 10) bench = bench ∧ (bench.port 10).state.working = false ∧
    (bench.port 12).role = .bay ∧ (bench.port 12).state ≠ .ready ∧ after (.identity 12 5) bench = bench := by decide

/-- ApproachesAreDecidedByTheFirstCheckThatHolds, from the first check to the last. -/
theorem test_decisions : bench.decideApproach 0 0 = .deny .noCar ∧ bench.decideApproach 0 25 = .deny .noCar ∧
    bench.decideApproach 4 1 = .deny .fault ∧ bench.decideApproach 0 5 = .pass ∧ bench.decideApproach 0 1 = .grant ∧
    State.decideApproach { bench with ports := bench.ports.set 0 { benchPort 0 with masked := true } } 0 1 = .deny .masked ∧
    State.decideApproach { bench with race := .caution } 0 1 = .deny .race ∧
    bench.decideApproach 3 1 = .deny .flapBusy ∧ bench.decideApproach 2 1 = .deny .conflict ∧
    bench.decideApproach 0 3 = .deny .link := by decide

/-- The other denials: HELD, ZONE_OTHER, GUARDED and FULL. -/
theorem test_laterDenials :
    State.decideApproach { bench with slots := bench.slots.set 1 { Slot.reset with binding := some 1 }
                                      cars := bench.cars.set 1 { benchCar 1 with holder := some 1 } } 0 2 = .deny .held ∧
    State.decideApproach { bench with ports := bench.ports.set 0 { benchPort 0 with
      config := { SectionConfig.reset 0 with zone := 1 } } } 0 1 = .deny .zoneOther ∧
    State.decideApproach { bench with ports := bench.ports.set 0 { benchPort 0 with
      config := { SectionConfig.reset 0 with zone := 3 } } } 0 1 = .deny .guarded ∧
    State.decideApproach { bench with zones := bench.zones.set 1 { benchZone 1 with capacity := 1 } } 1 1 =
      .deny .full := by decide

/-- GrantsEnterTheCarAndThrowTheFlap: from STRAIGHT, in THROWING, in THROWN, and with an earlier entry of the car. -/
theorem test_grants : bench.decideApproach 0 (carCode 0) = .grant ∧ bench.decideApproach 1 (carCode 0) = .grant ∧
    ((after (.approach 0 1) bench).port 0).state = .throwing ∧ ((after (.approach 0 1) bench).car 0).armed = false ∧
    ((after (.approach 0 1) bench).zone 0).entries = [⟨some 0, 0, 1500, none⟩] ∧
    (State.decideApproach { bench with zones := bench.zones.set 2 { benchZone 2 with conflict := false } } 2 1 = .grant) ∧
    ((after (.approach 0 1) { bench with zones := bench.zones.set 1 { Zone.reset with entries := [⟨some 0, 1, 9, none⟩] } }).zone
      1).entries = [] := by decide

/-- GuardsAndExitsActOnTheZone: a guard of a car in the list and of another; exits of a car, of none, without a code. -/
theorem test_exits : after (.guard 1 5) bench = bench ∧ ((after (.guard 1 6) bench).zone 1).guard = some ⟨6, 300⟩ ∧
    ((after (.exitCross 1 5) bench).zone 1).entries = [] ∧ ((after (.exitCross 1 5) bench).port 1).counters.completed = 1 ∧
    ((after (.exitStraight 1 5) bench).port 1).counters.missed = 1 ∧
    ((after (.exitCross 1 0) bench).port 1).counters.presumed = 1 ∧
    ((after (.exitCross 0 25) bench).port 0).counters.swept = 1 ∧
    ((after (.entryExpiry 1 0) late).port 1).returnPending = true ∧ after (.entryExpiry 1 1) late = late ∧
    after (.entryExpiry 1 0) bench = bench ∧ after (.guardExpiry 3) bench = bench ∧
    ((after (.guardExpiry 3) late).zone 3).guard = none := by decide

/-- An exit taken at the tick at which a grant superseded the car's entry in the same list finds none of the car (R136); a tick
later the new entry is found (R125, R126, R127). -/
theorem test_exitAfterSupersede :
    let s := after (.approach 0 1) { bench with zones := bench.zones.set 0 { Zone.reset with entries := [⟨some 0, 0, 9, none⟩] } }
    (s.zone 0).entries = [⟨some 0, 0, 1500, some ⟨0, 0⟩⟩] ∧
    (after (.exitCross 0 1) s).zone 0 = s.zone 0 ∧ ((after (.exitCross 0 1) s).port 0).counters.swept = 1 ∧
    ((after (.exitCross 0 31) s).port 0).counters.swept = 1 ∧ (after (.exitStraight 0 1) s).zone 0 = s.zone 0 ∧
    ((after (.exitCross 0 1) { s with now := 1 }).port 0).counters.completed = 1 ∧
    ((after (.exitCross 0 31) { s with now := 1 }).port 0).counters.presumed = 1 ∧
    ((after (.exitStraight 0 1) { s with now := 1 }).port 0).counters.missed = 1 := by decide

/-- A presumed exit at the tick at which a self-throw of its port superseded another port's entry finds the new one (R127); an
exit that names the car does not (R136). -/
theorem test_exitAfterSelfThrow :
    let s := after (.selfThrow 8 1) { bench with zones := bench.zones.set 0 { Zone.reset with entries := [⟨some 0, 0, 9, none⟩] } }
    (s.zone 0).entries = [⟨some 0, 8, 1500, some ⟨0, 0⟩⟩] ∧
    ((after (.exitCross 8 0) s).port 8).counters.presumed = 1 ∧ (after (.exitCross 8 0) s).zone 0 = Zone.reset ∧
    ((after (.exitCross 8 1) s).port 8).counters.swept = 1 := by decide

/-- SelfThrowsAreAlwaysEntered: on another port's entry, on a full list, of the car that stands there. -/
theorem test_selfThrows : (bench.port 8).role = .delegated ∧ (bench.port 8).state ≠ .off ∧
    ((after (.selfThrow 8 1) bench).zone 0).entries = [⟨some 0, 8, 1500, none⟩] ∧
    ((after (.selfThrow 9 0) bench).zone 1).conflict = true ∧
    ((after (.selfThrow 8 3) { bench with zones := bench.zones.set 0 { Zone.reset with
      entries := List.replicate 3 ⟨none, 8, 9, none⟩ } }).zone 0).entries.length = 3 := by decide

/-- RunControlDeadlinesExpire in the state each deadline runs in; a stopped one, and each before its tick. -/
theorem test_runDeadlines : (after .startUpSettleExpiry { State.reset with now := 200 }).part = .run ∧
    (after .startUpSettleExpiry { State.reset with now := 200 }).silenceDue = some 450 ∧
    after .startUpSettleExpiry late = late ∧
    (after .wakeSettleExpiry { resting with part := .waking, wakeDue := some 20, now := 20 }).part = .run ∧
    (after .silenceDeadlineExpiry late).part = .halt ∧
    (after .silenceDeadlineExpiry late).railOut = some (.cycle .stop false 0) ∧
    (after .ownCycleTimerExpiry { halted (some .fill) [] with now := 20 }).waitingLine = [.frame ownCycle] ∧
    (after .ownCycleTimerExpiry { halted (some .fill) [] with now := 20 }).ownCycleDue = some 40 ∧
    after .startUpSettleExpiry State.reset = State.reset ∧ after .silenceDeadlineExpiry bench = bench ∧
    after .ownCycleTimerExpiry (halted none []) = halted none [] := by decide

/-- The expiries that R111 and R151 say do not follow: a flap deadline started again by MOVING, a silence deadline by a CYCLE
frame, a start-up settle by a soft reset, each taken before the expiry of the old one. -/
theorem test_oldExpiriesDoNothing :
    ((after (.flapDeadlineExpiry 3) (after (.moving 3) { bench with now := 60 })).port 3).state = .returning ∧
    (after .silenceDeadlineExpiry (after (.cycleFrame .green true 0) { bench with now := 250 })).part = .run ∧
    (after .startUpSettleExpiry (after .softReset { State.reset with now := 200 })).part = .startup := by decide

end Sys2Proof.Tests
end

/-! What a step is made of: every law of the state that the idle step and every command keep is kept by every step; a command
that is a request runs the body that its code, argument and data words spell. -/

namespace Sys2Proof.Machine

/-- The state after a command that stands in the frame of every meaning (R148). -/
theorem taken_eq_of_free {s : State} (h : s.resetHeld = false) (f : State → State) : taken s f = .next (f s) := by
  simp [taken, h]

/-- What a command's effect keeps, the command keeps. -/
theorem taken_keeps {P : State → Prop} {s t : State} {f : State → State} (hs : P s)
    (hf : s.resetHeld = false → P (f s)) (h : taken s f = .next t) : P t := by
  unfold taken at h
  obtain rfl := Host.Outcome.next.inj h
  split
  · exact hs
  · rename_i hr; exact hf (by simpa using hr)

/-- A law that does not read the queue of commands, and that the idle step and every command keep, every step keeps. -/
theorem step_keeps {P : State → Prop} (hq : ∀ s l, P s → P { s with pending := l }) (hi : ∀ s, P s → P s.idle)
    (hc : ∀ c s t, P s → exec c s = .next t → P t) {s t : State} (h : step s = .next t) (hs : P s) : P t := by
  unfold step at h
  split at h
  · obtain rfl := Host.Outcome.next.inj h
    exact hi s hs
  · exact hc _ _ _ (hq s _ hs) h

/-- A request that an argument and data words spell runs the body of its code with them (R153, R157, section 9.4). -/
theorem exec_of_framed {code : BitVec 6} {arg : BitVec 8} {d1 d2 d3 : Word16} {c : Instr}
    (h : framedRequest code arg d1 d2 d3 = some c) (s : State) :
    exec c s = taken s fun s => s.respond code (requestBody code.toNat arg d1 d2 d3) := by
  unfold framedRequest at h
  split at h
  case h_30 => cases h
  all_goals
    rename_i hn
    have he : code = BitVec.ofNat 6 code.toNat := by simp
    rw [hn] at he
    subst he
    cases h
    rfl

/-- Every request row of the table is spelled by some frames (section 9.4). -/
theorem request_spelled (c : Instr) : Laws.RequestSpelling.Statement c := by
  cases c with
  | ident => exact Laws.RequestSpelling.ident
  | status => exact Laws.RequestSpelling.status _
  | notices => exact Laws.RequestSpelling.notices
  | cause => exact Laws.RequestSpelling.cause
  | portRole => exact Laws.RequestSpelling.portRole _ _
  | portMask => exact Laws.RequestSpelling.portMask _ _
  | sectionWrite => exact Laws.RequestSpelling.sectionWrite _ _ _ _ _ _ _
  | sectionRead => exact Laws.RequestSpelling.sectionRead _
  | sectionCounts => exact Laws.RequestSpelling.sectionCounts _ _ _
  | sectionClear => exact Laws.RequestSpelling.sectionClear _
  | zoneWrite => exact Laws.RequestSpelling.zoneWrite _ _
  | zoneRead => exact Laws.RequestSpelling.zoneRead _ _
  | curveWrite => exact Laws.RequestSpelling.curveWrite _ _ _
  | curveRead => exact Laws.RequestSpelling.curveRead _ _
  | carWrite => exact Laws.RequestSpelling.carWrite _ _ _ _ _
  | carRead => exact Laws.RequestSpelling.carRead _
  | carIdentity => exact Laws.RequestSpelling.carIdentity _
  | bind => exact Laws.RequestSpelling.bind _ _
  | unbind => exact Laws.RequestSpelling.unbind _
  | forget => exact Laws.RequestSpelling.forget _
  | pairOpen => exact Laws.RequestSpelling.pairOpen _ _ _
  | pairCancel => exact Laws.RequestSpelling.pairCancel _
  | pairRead => exact Laws.RequestSpelling.pairRead _ _
  | revive => exact Laws.RequestSpelling.revive _
  | limits => exact Laws.RequestSpelling.limits _ _ _ _
  | mode => exact Laws.RequestSpelling.mode _ _ _ _
  | rest => exact Laws.RequestSpelling.rest
  | wake => exact Laws.RequestSpelling.wake
  | softReset => exact Laws.RequestSpelling.softReset
  | _ => intro code h; cases h

/-- Every request row of the table runs the body of its code with some argument and data words (R153, R157). -/
theorem exec_of_requestCode {c : Instr} {code : BitVec 6} (h : requestCode c = some code) :
    ∃ (arg : BitVec 8) (d1 d2 d3 : Word16), ∀ s,
      exec c s = taken s fun s => s.respond code (requestBody code.toNat arg d1 d2 d3) := by
  obtain ⟨arg, d1, d2, d3, hf⟩ := request_spelled c code h
  exact ⟨arg, d1, d2, d3, exec_of_framed hf⟩

/-- The close of the window after a CAR frame to an address, which may name no car (R16, log entry 24). -/
def State.closeCarAddress (s : State) (address : BitVec 5) (answered : Bool) : State :=
  match carOf address.toNat with
  | none => s
  | some a => s.closeCarWindow a answered

/-- The effect of a command that is neither a request nor one of the four reset commands, outside a hub reset. -/
def effect : Instr → State → State
  | .cycleFrame race e b, s => s.cycleFrame race e b
  | .driveFrame slot t b l p, s => s.driveFrame slot t b l p
  | .headFrame code count arg, s => s.arriveOther.beginRequest ⟨code, count, arg, []⟩
  | .dataFrame w, s => s.arrive.dataFrame w
  | .fillFrame, s => s.arriveOther.freePosition
  | .auxFrame k b, s => s.arriveOther.position (.frame (.aux k b))
  | .frameError, s => s.frameError
  | .kindError, s => s.kindError
  | .frameBrokenOff, s => s.frameError
  | .carAnswerWindowClose address answered, s => s.closeCarAddress address answered
  | .assignAnswerWindowClose p answered, s => s.closeAssignWindow p answered
  | .railOutputFree, s => s.railFree
  | .insertionQueuePlace, s => s.queuePlace
  | .hello p k b, s => s.onMessage p fun u => u.takeHello p k b
  | .approach p code, s => s.readerMessage p fun u => if (u.port p).role = .switch then u.approach p code else u
  | .guard p code, s => s.readerMessage p fun u => u.takeGuard p code
  | .exitCross p code, s => s.readerMessage p fun u => u.takeExitCross p code
  | .exitStraight p code, s => s.readerMessage p fun u => u.takeExitStraight p code
  | .ready p b, s => s.flapMessage p true fun u => u.takeReady p b
  | .moving p, s => s.flapMessage p false fun u => u.takeMoving p
  | .moduleFault p code, s => s.flapMessage p true fun u => u.takeModuleFault p code
  | .selfThrow p code, s => s.roleMessage p .delegated fun u => u.takeSelfThrow p code
  | .identity p id, s => s.roleMessage p .bay fun u => if (u.port p).state = .ready then u.takeIdentity p id else u
  | .portLineError p, s => s.onMessage p fun u => u.portError p
  | .portMessageBrokenOff p, s => s.onMessage p fun u => u.portError p
  | .portLineFree p, s => s.modPort p fun q => q.lineFree (s.after q.config.flapTimeout)
  | .flapCommandLeft p, s => s.modPort p fun q => q.flapCommandLeft (s.after q.config.flapTimeout)
  | .startUpSettleExpiry, s => s.startUpSettled
  | .wakeSettleExpiry, s => s.wakeSettled
  | .silenceDeadlineExpiry, s => s.silenceExpires
  | .ownCycleTimerExpiry, s => s.ownCycleExpires
  | .resetDeadlineExpiry p, s => s.resetExpires p
  | .flapDeadlineExpiry p, s => s.flapExpires p
  | .windowDeadlineExpiry p, s => s.windowExpires p
  | .showDeadlineExpiry p, s => s.showExpires p
  | .entryExpiry z k, s => s.entryExpires z k.val
  | .guardExpiry z, s => s.guardExpires z
  | _, s => s

/-- A command that is neither a request nor a reset command stands with its effect in the frame of every meaning (R148). -/
theorem exec_eq_effect {c : Instr} (hr : requestCode c = none) (hc : isResetCommand c = false) (s : State) :
    exec c s = taken s (effect c) := by
  cases c with
  | powerOn | resetPinAssertion | supplyDip | internalResetRelease => cases hc
  | ident | status | notices | cause | portRole | portMask | sectionWrite | sectionRead | sectionCounts | sectionClear
  | zoneWrite | zoneRead | curveWrite | curveRead | carWrite | carRead | carIdentity | bind | unbind | forget
  | pairOpen | pairCancel | pairRead | revive | limits | mode | rest | wake | softReset => cases hr
  | _ => rfl

/-- A law that every effect, every request, the assertion of the internal reset and its release keep, every command keeps. -/
theorem exec_keeps {P : State → Prop}
    (he : ∀ c s, requestCode c = none → isResetCommand c = false → s.resetHeld = false → P s → P (effect c s))
    (hr : ∀ s code n arg d1 d2 d3, s.resetHeld = false → P s → P (s.respond code (requestBody n arg d1 d2 d3)))
    (hh : ∀ s cause, P s → P (s.holdReset cause)) (hl : ∀ s high, P s → P (s.releaseReset high))
    {c : Instr} {s t : State} (hs : P s) (h : exec c s = .next t) : P t := by
  cases hc : requestCode c with
  | some code =>
    obtain ⟨arg, d1, d2, d3, hb⟩ := exec_of_requestCode hc
    rw [hb] at h
    exact taken_keeps hs (fun h0 => hr s code _ arg d1 d2 d3 h0 hs) h
  | none =>
    by_cases hk : isResetCommand c = false
    · rw [exec_eq_effect hc hk] at h
      exact taken_keeps hs (fun h0 => he c s hc hk h0 hs) h
    · cases c with
      | powerOn | resetPinAssertion | supplyDip => cases h; exact hh s _ hs
      | internalResetRelease high => cases h; exact hl s high hs
      | _ => exact absurd rfl hk

end Sys2Proof.Machine

/-! Every step keeps speeds, settings, counters and buffers in their ranges (R3, R10, R18, R25, R44, R45, R142, R152, R153,
R155). -/

namespace Sys2Proof.Machine

/-- The parameters and the fine speed of a car in the ranges of R25. -/
def Car.InRange (c : Car) : Prop :=
  c.limit ≤ 255 ∧ 1 ≤ c.up ∧ c.up ≤ 255 ∧ 1 ≤ c.down ∧ c.down ≤ 255 ∧ c.fine ≤ 255

/-- Every car's parameters and fine speed are in range (R25). -/
def State.CarsInRange (s : State) : Prop := ∀ a, (s.car a).InRange

/-- The ranges that every step keeps: those of the cars and the settings, of the counters and of the buffers. -/
def State.InRange (s : State) : Prop := s.SpeedsInRange ∧ s.CountersInRange ∧ s.BuffersLawful

theorem State.InRange.cars {s : State} (h : s.InRange) : s.CarsInRange := h.1.1

/-! ### The cars -/

theorem State.CarsInRange.of_eq {s t : State} (h : s.CarsInRange) (he : t.cars = s.cars) : t.CarsInRange := by
  intro a; simpa [he] using h a

theorem State.CarsInRange.modCar {s : State} (h : s.CarsInRange) {a : CarIx} {f : Car → Car}
    (hf : (f (s.car a)).InRange) : (s.modCar a f).CarsInRange := by
  intro b
  rw [State.car_modCar]
  split
  · exact hf
  · exact h b

theorem State.CarsInRange.mapCars {s : State} (h : s.CarsInRange) {f : CarIx → Car → Car}
    (hf : ∀ a c, Car.InRange c → (f a c).InRange) : (s.mapCars f).CarsInRange := by
  intro a
  rw [State.car_mapCars]
  exact hf a _ (h a)

theorem State.CarsInRange.disarm {s : State} (h : s.CarsInRange) (a : CarIx) : (s.disarm a).CarsInRange :=
  h.modCar (h a)

theorem State.CarsInRange.disarmAll {s : State} (h : s.CarsInRange) : s.disarmAll.CarsInRange :=
  h.mapCars fun _ _ hc => hc

theorem State.CarsInRange.disarmMoved {t : State} (h : t.CarsInRange) (s : State) :
    (State.disarmMoved s t).CarsInRange :=
  h.mapCars fun _ c hc => by split <;> exact hc

theorem State.CarsInRange.laneEdge {s : State} (h : s.CarsInRange) (g : SlotIx) (x : Option CarIx) (lane : Bool) :
    (s.laneEdge g x lane).CarsInRange := by
  unfold State.laneEdge
  split
  · exact h
  · split
    · exact h.modCar (h _)
    · exact h

theorem State.CarsInRange.dropBinding {s : State} (h : s.CarsInRange) (g : SlotIx) :
    (s.dropBinding g).CarsInRange := by
  unfold State.dropBinding
  split
  · exact h
  · exact (h.of_eq (by simp)).modCar (h _)

theorem State.CarsInRange.dropHolder {s : State} (h : s.CarsInRange) (a : CarIx) : (s.dropHolder a).CarsInRange := by
  unfold State.dropHolder
  split
  · exact h
  · exact (h.of_eq (by simp)).modCar (h a)

theorem State.CarsInRange.bindTo {s : State} (h : s.CarsInRange) (g : SlotIx) (a : CarIx) :
    (s.bindTo g a).CarsInRange := by
  obtain ⟨s1, s2, e1, e2, e3⟩ := State.bind_steps s g a
  have h1 : s1.CarsInRange := by
    rw [e1]; split
    · exact h
    · exact h.dropBinding g
  have h2 : s2.CarsInRange := by
    rw [e2]; split
    · exact h1
    · exact h1.dropHolder a
  rw [e3]
  exact (h2.of_eq (by simp)).modCar (h2 a)

theorem State.CarsInRange.clearIdentity {s : State} (h : s.CarsInRange) (a : CarIx) (id : Identity) :
    (s.clearIdentity a id).CarsInRange :=
  h.mapCars fun _ c hc => by split <;> exact hc

theorem State.CarsInRange.commit {s : State} (h : s.CarsInRange) (g : SlotIx) (a : CarIx) (id : Identity) :
    (s.commit g a id).CarsInRange := by
  have h1 : ((s.bindTo g a).clearIdentity a id).CarsInRange := (h.bindTo g a).clearIdentity a id
  obtain ⟨hl, hu, hu', hd, hd', -⟩ := h1 a
  unfold State.commit
  generalize (s.bindTo g a).clearIdentity a id = u at *
  refine State.CarsInRange.disarmMoved (h1.modCar ?_) s
  exact ⟨hl, hu, hu', hd, hd', Nat.zero_le _⟩

theorem State.CarsInRange.release {s : State} (h : s.CarsInRange) (a : CarIx) : (s.release a).CarsInRange :=
  (h.modCar (h a)).disarmMoved s

theorem State.CarsInRange.reserve {s : State} (h : s.CarsInRange) (a : CarIx) (p : PortIx) :
    (s.reserve a p).CarsInRange :=
  (h.modCar (h a)).disarmMoved s

theorem State.CarsInRange.forgetCar {s : State} (h : s.CarsInRange) (a : CarIx) : (s.forgetCar a).CarsInRange := by
  unfold State.forgetCar
  split
  · exact h
  · exact ((h.dropHolder a).modCar (h.dropHolder a a)).disarmMoved s

theorem State.CarsInRange.setFallback {s : State} (h : s.CarsInRange) (on : Bool) : (s.setFallback on).CarsInRange := by
  have h1 : State.CarsInRange { s with directFallback := on } := h
  exact h1.disarmMoved s

theorem State.CarsInRange.notifyCar {s : State} (h : s.CarsInRange) (n : Notice) (a : CarIx) :
    (s.notifyCar n a).CarsInRange := h.of_eq (by simp)

theorem State.CarsInRange.setFaults {s : State} (h : s.CarsInRange) (a : CarIx) (n : Nat) :
    (s.setFaults a n).CarsInRange := by
  unfold State.setFaults
  dsimp only
  split
  · exact State.CarsInRange.notifyCar (h.modCar (h a)) _ _
  · exact h.modCar (h a)

theorem State.CarsInRange.lostResult {s : State} (h : s.CarsInRange) (a : CarIx) (answered : Bool) :
    (s.lostResult a answered).CarsInRange := by
  unfold State.lostResult
  split
  · split
    · exact State.CarsInRange.notifyCar (h.modCar (h a)) _ _
    · exact h.modCar (h a)
  · exact h.modCar (h a)

theorem State.CarsInRange.linkResult {s : State} (h : s.CarsInRange) (a : CarIx) (answered : Bool) :
    (s.linkResult a answered).CarsInRange := by
  unfold State.linkResult
  split
  · exact h.lostResult a answered
  · split
    · exact h.setFaults a _
    · split
      · exact State.CarsInRange.notifyCar (h.modCar (h a)) _ _
      · exact h.setFaults a _

/-- The new fine speed is below the ceiling, which the car's limit bounds (R50, R52). -/
theorem State.shapedFine_le {s : State} (h : s.CarsInRange) (a : CarIx) (t : Nat) (brake : Bool) :
    s.shapedFine a t brake ≤ 255 := by
  have hl : (s.car a).limit ≤ 255 := (h a).1
  have hc : ∀ q, q ≤ (s.car a).limit → (if s.race = .caution then min q s.cautionCap else q) ≤ (s.car a).limit :=
    fun q hq => by
      split
      · exact (min_le_left _ _).trans hq
      · exact hq
  have hq : s.ceiling a ≤ (s.car a).limit := by
    refine hc _ ?_
    split
    · exact le_rfl
    · exact min_le_left _ _
  unfold State.shapedFine
  split
  · omega
  · have : slew (s.target a t brake) (s.car a).fine (s.car a).up (s.car a).down (s.ceiling a) brake ≤ s.ceiling a :=
      Nat.min_le_right _ _
    omega

theorem State.CarsInRange.shape {s : State} (h : s.CarsInRange) (a : CarIx) (t : Nat) (brake : Bool) :
    (s.shape a t brake).CarsInRange := by
  obtain ⟨hl, hu, hu', hd, hd', -⟩ := h a
  exact h.modCar ⟨hl, hu, hu', hd, hd', State.shapedFine_le h a t brake⟩

theorem State.CarsInRange.zeroFine {s : State} (h : s.CarsInRange) : s.zeroFine.CarsInRange :=
  h.mapCars fun _ _ ⟨hl, hu, hu', hd, hd', _⟩ => ⟨hl, hu, hu', hd, hd', Nat.zero_le _⟩

/-! ### The cars and the sessions -/

theorem State.CarsInRange.releaseSession {s : State} (h : s.CarsInRange) (p : PortIx) (x : Session) :
    (s.releaseSession p x).CarsInRange := by
  have h1 : ((s.removeSequence p).abandonWindows p).CarsInRange := h.of_eq (by simp)
  unfold State.releaseSession
  dsimp only
  split
  · exact h1.of_eq (by simp)
  · split
    · rename_i b _ _
      exact (h1.release b).of_eq (by simp)
    · exact h1.of_eq (by simp)

theorem State.CarsInRange.failSession {s : State} (h : s.CarsInRange) (p : PortIx) (x : Session) (o : SessionOutcome) :
    (s.failSession p x o).CarsInRange :=
  (h.releaseSession p x).of_eq (by simp [State.failSession])

theorem State.CarsInRange.abortSession {s : State} (h : s.CarsInRange) (p : PortIx) : (s.abortSession p).CarsInRange := by
  unfold State.abortSession
  split
  · exact h
  · rename_i x _
    split
    · exact (h.releaseSession p x).of_eq (by simp)
    · exact h.of_eq (by simp)

theorem State.CarsInRange.fillSession {s : State} (h : s.CarsInRange) (p : PortIx) (x : Session) :
    (s.fillSession p x).CarsInRange := by
  have h1 : (s.setSession p (some x)).CarsInRange := h.of_eq (by simp)
  have hr : ∀ a, ((s.setSession p (some x)).reserveFor p x a).CarsInRange := fun a =>
    (h1.reserve a p).of_eq (by simp [State.reserveFor])
  unfold State.fillSession State.lookup
  dsimp only
  split
  · split
    · exact h1.failSession p x _
    · split
      · split
        · exact h1.failSession p x _
        · exact hr _
      · split
        · exact h1.failSession p x _
        · exact hr _
  · exact h1

theorem State.CarsInRange.takeIdentity {s : State} (h : s.CarsInRange) (p : PortIx) (id : Identity) :
    (s.takeIdentity p id).CarsInRange := by
  unfold State.takeIdentity
  split
  · exact h
  · split
    · exact h.fillSession p _
    · exact h

theorem State.CarsInRange.pairEdge {s : State} (h : s.CarsInRange) (g : SlotIx) (pair : Bool) :
    (s.pairEdge g pair).CarsInRange := by
  unfold State.pairEdge State.gesture State.joinSession
  split
  · split
    · exact h
    · split
      · split
        · exact h
        · exact State.CarsInRange.fillSession (h.of_eq (by simp)) _ _
      · exact h.of_eq (by simp)
  · exact h

theorem State.CarsInRange.assignResult {s : State} (h : s.CarsInRange) (p : PortIx) (answered : Bool) :
    (s.assignResult p answered).CarsInRange := by
  unfold State.assignResult State.silentAttempt State.commitSession
  split
  · exact h
  · split
    · split
      · split
        · rename_i g a id _ _ _
          exact (h.commit g a id).of_eq (by simp)
        · exact h
      · dsimp only
        split
        · exact h.of_eq (by simp)
        · exact h.failSession p _ _
    · exact h

/-! ### All ranges together -/

/-- Where the cars are in range and the fields that the other ranges speak of are the same, all ranges are kept. -/
theorem State.InRange.of_same {s t : State} (h : s.InRange) (hc : t.CarsInRange)
    (hs : t.curves = s.curves ∧ t.cautionCap = s.cautionCap ∧ t.silenceTimeout = s.silenceTimeout)
    (hm : s.SameManagement t) (hw : t.waitingLine.length = s.waitingLine.length) (hr : t.returnWindow = s.returnWindow) :
    t.InRange := by
  obtain ⟨h1, h2, h3⟩ := hs
  obtain ⟨m1, m2, m3, m4, m5⟩ := hm
  obtain ⟨⟨-, k⟩, c, b⟩ := h
  refine ⟨⟨hc, ?_⟩, ?_, ?_⟩
  · rw [h1, h2, h3]; exact k
  · unfold State.CountersInRange; rw [m3, m4, m5]; exact c
  · unfold State.BuffersLawful; rw [m1, m2, hw, hr]; exact b

/-- Where cars too are the same. -/
theorem State.InRange.of_same_cars {s t : State} (h : s.InRange) (hc : t.cars = s.cars)
    (hs : t.curves = s.curves ∧ t.cautionCap = s.cautionCap ∧ t.silenceTimeout = s.silenceTimeout)
    (hm : s.SameManagement t) (hw : t.waitingLine.length = s.waitingLine.length) (hr : t.returnWindow = s.returnWindow) :
    t.InRange :=
  h.of_same (h.cars.of_eq hc) hs hm hw hr

theorem raise16_le {n : Nat} (h : n ≤ 65535) : raise16 n ≤ 65535 := by unfold raise16; split <;> omega

/-- Where the settings are the same, and cars, counters and buffers lawful. -/
theorem State.InRange.of_parts {s t : State} (h : s.InRange) (hc : t.CarsInRange)
    (hs : t.curves = s.curves ∧ t.cautionCap = s.cautionCap ∧ t.silenceTimeout = s.silenceTimeout)
    (hn : t.CountersInRange) (hb : t.BuffersLawful) : t.InRange := by
  obtain ⟨⟨-, k⟩, -, -⟩ := h
  obtain ⟨h1, h2, h3⟩ := hs
  refine ⟨⟨hc, ?_⟩, hn, hb⟩
  rw [h1, h2, h3]; exact k

/-- Where the cars too are the same. -/
theorem State.InRange.with_buffers {s t : State} (h : s.InRange) (hc : t.cars = s.cars)
    (hs : t.curves = s.curves ∧ t.cautionCap = s.cautionCap ∧ t.silenceTimeout = s.silenceTimeout)
    (hn : t.CountersInRange) (hb : t.BuffersLawful) : t.InRange :=
  h.of_parts (h.cars.of_eq hc) hs hn hb

/-! ### The rail output -/

theorem State.InRange.leave {s : State} (h : s.InRange) (x : LineItem) : (s.leave x).InRange :=
  h.of_same_cars (by simp) (by simp) (by simp) (by simp) (by simp)

theorem State.InRange.fallDue {s : State} (h : s.InRange) (x : LineItem) : (s.fallDue x).InRange := by
  unfold State.fallDue
  split
  · exact h.leave x
  · split
    · rename_i hl
      obtain ⟨-, hn, hr, hw, -, hv, ha⟩ := id h
      exact h.with_buffers rfl ⟨rfl, rfl, rfl⟩ hn ⟨hr, hw, by simpa using hl, hv, ha⟩
    · exact h

theorem State.InRange.position {s : State} (h : s.InRange) (x : LineItem) : (s.position x).InRange := by
  unfold State.position
  split
  · exact h
  · split
    · exact h.fallDue x
    · exact h.leave x

theorem State.InRange.freePosition {s : State} (h : s.InRange) : s.freePosition.InRange := by
  unfold State.freePosition
  split
  · exact h
  · refine State.InRange.position ?_ _
    exact h.of_same_cars rfl ⟨rfl, rfl, rfl⟩ ⟨rfl, rfl, rfl, rfl, rfl⟩ rfl rfl

theorem State.InRange.railFree {s : State} (h : s.InRange) : s.railFree.InRange := by
  unfold State.railFree
  split
  · exact h
  · split
    · exact h.of_same_cars rfl ⟨rfl, rfl, rfl⟩ ⟨rfl, rfl, rfl, rfl, rfl⟩ rfl rfl
    · rename_i x rest hw
      obtain ⟨-, hn, hr, hl, hlen, hv, ha⟩ := id h
      have hlen' : rest.length ≤ 2 := by rw [hw] at hlen; simp at hlen; omega
      refine State.InRange.leave ?_ x
      exact h.with_buffers rfl ⟨rfl, rfl, rfl⟩ hn ⟨hr, hl, hlen', hv, ha⟩

theorem State.InRange.closeWindow {s : State} (h : s.InRange) {f : AnswerWindow → Bool} {w : AnswerWindow} {t : State}
    (hc : s.closeWindow f = some (w, t)) : t.InRange := by
  unfold State.closeWindow at hc
  split at hc
  · cases hc
    exact h.of_same_cars rfl ⟨rfl, rfl, rfl⟩ ⟨rfl, rfl, rfl, rfl, rfl⟩ rfl rfl
  · split at hc
    · cases hc
      exact h.of_same_cars rfl ⟨rfl, rfl, rfl⟩ ⟨rfl, rfl, rfl, rfl, rfl⟩ rfl rfl
    · cases hc

/-! ### The request under assembly, the replies and the return window -/

theorem State.InRange.arrive {s : State} (h : s.InRange) : s.arrive.InRange := by
  obtain ⟨-, hn, hr, hl, hlen, -, ha⟩ := id h
  exact h.with_buffers rfl ⟨rfl, rfl, rfl⟩ hn ⟨hr, hl, hlen, by simp, ha⟩

theorem State.InRange.dropRequest {s : State} (h : s.InRange) : s.dropRequest.InRange := by
  obtain ⟨-, ⟨hf, hk, hd⟩, hb⟩ := id h
  exact h.with_buffers rfl ⟨rfl, rfl, rfl⟩ ⟨hf, hk, raise16_le hd⟩ hb

theorem State.InRange.queueReply {s : State} (h : s.InRange) (hr : s.replies.length < 4) {r : Reply}
    (hw : r.words.length ≤ 4) : (s.queueReply r).InRange := by
  obtain ⟨-, hn, -, hl, hlen, hv, ha⟩ := id h
  refine h.with_buffers rfl ⟨rfl, rfl, rfl⟩ hn ⟨?_, ?_, hlen, hv, ha⟩
  · simpa [State.queueReply] using hr
  · intro x hx
    rcases List.mem_append.1 hx with hx | hx
    · exact hl x hx
    · rw [List.mem_singleton.1 hx]; exact hw

theorem State.InRange.withAssembly {s : State} (h : s.InRange) {r : Option Assembly}
    (ha : ∀ x, r = some x → x.words.length < x.count.toNat) : State.InRange { s with assembly := r } := by
  obtain ⟨-, hn, hr, hl, hlen, hv, -⟩ := id h
  exact h.with_buffers rfl ⟨rfl, rfl, rfl⟩ hn ⟨hr, hl, hlen, hv, ha⟩

theorem State.InRange.interrupt {s : State} (h : s.InRange) : s.interrupt.InRange := by
  have h0 : State.InRange { s with assembly := none } := h.withAssembly (by simp)
  unfold State.interrupt
  split
  · exact h
  · split
    · exact h0.dropRequest
    · rename_i hr
      exact h0.queueReply (Nat.not_le.1 hr) (by simp)

theorem State.InRange.arriveOther {s : State} (h : s.InRange) : s.arriveOther.InRange := h.arrive.interrupt

theorem State.InRange.openWindow {s : State} (h : s.InRange) : s.openWindow.InRange := by
  obtain ⟨-, hn, hr, hl, hlen, -, ha⟩ := id h
  unfold State.openWindow
  split
  · exact h.with_buffers rfl ⟨rfl, rfl, rfl⟩ hn ⟨hr, hl, hlen, by simp, ha⟩
  · rename_i r rest he
    rw [he] at hr hl
    refine h.with_buffers rfl ⟨rfl, rfl, rfl⟩ hn ⟨?_, fun x hx => hl x (List.mem_cons_of_mem _ hx), hlen, ?_, ha⟩
    · simp at hr ⊢; omega
    · have := hl r List.mem_cons_self
      simp only [Reply.frames, List.length_cons, List.length_map]
      omega

theorem State.InRange.cycleWindow {s : State} (h : s.InRange) : s.cycleWindow.InRange := by
  have h1 : State.InRange { s with free := s.free + 1 } :=
    h.of_same_cars rfl ⟨rfl, rfl, rfl⟩ ⟨rfl, rfl, rfl, rfl, rfl⟩ rfl rfl
  unfold State.cycleWindow
  split
  · exact h.openWindow
  · dsimp only
    split
    · exact h1.interrupt.openWindow
    · exact h1.openWindow.interrupt

/-! ### Requests -/

/-- What a request makes of a state is in range, queues no reply, and its own reply has at most four words (R155). -/
structure Answer.InRange (s : State) (a : Answer) : Prop where
  values : a.1.InRange
  replies : a.1.replies.length ≤ s.replies.length
  words : a.2.2.length ≤ 4

theorem Answer.InRange.refuse {s : State} (h : s.InRange) (st : Status) : Answer.InRange s (refuse s st) :=
  ⟨h, le_rfl, Nat.zero_le _⟩

/-- An accepted request that leaves the Management Unit and the buffers as they are. -/
theorem Answer.InRange.accept {s t : State} (h : s.InRange) (hc : t.CarsInRange)
    (hs : t.curves = s.curves ∧ t.cautionCap = s.cautionCap ∧ t.silenceTimeout = s.silenceTimeout)
    (hm : s.SameManagement t) (hw : t.waitingLine.length = s.waitingLine.length) (hr : t.returnWindow = s.returnWindow)
    {words : List Word16} (hl : words.length ≤ 4) : Answer.InRange s (accept t words) :=
  ⟨h.of_same hc hs hm hw hr, by rw [show (Machine.accept t words).1.replies = s.replies from hm.2.1], hl⟩

/-- An accepted request that leaves the cars too as they are. -/
theorem Answer.InRange.accept_cars {s t : State} (h : s.InRange) (hc : t.cars = s.cars)
    (hs : t.curves = s.curves ∧ t.cautionCap = s.cautionCap ∧ t.silenceTimeout = s.silenceTimeout)
    (hm : s.SameManagement t) (hw : t.waitingLine.length = s.waitingLine.length) (hr : t.returnWindow = s.returnWindow)
    {words : List Word16} (hl : words.length ≤ 4) : Answer.InRange s (Machine.accept t words) :=
  .accept h (h.cars.of_eq hc) hs hm hw hr hl

/-- An accepted request that changes nothing. -/
theorem Answer.InRange.accept_self {s : State} (h : s.InRange) {words : List Word16} (hl : words.length ≤ 4) :
    Answer.InRange s (Machine.accept s words) :=
  ⟨h, le_rfl, hl⟩

/-! ### Each request -/

theorem reqIdent_inRange {s : State} (h : s.InRange) : Answer.InRange s (reqIdent s) :=
  .accept_self h (by simp [State.identWords])

theorem reqStatus_inRange {s : State} (h : s.InRange) (b : Bool) : Answer.InRange s (reqStatus b s) := by
  unfold reqStatus
  refine ⟨?_, ?_, by simp [accept, State.statusWords]⟩ <;> cases b
  · exact h
  · obtain ⟨-, -, hb⟩ := id h
    exact h.with_buffers rfl ⟨rfl, rfl, rfl⟩ (by simp [State.CountersInRange, accept]) hb
  · exact le_rfl
  · exact le_rfl

theorem reqNotices_inRange {s : State} (h : s.InRange) : Answer.InRange s (reqNotices s) :=
  .accept_cars h (by simp) (by simp) (by simp) (by simp) (by simp) (by simp [State.noticeWords])

theorem reqCause_inRange {s : State} (h : s.InRange) : Answer.InRange s (reqCause s) := by
  unfold reqCause
  exact .accept_cars (t := { s with cause := Cause.cleared }) h rfl ⟨rfl, rfl, rfl⟩ ⟨rfl, rfl, rfl, rfl, rfl⟩ rfl rfl
    (by simp)

theorem reqPortRole_inRange {s : State} (h : s.InRange) (port : BitVec 8) (role : BitVec 4) :
    Answer.InRange s (reqPortRole port role s) := by
  unfold reqPortRole
  split
  · rename_i p r _ _
    split
    · exact .refuse h _
    · split
      · exact .refuse h _
      · have hc : (s.writeRole p r).CarsInRange :=
          (State.CarsInRange.abortSession (h.cars.of_eq (t := s.abandon p) (by simp)) p).of_eq
            (by simp [State.writeRole])
        exact .accept h hc (by simp) (by simp) (by simp) (by simp) (by simp)
  · exact .refuse h _

theorem reqPortMask_inRange {s : State} (h : s.InRange) (port : BitVec 8) (m : Bool) :
    Answer.InRange s (reqPortMask port m s) := by
  unfold reqPortMask
  split
  · exact .refuse h _
  · split
    · exact .refuse h _
    · exact .accept_cars h (by simp) (by simp) (by simp) (by simp) (by simp) (by simp)

theorem reqSectionWrite_inRange {s : State} (h : s.InRange) (port zone : BitVec 4) (cap hold g f : BitVec 8)
    (th : Word16) : Answer.InRange s (reqSectionWrite port zone cap hold g f th s) := by
  unfold reqSectionWrite
  split
  · dsimp only
    split
    · exact .refuse h _
    · exact .accept_cars h (by simp) (by simp) (by simp) (by simp) (by simp) (by simp [SectionConfig.words])
  · exact .refuse h _

theorem reqSectionRead_inRange {s : State} (h : s.InRange) (port : BitVec 8) :
    Answer.InRange s (reqSectionRead port s) := by
  unfold reqSectionRead
  split
  · exact .refuse h _
  · exact .accept_self h (by simp [Port.readWords, SectionConfig.words])

theorem Port.countWords_length (q : Port) (page : BitVec 2) : (q.countWords page).length ≤ 4 := by
  unfold Port.countWords
  split
  · simp
  · split <;> simp

theorem reqSectionCounts_inRange {s : State} (h : s.InRange) (port : BitVec 8) (page : BitVec 2) (e : Bool) :
    Answer.InRange s (reqSectionCounts port page e s) := by
  unfold reqSectionCounts
  split
  · exact .refuse h _
  · split
    · exact .refuse h _
    · split
      · exact .accept_cars h (by simp) (by simp) (by simp) (by simp) (by simp) (Port.countWords_length _ _)
      · exact .accept_self h (Port.countWords_length _ _)

theorem reqSectionClear_inRange {s : State} (h : s.InRange) (port : BitVec 8) :
    Answer.InRange s (reqSectionClear port s) := by
  unfold reqSectionClear
  split
  · exact .refuse h _
  · split
    · exact .refuse h _
    · split
      · exact .refuse h _
      · exact .accept_cars h (by simp) (by simp) (by simp) (by simp) (by simp) (by simp)

theorem reqZoneWrite_inRange {s : State} (h : s.InRange) (zone capacity : BitVec 8) :
    Answer.InRange s (reqZoneWrite zone capacity s) := by
  unfold reqZoneWrite
  split
  · exact .refuse h _
  · exact .accept_cars h (by simp) (by simp) (by simp) (by simp) (by simp) (by simp)

theorem reqZoneRead_inRange {s : State} (h : s.InRange) (zone : BitVec 8) (page : BitVec 2) :
    Answer.InRange s (reqZoneRead zone page s) := by
  have he : ∀ e, (s.entryWords e).length = 2 := fun e => by cases e <;> simp [State.entryWords]
  unfold reqZoneRead
  split
  · exact .refuse h _
  · split
    · exact .accept_self h (by simp [State.zoneWords])
    · exact .accept_self h (by rw [he]; omega)

theorem reqCurveWrite_inRange {s : State} (h : s.InRange) (curve point : BitVec 4) (v : BitVec 8) :
    Answer.InRange s (reqCurveWrite curve point v s) := by
  unfold reqCurveWrite
  split
  · rename_i c k _ _
    obtain ⟨⟨hc, hp, hk⟩, hn, hb⟩ := id h
    refine ⟨⟨⟨hc, fun d j => ?_, hk⟩, hn, hb⟩, le_rfl, Nat.zero_le _⟩
    have hv : v.toNat ≤ 255 := by have := v.isLt; omega
    have h1 := hp d j
    have h2 := hp c j
    simp only [accept, State.writePoint, Fin.getElem_fin, Vector.getElem_set] at h1 h2 ⊢
    split
    · simp only [Vector.getElem_set]
      split
      · exact hv
      · exact h2
    · exact h1
  · exact .refuse h _

theorem reqCurveRead_inRange {s : State} (h : s.InRange) (curve half : BitVec 4) :
    Answer.InRange s (reqCurveRead curve half s) := by
  unfold reqCurveRead
  split
  · exact .refuse h _
  · split
    · exact .refuse h _
    · refine .accept_self h ?_
      unfold halfWords
      split <;> simp

theorem reqCarWrite_inRange {s : State} (h : s.InRange) (addr limit : BitVec 8) (curve : BitVec 4) (up down : BitVec 8) :
    Answer.InRange s (reqCarWrite addr limit curve up down s) := by
  unfold reqCarWrite
  split
  · rename_i a k _ _
    have hu := up.isLt
    have hd := down.isLt
    have hl := limit.isLt
    obtain ⟨-, -, -, -, -, hf⟩ := h.cars a
    have hc : (s.modCar a (Car.setParams limit.toNat k up.toNat down.toNat)).CarsInRange :=
      h.cars.modCar ⟨by simp only [Car.setParams]; omega, by simp only [Car.setParams]; omega,
        by simp only [Car.setParams]; omega, by simp only [Car.setParams]; omega,
        by simp only [Car.setParams]; omega, hf⟩
    exact .accept h hc (by simp) (by simp) (by simp) (by simp) (by simp [Car.paramWords])
  · exact .refuse h _

theorem reqCarRead_inRange {s : State} (h : s.InRange) (addr : BitVec 8) : Answer.InRange s (reqCarRead addr s) := by
  unfold reqCarRead
  split
  · exact .refuse h _
  · exact .accept_self h (by simp [Car.readWords])

theorem reqCarIdentity_inRange {s : State} (h : s.InRange) (addr : BitVec 8) :
    Answer.InRange s (reqCarIdentity addr s) := by
  unfold reqCarIdentity
  split
  · exact .refuse h _
  · split
    · exact .refuse h _
    · exact .accept_self h (by simp [identityWords])

theorem reqBind_inRange {s : State} (h : s.InRange) (slot addr : BitVec 8) : Answer.InRange s (reqBind slot addr s) := by
  unfold reqBind
  split
  · rename_i g a _ _
    split
    · exact .refuse h _
    · exact .accept h ((h.cars.bindTo g a).disarmMoved s) (by simp) (by simp) (by simp) (by simp) (by simp)
  · exact .refuse h _

theorem reqUnbind_inRange {s : State} (h : s.InRange) (slot : BitVec 8) : Answer.InRange s (reqUnbind slot s) := by
  unfold reqUnbind
  split
  · exact .refuse h _
  · rename_i g _
    split
    · exact .refuse h _
    · exact .accept h ((h.cars.dropBinding g).disarmMoved s) (by simp) (by simp) (by simp) (by simp) (by simp)

theorem reqForget_inRange {s : State} (h : s.InRange) (addr : BitVec 8) : Answer.InRange s (reqForget addr s) := by
  unfold reqForget
  split
  · exact .refuse h _
  · split
    · exact .refuse h _
    · exact .accept h (h.cars.forgetCar _) (by simp) (by simp) (by simp) (by simp) (by simp)

theorem reqRevive_inRange {s : State} (h : s.InRange) (addr : BitVec 8) : Answer.InRange s (reqRevive addr s) := by
  unfold reqRevive
  split
  · exact .refuse h _
  · rename_i a _
    exact .accept h (h.cars.modCar (h.cars a)) (by simp) (by simp) (by simp) (by simp) (by simp)

theorem reqPairOpen_inRange {s : State} (h : s.InRange) (port slot window : BitVec 8) :
    Answer.InRange s (reqPairOpen port slot window s) := by
  unfold reqPairOpen
  split
  · split
    · exact .refuse h _
    · split
      · exact .refuse h _
      · split
        · exact .refuse h _
        · split
          · exact .refuse h _
          · exact .accept_cars h (by simp) (by simp) (by simp) (by simp) (by simp) (by simp)
  · exact .refuse h _

theorem reqPairCancel_inRange {s : State} (h : s.InRange) (port : BitVec 8) :
    Answer.InRange s (reqPairCancel port s) := by
  unfold reqPairCancel
  split
  · exact .refuse h _
  · split
    · exact .refuse h _
    · split
      · exact .accept h (h.cars.failSession _ _ _) (by simp) (by simp) (by simp) (by simp) (by simp)
      · exact .refuse h _

theorem reqPairRead_inRange {s : State} (h : s.InRange) (port : BitVec 8) (page : BitVec 2) :
    Answer.InRange s (reqPairRead port page s) := by
  unfold reqPairRead
  split
  · exact .refuse h _
  · split
    · exact .refuse h _
    · split
      · exact .refuse h _
      · split
        · exact .accept_self h (by simp [Session.readWords])
        · split
          · exact .refuse h _
          · exact .accept_self h (by simp [identityWords])

theorem reqLimits_inRange {s : State} (h : s.InRange) (w v : Bool) (cap timeout : BitVec 8) :
    Answer.InRange s (reqLimits w v cap timeout s) := by
  obtain ⟨⟨hc, hp, hk, ht, ht'⟩, hn, hb⟩ := id h
  have hcap := cap.isLt
  refine ⟨⟨⟨hc, hp, ?_, ?_, ?_⟩, hn, hb⟩, le_rfl, by simp [reqLimits, accept, State.limitWords]⟩
  · simp only [reqLimits, accept]
    split
    · omega
    · exact hk
  · simp only [reqLimits, accept, clamp]
    split
    · omega
    · exact ht
  · simp only [reqLimits, accept, clamp]
    split
    · omega
    · exact ht'

theorem State.CarsInRange.writeMode {s : State} (h : s.CarsInRange) (w v on : Bool) (bay : Option PortIx) :
    (s.writeMode w v on bay).CarsInRange := by
  have h1 : (if w then s.setFallback on else s).CarsInRange := by
    split
    · exact h.setFallback on
    · exact h
  unfold State.writeMode
  dsimp only
  split
  · exact h1.of_eq rfl
  · exact h1

theorem reqMode_inRange {s : State} (h : s.InRange) (w v on : Bool) (bay : BitVec 8) :
    Answer.InRange s (reqMode w v on bay s) := by
  unfold reqMode
  split
  · exact .refuse h _
  · split
    · exact .refuse h _
    · exact .accept h (h.cars.writeMode _ _ _ _) (by simp) (by simp) (by simp) (by simp) (by simp [State.modeWords])

theorem State.InRange.enterRest {s : State} (h : s.InRange) : s.enterRest.InRange := by
  have hc : (s.mapPorts Port.rest).zeroFine.CarsInRange :=
    (h.cars.of_eq (t := s.mapPorts Port.rest) (by simp)).zeroFine
  obtain ⟨-, hn, hr, hl, -, hv, ha⟩ := id h
  refine h.of_parts (hc.of_eq rfl) (by simp) ?_ ?_
  · simpa [State.CountersInRange] using hn
  · simp only [State.BuffersLawful, State.enterRest_same]
    exact ⟨hr, hl, Nat.zero_le _, hv, ha⟩

theorem reqRest_inRange {s : State} (h : s.InRange) : Answer.InRange s (reqRest s) := by
  unfold reqRest
  split
  · exact ⟨h.enterRest, by simp, by simp [State.identWords]⟩
  · exact ⟨h, le_rfl, by simp [State.identWords]⟩

theorem reqWake_inRange {s : State} (h : s.InRange) : Answer.InRange s (reqWake s) := by
  unfold reqWake
  split
  · exact ⟨h.of_same_cars (by simp) (by simp) (by simp) (by simp) (by simp), by simp, by simp [State.identWords]⟩
  · exact ⟨h, le_rfl, by simp [State.identWords]⟩

theorem State.softReset_car (s : State) (a : CarIx) : s.softReset.car a = (s.car a).softReset := by
  simp [State.softReset, State.softResetTables]

/-- What a soft reset makes of the settings, the counters and the buffers (R150). -/
theorem State.softReset_fields (s : State) :
    (s.softReset.curves = s.curves ∧ s.softReset.cautionCap = s.cautionCap ∧
      s.softReset.silenceTimeout = s.silenceTimeout) ∧
    (s.softReset.frameErrors = 0 ∧ s.softReset.kindErrors = 0 ∧ s.softReset.dropped = 0) ∧
    s.softReset.replies = [] ∧ s.softReset.waitingLine = [] ∧ s.softReset.returnWindow = s.returnWindow ∧
    s.softReset.assembly = none := by
  simp only [State.softReset, State.softResetTables, and_self]

theorem State.CarsInRange.softReset {s : State} (h : s.CarsInRange) : s.softReset.CarsInRange := by
  intro a
  obtain ⟨hl, hu, hu', hd, hd', -⟩ := h a
  rw [State.softReset_car]
  exact ⟨hl, hu, hu', hd, hd', Nat.zero_le _⟩

theorem State.InRange.softReset {s : State} (h : s.InRange) : s.softReset.InRange := by
  obtain ⟨-, -, -, -, -, hv, -⟩ := id h
  obtain ⟨hs, hn, hr, hw, hv', ha⟩ := s.softReset_fields
  refine h.of_parts h.cars.softReset hs (by simp [State.CountersInRange, hn]) ?_
  unfold State.BuffersLawful
  rw [hr, hw, hv', ha]
  exact ⟨by simp, by simp, by simp, hv, by simp⟩

theorem reqSoftReset_inRange {s : State} (h : s.InRange) : Answer.InRange s (reqSoftReset s) := by
  unfold reqSoftReset
  refine ⟨h.softReset, ?_, by simp [accept]⟩
  rw [show (accept s.softReset []).1 = s.softReset from rfl, s.softReset_fields.2.2.1]
  exact Nat.zero_le _

/-- Every request keeps the ranges (R157). -/
theorem requestBody_inRange {s : State} (h : s.InRange) (code : Nat) (arg : BitVec 8) (d1 d2 d3 : Word16) :
    Answer.InRange s (requestBody code arg d1 d2 d3 s) := by
  unfold requestBody
  split
  · exact reqIdent_inRange h
  · exact reqStatus_inRange h _
  · exact reqNotices_inRange h
  · exact reqCause_inRange h
  · exact reqPortRole_inRange h _ _
  · exact reqPortMask_inRange h _ _
  · exact reqSectionWrite_inRange h _ _ _ _ _ _ _
  · exact reqSectionRead_inRange h _
  · exact reqSectionCounts_inRange h _ _ _
  · exact reqSectionClear_inRange h _
  · exact reqZoneWrite_inRange h _ _
  · exact reqZoneRead_inRange h _ _
  · exact reqCurveWrite_inRange h _ _ _
  · exact reqCurveRead_inRange h _ _
  · exact reqCarWrite_inRange h _ _ _ _ _
  · exact reqCarRead_inRange h _
  · exact reqCarIdentity_inRange h _
  · exact reqBind_inRange h _ _
  · exact reqUnbind_inRange h _
  · exact reqForget_inRange h _
  · exact reqPairOpen_inRange h _ _ _
  · exact reqPairCancel_inRange h _
  · exact reqPairRead_inRange h _ _
  · exact reqRevive_inRange h _
  · exact reqLimits_inRange h _ _ _ _
  · exact reqMode_inRange h _ _ _ _
  · exact reqRest_inRange h
  · exact reqWake_inRange h
  · exact reqSoftReset_inRange h
  · exact .refuse h _

theorem State.InRange.respond {s : State} (h : s.InRange) (code : BitVec 6) {f : State → Answer}
    (hf : Answer.InRange s (f s)) : (s.respond code f).InRange := by
  unfold State.respond
  split
  · exact h.dropRequest
  · obtain ⟨hv, hr, hw⟩ := hf
    exact hv.queueReply (by omega) hw

theorem State.InRange.complete {s : State} (h : s.InRange) (r : Assembly) : (s.complete r).InRange := by
  unfold State.complete
  split
  · exact h.dropRequest
  · rename_i hl
    have hq : ∀ st, (s.queueReply ⟨r.code, st, []⟩).InRange := fun st => h.queueReply (Nat.not_le.1 hl) (by simp)
    split
    · exact hq _
    · split
      · exact hq _
      · exact h.respond _ (requestBody_inRange h _ _ _ _ _)

theorem State.InRange.completeAtPosition {s : State} (h : s.InRange) (r : Assembly) :
    (s.completeAtPosition r).InRange := by
  have h1 : State.InRange { s with free := s.free + 1 } :=
    h.of_same_cars rfl ⟨rfl, rfl, rfl⟩ ⟨rfl, rfl, rfl, rfl, rfl⟩ rfl rfl
  unfold State.completeAtPosition
  split
  · exact h.freePosition.complete r
  · dsimp only
    split
    · exact (h1.complete r).freePosition
    · exact h1.freePosition.complete r

/-! ### The commands -/

theorem State.InRange.frameError {s : State} (h : s.InRange) : s.frameError.InRange := by
  obtain ⟨-, ⟨hf, hk, hd⟩, hb⟩ := id h
  have h1 : (State.notify { s with frameErrors := raise16 s.frameErrors } .frameErrors).InRange :=
    h.with_buffers (by simp) (by simp) ⟨raise16_le hf, hk, hd⟩ hb
  exact h1.arriveOther.freePosition

theorem State.InRange.kindError {s : State} (h : s.InRange) : s.kindError.InRange := by
  obtain ⟨-, ⟨hf, hk, hd⟩, hb⟩ := id h
  have h1 : (State.notify { s with kindErrors := raise16 s.kindErrors } .frameErrors).InRange :=
    h.with_buffers (by simp) (by simp) ⟨hf, raise16_le hk, hd⟩ hb
  exact h1.arriveOther.freePosition

theorem State.InRange.cycleFrame {s : State} (h : s.InRange) (race : RaceState) (e : Bool) (b : BitVec 13) :
    (s.cycleFrame race e b).InRange := by
  have h1 := h.arrive.cycleWindow.position (.frame (.cycle race e b))
  unfold State.cycleFrame
  generalize s.arrive.cycleWindow.position (.frame (.cycle race e b)) = u at h1
  have hc : (u.writeRace race e).CarsInRange := by
    have h2 : State.CarsInRange { u with race := race, laneEnable := e } := h1.cars.of_eq rfl
    unfold State.writeRace
    dsimp only
    split
    · exact h2
    · exact h2.disarmAll
  exact h1.of_same (hc.of_eq (by simp)) (by simp) (by simp) (by simp) (by simp)

theorem State.InRange.driveFrame {s : State} (h : s.InRange) (slot : BitVec 5) (t : BitVec 6) (b l p : Bool) :
    (s.driveFrame slot t b l p).InRange := by
  unfold State.driveFrame
  split
  · exact h.frameError
  · rename_i g _
    split
    · exact h.arriveOther
    · have h1 := h.arriveOther
      unfold State.driveSlot
      generalize s.arriveOther = u at h1
      have hc : (u.driveFlags g (u.resolve g) l p).CarsInRange :=
        ((h1.cars.laneEdge g (u.resolve g) l).pairEdge g p).of_eq (by simp [State.driveFlags])
      have h2 : (u.driveFlags g (u.resolve g) l p).InRange := h1.of_same hc (by simp) (by simp) (by simp) (by simp)
      unfold State.driveOut
      split
      · exact h2.freePosition
      · rename_i a _
        refine State.InRange.position ?_ _
        exact h2.of_same (h2.cars.shape a _ b) (by simp) (by simp) (by simp) (by simp)

theorem State.InRange.beginRequest {s : State} (h : s.InRange) (code : BitVec 6) (count : BitVec 2) (arg : BitVec 8) :
    (s.beginRequest ⟨code, count, arg, []⟩).InRange := by
  unfold State.beginRequest
  split
  · exact h.completeAtPosition _
  · rename_i hc
    refine State.InRange.freePosition (h.withAssembly ?_)
    rintro _ ⟨rfl⟩
    have : count ≠ 0 := hc
    simp only [List.length_nil]
    bv_omega

theorem State.InRange.dataFrame {s : State} (h : s.InRange) (w : Word16) : (s.dataFrame w).InRange := by
  unfold State.dataFrame
  split
  · exact h.freePosition
  · rename_i r hr
    obtain ⟨-, -, -, -, -, -, ha⟩ := id h
    have hl := ha r hr
    dsimp only
    split
    · exact State.InRange.completeAtPosition (h.withAssembly (by simp)) _
    · rename_i hn
      refine State.InRange.freePosition (h.withAssembly ?_)
      rintro _ ⟨rfl⟩
      simp only [List.length_append, List.length_singleton] at hn ⊢
      omega

theorem State.InRange.closeCarWindow {s : State} (h : s.InRange) (a : CarIx) (answered : Bool) :
    (s.closeCarWindow a answered).InRange := by
  unfold State.closeCarWindow
  split
  · exact h
  · rename_i hw
    have h1 := h.closeWindow hw
    exact h1.of_same (h1.cars.linkResult a answered) (by simp) (by simp) (by simp) (by simp)

theorem State.InRange.closeAssignWindow {s : State} (h : s.InRange) (p : PortIx) (answered : Bool) :
    (s.closeAssignWindow p answered).InRange := by
  unfold State.closeAssignWindow
  split
  · exact h
  · rename_i hw
    have h1 := h.closeWindow hw
    split
    · exact h1.of_same (h1.cars.assignResult p answered) (by simp) (by simp) (by simp) (by simp)
    · exact h1

theorem State.CarsInRange.approach {s : State} (h : s.CarsInRange) (p : PortIx) (code : BitVec 5) :
    (s.approach p code).CarsInRange := by
  unfold State.approach
  split
  · rename_i a _ _
    exact (h.disarm a).of_eq (by simp [State.grantCar])
  · exact h
  · exact h.of_eq (by simp)
  · exact h.of_eq (by simp)

theorem State.CarsInRange.takeSelfThrow {s : State} (h : s.CarsInRange) (p : PortIx) (code : BitVec 5) :
    (s.takeSelfThrow p code).CarsInRange := by
  have h1 : ∀ {u : State} car, u.CarsInRange → (u.selfThrowCar p car).CarsInRange := fun car hu => by
    unfold State.selfThrowCar
    split
    · exact hu
    · split
      · exact State.CarsInRange.disarm (hu.of_eq (by simp)) _
      · exact hu.of_eq (by simp)
  exact (h1 (carOf code.toNat) (h.of_eq (t := s.countThrow p) (by simp))).of_eq (by simp [State.takeSelfThrow])

/-- A module message keeps the ranges when its handling does. -/
theorem State.InRange.onMessage {s : State} (h : s.InRange) (p : PortIx) {f : State → State}
    (hf : ∀ u, u.InRange → (f u).InRange) : (s.onMessage p f).InRange := by
  unfold State.onMessage
  split
  · exact h
  · exact hf _ (h.of_same_cars (by simp) (by simp) (by simp) (by simp) (by simp))

theorem State.InRange.portError {s : State} (h : s.InRange) (p : PortIx) : (s.portError p).InRange :=
  h.of_same_cars (by simp) (by simp) (by simp) (by simp) (by simp)

theorem State.InRange.readerMessage {s : State} (h : s.InRange) (p : PortIx) {f : State → State}
    (hf : ∀ u, u.InRange → (f u).InRange) : (s.readerMessage p f).InRange :=
  h.onMessage p fun u hu => by
    split
    · exact hf u hu
    · exact hf u hu
    · exact hu.portError p
    · exact hu

theorem State.InRange.roleMessage {s : State} (h : s.InRange) (p : PortIx) (role : Role) {f : State → State}
    (hf : ∀ u, u.InRange → (f u).InRange) : (s.roleMessage p role f).InRange :=
  h.onMessage p fun u hu => by
    split
    · exact hf u hu
    · split
      · exact hu
      · exact hu.portError p

theorem State.InRange.flapMessage {s : State} (h : s.InRange) (p : PortIx) (ends : Bool) {f : State → State}
    (hf : ∀ u, u.InRange → (f u).InRange) : (s.flapMessage p ends f).InRange := by
  unfold State.flapMessage
  split
  · exact h.onMessage p fun u hu => hu.of_same_cars (by simp) (by simp) (by simp) (by simp) (by simp)
  · refine h.roleMessage p .switch fun u hu => ?_
    split
    · exact hf u hu
    · exact hu

theorem State.InRange.enterHalt {s : State} (h : s.InRange) : s.enterHalt.InRange := by
  have hc : (s.disarmAll.zeroFine).CarsInRange := h.cars.disarmAll.zeroFine
  have h1 : (s.disarmAll.zeroFine.notify .silence).InRange :=
    h.of_same (hc.of_eq (by simp)) (by simp) (by simp) (by simp) (by simp)
  unfold State.enterHalt
  dsimp only
  generalize s.disarmAll.zeroFine.notify .silence = u at h1
  refine State.InRange.fallDue ?_ _
  exact h1.of_same_cars rfl ⟨rfl, rfl, rfl⟩ ⟨rfl, rfl, rfl, rfl, rfl⟩ rfl rfl

theorem State.InRange.expire {s : State} (h : s.InRange) (due : Option Nat) {f : State → State}
    (hf : (f s).InRange) : (s.expire due f).InRange :=
  State.expire_induct (P := State.InRange) h fun _ _ _ => hf

theorem State.InRange.holdReset {s : State} (h : s.InRange) (c : Cause) : (s.holdReset c).InRange := by
  obtain ⟨-, hn, hr, hl, hlen, -, ha⟩ := id h
  refine h.with_buffers (by simp [State.holdReset]) (by simp [State.holdReset]) ?_ ?_
  · simpa [State.CountersInRange, State.holdReset] using hn
  · simp only [State.BuffersLawful, State.holdReset, State.mapPorts_fields]
    exact ⟨hr, hl, hlen, by simp, ha⟩

/-- The values of a hard reset are in range (R3, R25, R44, R45, R142, R155). -/
theorem State.hardReset_inRange (high : Bool) (c : Cause) (l : List Instr) : (State.hardReset high c l).InRange := by
  refine ⟨⟨fun a => ?_, fun c k => ?_, ?_⟩, ?_, ?_⟩
  · simp [State.hardReset, Car.reset]
  · have : ∀ k : Fin 9, linearCurve[k] ≤ 255 := by decide
    simpa [State.hardReset] using this k
  · simp [State.hardReset]
  · simp [State.CountersInRange, State.hardReset]
  · simp [State.BuffersLawful, State.hardReset]

theorem State.releaseReset_inRange (s : State) (high : Bool) : (s.releaseReset high).InRange :=
  (State.hardReset_inRange high s.cause s.pending).of_same_cars rfl ⟨rfl, rfl, rfl⟩ ⟨rfl, rfl, rfl, rfl, rfl⟩ rfl rfl

theorem State.InRange.idle {s : State} (h : s.InRange) : s.idle.InRange := by
  unfold State.idle
  split
  · exact h
  · rw [s.tick_same]
    exact h.of_same_cars rfl ⟨rfl, rfl, rfl⟩ ⟨rfl, rfl, rfl, rfl, rfl⟩ rfl rfl

theorem State.InRange.windowExpires {s : State} (h : s.InRange) (p : PortIx) : (s.windowExpires p).InRange := by
  unfold State.windowExpires
  split
  · exact h
  · rename_i x _
    refine h.expire _ ?_
    split
    · exact h.of_same (h.cars.failSession p x _) (by simp) (by simp) (by simp) (by simp)
    · exact h

theorem State.InRange.showExpires {s : State} (h : s.InRange) (p : PortIx) : (s.showExpires p).InRange := by
  unfold State.showExpires
  split
  · exact h
  · refine h.expire _ ?_
    split
    · exact h.of_same_cars (by simp) (by simp) (by simp) (by simp) (by simp)
    · exact h

theorem State.InRange.entryExpires {s : State} (h : s.InRange) (z : ZoneIx) (k : Nat) : (s.entryExpires z k).InRange := by
  unfold State.entryExpires
  split
  · exact h
  · exact h.expire _ (h.of_same_cars (by simp) (by simp) (by simp) (by simp) (by simp))

theorem State.InRange.guardExpires {s : State} (h : s.InRange) (z : ZoneIx) : (s.guardExpires z).InRange := by
  unfold State.guardExpires
  split
  · exact h
  · exact h.expire _ (h.of_same_cars (by simp) (by simp) (by simp) (by simp) (by simp))

theorem State.InRange.closeCarAddress {s : State} (h : s.InRange) (address : BitVec 5) (answered : Bool) :
    (s.closeCarAddress address answered).InRange := by
  unfold State.closeCarAddress
  split
  · exact h
  · exact h.closeCarWindow _ _

/-- An expiry that acts in some states alone. -/
theorem State.InRange.expire_ite {s : State} (h : s.InRange) (due : Option Nat) (c : State → Prop) [∀ u, Decidable (c u)]
    {f : State → State} (hf : (f s).InRange) : (s.expire due fun u => if c u then f u else u).InRange :=
  h.expire due (by split; exacts [hf, h])

/-- Every effect keeps the ranges. -/
theorem effect_inRange (c : Instr) {s : State} (h : s.InRange) : (effect c s).InRange := by
  cases c with
  | cycleFrame race e b => exact h.cycleFrame race e b
  | driveFrame slot t b l p => exact h.driveFrame slot t b l p
  | headFrame code count arg => exact h.arriveOther.beginRequest code count arg
  | dataFrame w => exact h.arrive.dataFrame w
  | fillFrame => exact h.arriveOther.freePosition
  | auxFrame k b => exact h.arriveOther.position _
  | frameError => exact h.frameError
  | kindError => exact h.kindError
  | frameBrokenOff => exact h.frameError
  | carAnswerWindowClose address answered => exact h.closeCarAddress address answered
  | assignAnswerWindowClose p answered => exact h.closeAssignWindow p answered
  | railOutputFree => exact h.railFree
  | insertionQueuePlace =>
    show State.InRange s.queuePlace
    exact h.of_same_cars (by simp) (by simp) (by simp) (by simp) (by simp)
  | hello p k b =>
    exact h.onMessage p fun u hu =>
      hu.of_same_cars (by simp) (by simp) (by simp) (by simp) (by simp)
  | approach p code =>
    refine h.readerMessage p fun u hu => ?_
    split
    · exact hu.of_same (hu.cars.approach p code) (by simp) (by simp) (by simp) (by simp)
    · exact hu
  | guard p code =>
    exact h.readerMessage p fun u hu =>
      hu.of_same_cars (by simp) (by simp) (by simp) (by simp) (by simp)
  | exitCross p code =>
    exact h.readerMessage p fun u hu =>
      hu.of_same_cars (by simp) (by simp) (by simp) (by simp) (by simp)
  | exitStraight p code =>
    exact h.readerMessage p fun u hu =>
      hu.of_same_cars (by simp) (by simp) (by simp) (by simp) (by simp)
  | ready p b =>
    exact h.flapMessage p true fun u hu =>
      hu.of_same_cars (by simp) (by simp) (by simp) (by simp) (by simp)
  | moving p =>
    exact h.flapMessage p false fun u hu =>
      hu.of_same_cars (by simp) (by simp) (by simp) (by simp) (by simp)
  | moduleFault p code =>
    exact h.flapMessage p true fun u hu =>
      hu.of_same_cars (by simp) (by simp) (by simp) (by simp) (by simp)
  | selfThrow p code =>
    exact h.roleMessage p .delegated fun u hu =>
      hu.of_same (hu.cars.takeSelfThrow p code) (by simp) (by simp) (by simp) (by simp)
  | identity p id =>
    refine h.roleMessage p .bay fun u hu => ?_
    split
    · exact hu.of_same (hu.cars.takeIdentity p id) (by simp) (by simp) (by simp) (by simp)
    · exact hu
  | portLineError p => exact h.onMessage p fun u hu => hu.portError p
  | portMessageBrokenOff p => exact h.onMessage p fun u hu => hu.portError p
  | portLineFree p =>
    show State.InRange (s.modPort p fun q => q.lineFree (s.after q.config.flapTimeout))
    exact h.of_same_cars (by simp) (by simp) (by simp) (by simp) (by simp)
  | flapCommandLeft p =>
    show State.InRange (s.modPort p fun q => q.flapCommandLeft (s.after q.config.flapTimeout))
    exact h.of_same_cars (by simp) (by simp) (by simp) (by simp) (by simp)
  | startUpSettleExpiry =>
    refine h.expire_ite _ _ ?_
    exact h.of_same_cars (by simp) (by simp) (by simp) (by simp) (by simp)
  | wakeSettleExpiry =>
    refine h.expire_ite _ _ ?_
    exact h.of_same_cars (by simp) (by simp) (by simp) (by simp) (by simp)
  | silenceDeadlineExpiry => exact h.expire_ite _ _ h.enterHalt
  | ownCycleTimerExpiry =>
    refine h.expire_ite _ _ (State.InRange.fallDue ?_ _)
    exact h.of_same_cars rfl ⟨rfl, rfl, rfl⟩ ⟨rfl, rfl, rfl, rfl, rfl⟩ rfl rfl
  | resetDeadlineExpiry p =>
    refine h.expire_ite _ _ ?_
    exact h.of_same_cars (by simp) (by simp) (by simp) (by simp) (by simp)
  | flapDeadlineExpiry p =>
    refine h.expire_ite _ _ ?_
    exact h.of_same_cars (by simp) (by simp) (by simp) (by simp) (by simp)
  | windowDeadlineExpiry p => exact h.windowExpires p
  | showDeadlineExpiry p => exact h.showExpires p
  | entryExpiry z k => exact h.entryExpires z _
  | guardExpiry z => exact h.guardExpires z
  | _ => exact h

/-- Settles O56: the ranges hold together, each operation of the blocks keeps them, so every command and the idle step do. -/
theorem stepsKeepValuesInRange : Obligations.StepsKeepValuesInRange := by
  unfold Obligations.StepsKeepValuesInRange
  intro s t h hs
  refine step_keeps (P := State.InRange) (fun s l hl => hl) (fun s hi => hi.idle) (fun c s t hs h => ?_) h hs
  exact exec_keeps (P := State.InRange) (fun c s _ _ _ hs => effect_inRange c hs)
    (fun s code n arg d1 d2 d3 _ hs => hs.respond code (requestBody_inRange hs n arg d1 d2 d3))
    (fun s cause hs => hs.holdReset cause) (fun s high _ => s.releaseReset_inRange high) hs h

end Sys2Proof.Machine

/-! Which operations leave the ports' roles, the slots' claims and the cars' reservations as they are: with the sessions and the
insertion queue, what the pairing laws speak of (R12, R69, R74, R78). -/

namespace Sys2Proof.Machine

/-- The role of each port (R92). -/
def State.roles (s : State) : PortIx → Role := fun p => (s.port p).role

/-- The claim on each slot (R23). -/
def State.claims (s : State) : SlotIx → Option PortIx := fun h => (s.slot h).claim

/-- The reservation of each car (R25). -/
def State.reservations (s : State) : CarIx → Option PortIx := fun a => (s.car a).reservation

theorem State.roles_of_ports {s t : State} (h : t.ports = s.ports) : t.roles = s.roles := by
  unfold State.roles; simp [h]

theorem State.claims_of_slots {s t : State} (h : t.slots = s.slots) : t.claims = s.claims := by
  unfold State.claims; simp [h]

theorem State.reservations_of_cars {s t : State} (h : t.cars = s.cars) : t.reservations = s.reservations := by
  unfold State.reservations; simp [h]

/-! ### Roles -/

theorem State.roles_modPort {s : State} {p : PortIx} {f : Port → Port} (h : ∀ q, (f q).role = q.role) :
    (s.modPort p f).roles = s.roles := by
  funext q
  show ((s.modPort p f).port q).role = _
  rw [State.port_modPort]
  split
  · rename_i e; rw [h, e]; rfl
  · rfl

theorem State.roles_mapPorts {s : State} {f : Port → Port} (h : ∀ q, (f q).role = q.role) :
    (s.mapPorts f).roles = s.roles := by
  funext q
  show ((s.mapPorts f).port q).role = _
  rw [State.port_mapPorts, h]; rfl

@[simp] theorem Port.issue_role (q : Port) (m : HubMsg) : (q.issue m).role = q.role := by
  unfold Port.issue; split <;> rfl

@[simp] theorem Port.startMotion_role (q : Port) (m : HubMsg) (st : PortState) : (q.startMotion m st).role = q.role := by
  simp [Port.startMotion]

@[simp] theorem Port.startReturn_role (q : Port) : q.startReturn.role = q.role := by simp [Port.startReturn]

@[simp] theorem Port.intoFault_role (q : Port) : q.intoFault.role = q.role := rfl

@[simp] theorem Port.messageLeft_role (q : Port) (due : Nat) : (q.messageLeft due).role = q.role := by
  unfold Port.messageLeft
  split
  · rfl
  · split <;> rfl

@[simp] theorem Port.lineFree_role (q : Port) (due : Nat) : (q.lineFree due).role = q.role := by
  unfold Port.lineFree Port.nextMessage
  split <;> simp

@[simp] theorem Port.flapCommandLeft_role (q : Port) (due : Nat) : (q.flapCommandLeft due).role = q.role := by
  unfold Port.flapCommandLeft; split <;> simp

@[simp] theorem Port.clearSection_role (q : Port) : q.clearSection.role = q.role := by
  unfold Port.clearSection; dsimp only; split <;> simp

@[simp] theorem Port.rest_role (q : Port) : q.rest.role = q.role := by
  unfold Port.rest; split <;> simp [Port.clearMotion]

@[simp] theorem Port.wake_role (q : Port) (due : Nat) : (q.wake due).role = q.role := by
  unfold Port.wake; split <;> simp

@[simp] theorem Port.softReset_role (q : Port) (due : Nat) : (q.softReset due).role = q.role := by
  have hp : ∀ r : Port, r.powerIfDormant.role = r.role := fun r => by unfold Port.powerIfDormant; split <;> simp
  unfold Port.softReset
  split
  · rfl
  · simp [Port.clearCounts, Port.clearMotion, Port.resetModule, hp]

@[simp] theorem State.notifyPort_roles (s : State) (n : Notice) (p : PortIx) : (s.notifyPort n p).roles = s.roles :=
  State.roles_of_ports (by simp)

@[simp] theorem State.portError_roles (s : State) (p : PortIx) : (s.portError p).roles = s.roles := by
  simp [State.portError, State.roles_modPort]

@[simp] theorem State.countThrow_roles (s : State) (p : PortIx) : (s.countThrow p).roles = s.roles := by
  unfold State.countThrow; dsimp only; split <;> simp [State.roles_modPort]

@[simp] theorem State.requestThrow_roles (s : State) (p : PortIx) : (s.requestThrow p).roles = s.roles := by
  unfold State.requestThrow; split <;> simp [State.roles_modPort]

@[simp] theorem State.requestReturn_roles (s : State) (p : PortIx) : (s.requestReturn p).roles = s.roles := by
  unfold State.requestReturn; split <;> simp [State.roles_modPort]

@[simp] theorem State.flapFails_roles (s : State) (p : PortIx) : (s.flapFails p).roles = s.roles := by
  simp [State.flapFails, State.roles_modPort]

@[simp] theorem State.takeModuleFault_roles (s : State) (p : PortIx) (code : BitVec 8) :
    (s.takeModuleFault p code).roles = s.roles := by
  unfold State.takeModuleFault
  rw [State.notifyPort_roles, State.roles_modPort]
  intro q
  dsimp only
  split <;> simp

@[simp] theorem State.takeReady_roles (s : State) (p : PortIx) (b : Bool) : (s.takeReady p b).roles = s.roles := by
  unfold State.takeReady
  split
  · split
    · split <;> simp [State.roles_modPort]
    · simp
  · split <;> simp [State.roles_modPort]
  all_goals rfl

@[simp] theorem State.takeMoving_roles (s : State) (p : PortIx) : (s.takeMoving p).roles = s.roles := by
  unfold State.takeMoving; split <;> simp [State.roles_modPort]

@[simp] theorem State.sendLamp_roles (s : State) (p : PortIx) (v : Lamp) : (s.sendLamp p v).roles = s.roles := by
  unfold State.sendLamp; split <;> simp [State.roles_modPort]

@[simp] theorem State.startUp_roles (s : State) (p : PortIx) (k : ModuleKind) (b : Bool) :
    (s.startUp p k b).roles = s.roles := by
  have h1 : ∀ u : State, (u.sendSessionLamp p).roles = u.roles := fun u => by
    unfold State.sendSessionLamp; split <;> simp
  have h2 : ∀ q : Port, (if b then q.startReturn else { q with state := .straight }).role = q.role := fun q => by
    split <;> simp
  unfold State.startUp
  dsimp only
  split
  · split <;> simp [State.roles_modPort, h1, h2]
  · simp [State.roles_modPort]

@[simp] theorem State.removeEntry_roles (s : State) (z : ZoneIx) (k : Nat) (f : Counters → Counters) :
    (s.removeEntry z k f).roles = s.roles := by
  have h1 : ∀ (u : State) p, (u.returnIfDone z p).roles = u.roles := fun u p => by
    unfold State.returnIfDone; split <;> simp
  unfold State.removeEntry
  split
  · rfl
  · refine Eq.trans (State.roles_modPort ?_) ?_
    · intro q; rfl
    rw [h1]
    exact State.roles_of_ports (by simp)

@[simp] theorem State.supersede_roles (s : State) (a : CarIx) (p : PortIx) : (s.supersede a p).roles = s.roles := by
  unfold State.supersede
  split
  · rfl
  · split
    · exact State.roles_of_ports (by simp)
    · simp

@[simp] theorem State.approach_roles (s : State) (p : PortIx) (code : BitVec 5) : (s.approach p code).roles = s.roles := by
  have h1 : ∀ (u : State) v, (u.recordDecision p code v).roles = u.roles := fun u v => State.roles_modPort fun _ => rfl
  have h2 : ∀ (u : State) z c r, (u.appendEntry z c p r).roles = u.roles := fun u z c r =>
    State.roles_of_ports (by simp)
  have h3 : ∀ a, (s.disarm a).roles = s.roles := fun a => State.roles_of_ports (by simp)
  unfold State.approach State.grantCar State.refuseCar
  split <;> simp [h1, h2, h3]

@[simp] theorem State.takeGuard_roles (s : State) (p : PortIx) (code : BitVec 5) : (s.takeGuard p code).roles = s.roles :=
  State.roles_of_ports (by simp)

@[simp] theorem State.takeExitCross_roles (s : State) (p : PortIx) (code : BitVec 5) :
    (s.takeExitCross p code).roles = s.roles := by
  have h1 : (s.countSwept p).roles = s.roles := State.roles_modPort fun _ => rfl
  unfold State.takeExitCross
  dsimp only
  split <;> split <;> simp [h1]

@[simp] theorem State.takeExitStraight_roles (s : State) (p : PortIx) (code : BitVec 5) :
    (s.takeExitStraight p code).roles = s.roles := by
  unfold State.takeExitStraight
  dsimp only
  split
  · split <;> simp
  · rfl

@[simp] theorem State.takeSelfThrow_roles (s : State) (p : PortIx) (code : BitVec 5) :
    (s.takeSelfThrow p code).roles = s.roles := by
  have h1 : ∀ (u : State) c, (u.selfThrowCar p c).roles = u.roles := fun u c => by
    unfold State.selfThrowCar
    split
    · rfl
    · rename_i a
      split
      · exact (State.roles_of_ports (by simp)).trans (u.supersede_roles a p)
      · exact u.supersede_roles a p
  have h2 : ∀ (u : State) z, (u.markConflict p z).roles = u.roles := fun u z => State.roles_of_ports (by simp)
  have h3 : ∀ (u : State) z, (u.displace z).roles = u.roles := fun u z => by
    unfold State.displace; split <;> simp
  have h4 : ∀ (u : State) z c r, (u.appendEntry z c p r).roles = u.roles := fun u z c r =>
    State.roles_of_ports (by simp)
  simp [State.takeSelfThrow, h1, h2, h3, h4]

@[simp] theorem State.takeHello_roles (s : State) (p : PortIx) (k : ModuleKind) (b : Bool) :
    (s.takeHello p k b).roles = s.roles := by
  have h1 : (s.restartPort p).roles = s.roles := by
    unfold State.restartPort
    rw [State.roles_modPort fun _ => by rfl]
    exact State.roles_of_ports (by simp)
  have h2 : (if (s.port p).role = .bay then s.startUp p k b else (s.restartPort p).startUp p k b).roles = s.roles := by
    split
    · exact s.startUp_roles p k b
    · rw [State.startUp_roles, h1]
  unfold State.takeHello
  split
  case h_1 | h_2 => rfl
  case h_3 | h_4 | h_5 => exact s.startUp_roles p k b
  all_goals exact h2

@[simp] theorem State.cycleRun_roles (s : State) : s.cycleRun.roles = s.roles := by
  have h1 : s.beginWake.roles = s.roles := by
    refine Eq.trans (b := (s.mapPorts (Port.wake (s.after 100))).roles) (State.roles_of_ports ?_) ?_
    · simp only [State.beginWake]
    · exact State.roles_mapPorts fun q => by simp
  unfold State.cycleRun
  split
  · exact State.roles_of_ports (by simp)
  · exact State.roles_of_ports (by simp)
  · exact h1
  · rfl
  · rfl

@[simp] theorem State.showSession_roles (s : State) (p : PortIx) (old : SessionState) (x : Session) :
    (s.showSession p old x).roles = s.roles := by
  have h1 : (s.setSession p (some x)).roles = s.roles := State.roles_of_ports (by simp)
  unfold State.showSession
  dsimp only
  split <;> simp [h1]

/-! ### Claims -/

theorem State.claims_modSlot {s : State} {h : SlotIx} {f : Slot → Slot} (hf : ∀ x, (f x).claim = x.claim) :
    (s.modSlot h f).claims = s.claims := by
  funext g
  show ((s.modSlot h f).slot g).claim = _
  rw [State.slot_modSlot]
  split
  · rename_i e; rw [hf, e]; rfl
  · rfl

/-- The claims after one claim is written. -/
theorem State.claims_claimSlot (s : State) (h : SlotIx) (c : Option PortIx) :
    (s.claimSlot (some h) c).claims = fun g => if h = g then c else s.claims g := by
  funext g
  show ((s.modSlot h fun x => { x with claim := c }).slot g).claim = _
  rw [State.slot_modSlot]
  split <;> rfl

@[simp] theorem State.writeFlags_claims (s : State) (h : SlotIx) (lane pair : Bool) :
    (s.writeFlags h lane pair).claims = s.claims := State.claims_modSlot fun _ => rfl

@[simp] theorem State.dropBinding_claims (s : State) (h : SlotIx) : (s.dropBinding h).claims = s.claims := by
  unfold State.dropBinding
  split
  · rfl
  · refine Eq.trans (State.claims_of_slots ?_)
      (State.claims_modSlot (h := h) (f := fun x => { x with binding := none }) fun x => ?_)
    · simp
    · rfl

@[simp] theorem State.dropHolder_claims (s : State) (a : CarIx) : (s.dropHolder a).claims = s.claims := by
  unfold State.dropHolder
  split
  · rfl
  · rename_i g _
    refine Eq.trans (State.claims_of_slots ?_)
      (State.claims_modSlot (h := g) (f := fun x => { x with binding := none }) fun x => ?_)
    · simp
    · rfl

@[simp] theorem State.bindTo_claims (s : State) (h : SlotIx) (a : CarIx) : (s.bindTo h a).claims = s.claims := by
  obtain ⟨s1, s2, e1, e2, e3⟩ := State.bind_steps s h a
  have h1 : s1.claims = s.claims := by rw [e1]; split <;> simp
  have h2 : s2.claims = s1.claims := by rw [e2]; split <;> simp
  rw [e3, ← h1, ← h2]
  refine Eq.trans (State.claims_of_slots ?_)
    (State.claims_modSlot (h := h) (f := fun x => { x with binding := some a }) fun x => ?_)
  · simp
  · rfl

/-! ### Reservations -/

theorem State.reservations_modCar {s : State} {a : CarIx} {f : Car → Car} (hf : ∀ c, (f c).reservation = c.reservation) :
    (s.modCar a f).reservations = s.reservations := by
  funext b
  show ((s.modCar a f).car b).reservation = _
  rw [State.car_modCar]
  split
  · rename_i e; rw [hf, e]; rfl
  · rfl

theorem State.reservations_mapCars {s : State} {f : CarIx → Car → Car}
    (hf : ∀ a c, (f a c).reservation = c.reservation) : (s.mapCars f).reservations = s.reservations := by
  funext b
  show ((s.mapCars f).car b).reservation = _
  rw [State.car_mapCars, hf]; rfl

/-- The reservations after one car's is written. -/
theorem State.reservations_modCar_write {s : State} {a : CarIx} {f : Car → Car} {r : Option PortIx}
    (hf : ∀ c, (f c).reservation = r) : (s.modCar a f).reservations = fun b => if a = b then r else s.reservations b := by
  funext b
  show ((s.modCar a f).car b).reservation = _
  rw [State.car_modCar]
  split
  · rw [hf]
  · rfl

@[simp] theorem State.disarmMoved_reservations (s t : State) : (State.disarmMoved s t).reservations = t.reservations :=
  State.reservations_mapCars fun _ c => by split <;> rfl

@[simp] theorem State.disarm_reservations (s : State) (a : CarIx) : (s.disarm a).reservations = s.reservations :=
  State.reservations_modCar fun _ => rfl

@[simp] theorem State.disarmAll_reservations (s : State) : s.disarmAll.reservations = s.reservations :=
  State.reservations_mapCars fun _ _ => rfl

@[simp] theorem State.zeroFine_reservations (s : State) : s.zeroFine.reservations = s.reservations :=
  State.reservations_mapCars fun _ _ => rfl

@[simp] theorem State.shape_reservations (s : State) (a : CarIx) (t : Nat) (b : Bool) :
    (s.shape a t b).reservations = s.reservations := State.reservations_modCar fun _ => rfl

@[simp] theorem State.laneEdge_reservations (s : State) (h : SlotIx) (x : Option CarIx) (lane : Bool) :
    (s.laneEdge h x lane).reservations = s.reservations := by
  unfold State.laneEdge
  split
  · rfl
  · split
    · exact State.reservations_modCar fun _ => rfl
    · rfl

@[simp] theorem State.dropBinding_reservations (s : State) (h : SlotIx) :
    (s.dropBinding h).reservations = s.reservations := by
  unfold State.dropBinding
  split
  · rfl
  · refine Eq.trans (State.reservations_modCar fun c => ?_) (State.reservations_of_cars ?_)
    · rfl
    · simp

@[simp] theorem State.dropHolder_reservations (s : State) (a : CarIx) :
    (s.dropHolder a).reservations = s.reservations := by
  unfold State.dropHolder
  split
  · rfl
  · refine Eq.trans (State.reservations_modCar fun c => ?_) (State.reservations_of_cars ?_)
    · rfl
    · simp

@[simp] theorem State.bindTo_reservations (s : State) (h : SlotIx) (a : CarIx) :
    (s.bindTo h a).reservations = s.reservations := by
  obtain ⟨s1, s2, e1, e2, e3⟩ := State.bind_steps s h a
  have h1 : s1.reservations = s.reservations := by rw [e1]; split <;> simp
  have h2 : s2.reservations = s1.reservations := by rw [e2]; split <;> simp
  rw [e3, ← h1, ← h2]
  refine Eq.trans (State.reservations_modCar fun c => ?_) (State.reservations_of_cars ?_)
  · rfl
  · simp

@[simp] theorem State.forgetCar_reservations (s : State) (a : CarIx) : (s.forgetCar a).reservations = s.reservations := by
  unfold State.forgetCar
  split
  · rfl
  · rw [State.disarmMoved_reservations]
    refine Eq.trans (State.reservations_modCar fun c => ?_) (s.dropHolder_reservations a)
    rfl

@[simp] theorem State.forgetCar_claims (s : State) (a : CarIx) : (s.forgetCar a).claims = s.claims := by
  unfold State.forgetCar
  split
  · rfl
  · exact (State.claims_of_slots (by simp)).trans (s.dropHolder_claims a)

/-- The reservations after a car is reserved (R40). -/
theorem State.reserve_reservations (s : State) (a : CarIx) (p : PortIx) :
    (s.reserve a p).reservations = fun b => if a = b then some p else s.reservations b := by
  unfold State.reserve
  rw [State.disarmMoved_reservations]
  exact State.reservations_modCar_write fun _ => rfl

/-- The reservations after a car is released (R41). -/
theorem State.release_reservations (s : State) (a : CarIx) :
    (s.release a).reservations = fun b => if a = b then none else s.reservations b := by
  unfold State.release
  rw [State.disarmMoved_reservations]
  exact State.reservations_modCar_write fun _ => rfl

/-- The claims and the reservations after a pairing commit (R42): the car's reservation is released. -/
theorem State.commit_reservations (s : State) (h : SlotIx) (a : CarIx) (id : Identity) :
    (s.commit h a id).claims = s.claims ∧
    (s.commit h a id).reservations = fun b => if a = b then none else s.reservations b := by
  have hc : ((s.bindTo h a).clearIdentity a id).reservations = s.reservations := by
    refine Eq.trans (State.reservations_mapCars fun b c => ?_) (s.bindTo_reservations h a)
    split <;> rfl
  have hd : ((s.bindTo h a).clearIdentity a id).claims = s.claims :=
    (State.claims_of_slots (by simp)).trans (s.bindTo_claims h a)
  unfold State.commit
  generalize (s.bindTo h a).clearIdentity a id = u at hc hd
  rw [State.disarmMoved_reservations, ← hc, ← hd]
  refine ⟨State.claims_of_slots (by simp), ?_⟩
  exact State.reservations_modCar_write fun _ => rfl

@[simp] theorem State.setFallback_reservations (s : State) (on : Bool) : (s.setFallback on).reservations = s.reservations := by
  unfold State.setFallback
  rw [State.disarmMoved_reservations]
  rfl

@[simp] theorem State.setFaults_reservations (s : State) (a : CarIx) (n : Nat) :
    (s.setFaults a n).reservations = s.reservations := by
  have h1 : (s.modCar a fun c => { c with faults := n, link := linkOf n }).reservations = s.reservations :=
    State.reservations_modCar fun _ => rfl
  unfold State.setFaults
  dsimp only
  split
  · exact (State.reservations_of_cars (by simp)).trans h1
  · exact h1

@[simp] theorem State.linkResult_reservations (s : State) (a : CarIx) (answered : Bool) :
    (s.linkResult a answered).reservations = s.reservations := by
  have h1 : ∀ (f : Car → Car) n, (∀ c, (f c).reservation = c.reservation) →
      ((s.modCar a f).notifyCar n a).reservations = s.reservations := fun f n hf =>
    Eq.trans (b := (s.modCar a f).reservations) (State.reservations_of_cars (by simp)) (State.reservations_modCar hf)
  unfold State.linkResult State.lostResult State.restoreLink State.loseLink
  split <;> split
  · split
    · exact h1 _ _ fun _ => rfl
    · exact State.reservations_modCar fun _ => rfl
  · exact State.reservations_modCar fun _ => rfl
  · exact s.setFaults_reservations a _
  · split
    · exact h1 _ _ fun _ => rfl
    · exact s.setFaults_reservations a _

@[simp] theorem State.approach_reservations (s : State) (p : PortIx) (code : BitVec 5) :
    (s.approach p code).reservations = s.reservations := by
  unfold State.approach
  split
  · rename_i a _ _
    exact (State.reservations_of_cars (by simp [State.grantCar])).trans (s.disarm_reservations a)
  · rfl
  · exact State.reservations_of_cars (by simp)
  · exact State.reservations_of_cars (by simp)

@[simp] theorem State.takeSelfThrow_reservations (s : State) (p : PortIx) (code : BitVec 5) :
    (s.takeSelfThrow p code).reservations = s.reservations := by
  have h1 : ∀ (u : State) c, (u.selfThrowCar p c).reservations = u.reservations := fun u c => by
    unfold State.selfThrowCar
    split
    · rfl
    · split
      · exact (State.disarm_reservations _ _).trans (State.reservations_of_cars (by simp))
      · exact State.reservations_of_cars (by simp)
  have h2 : ((s.countThrow p).selfThrowCar p (carOf code.toNat)).reservations = s.reservations :=
    (h1 _ _).trans (State.reservations_of_cars (by simp))
  exact (State.reservations_of_cars (by simp [State.takeSelfThrow])).trans h2

end Sys2Proof.Machine

/-! The pairing laws, port by port: what the laws of the sessions and of the insertion queue say of one port, and which changes of
a state leave them as they are (R12, R69, R74, R78). -/

namespace Sys2Proof.Machine

/-- The ports of the ASSIGN answers still to come (R12, R17). -/
def State.livePorts (s : State) : List PortIx := s.windows.filterMap AnswerWindow.livePort

theorem State.pairingPorts_eq (s : State) :
    s.pairingPorts = s.queueWaiting ++ s.insertionQueue.map (·.port) ++ s.livePorts := rfl

@[simp] theorem AnswerWindow.livePort_eq_some_iff (w : AnswerWindow) (p : PortIx) : w.livePort = some p ↔ w = .assign p := by
  cases w <;> simp [AnswerWindow.livePort]

theorem State.mem_livePorts (s : State) (p : PortIx) : p ∈ s.livePorts ↔ .assign p ∈ s.windows := by
  simp [State.livePorts]

theorem State.livePorts_congr {s t : State} (hw : t.window = s.window) (hc : t.closing = s.closing)
    (hl : t.waitingLine = s.waitingLine) : t.livePorts = s.livePorts := by
  unfold State.livePorts State.windows
  rw [hw, hc, hl]

/-- The claims and the reservations that port `p` holds are those that the session `x` names (R69, R74). -/
structure State.Names (s : State) (p : PortIx) (x : Session) : Prop where
  claim : ∀ h, s.claims h = some p ↔ x.state.isOpen = true ∧ x.slot = some h
  reservation : ∀ a, s.reservations a = some p ↔ x.state.holdsCar = true ∧ x.address = some a

/-- Port `p` holds no claim and no reservation. -/
structure State.HoldsNothing (s : State) (p : PortIx) : Prop where
  claim : ∀ h, s.claims h ≠ some p
  reservation : ∀ a, s.reservations a ≠ some p

/-- What the laws of the sessions say of port `p` (R69, R74). -/
structure State.SessionLaw (s : State) (p : PortIx) : Prop where
  bay : (s.session p).isSome ↔ s.roles p = .bay
  lawful : ∀ x, s.session p = some x → x.Lawful
  names : ∀ x, s.session p = some x → s.Names p x
  nothing : s.session p = none → s.HoldsNothing p

/-- What the laws of the insertion queue say of port `p` (R12, R78). -/
structure State.PlaceLaw (s : State) (p : PortIx) : Prop where
  once : s.pairingPorts.count p ≤ 1
  waiting : p ∈ s.queueWaiting → ∃ x, s.session p = some x ∧ x.state = .queued
  queued : ∀ q ∈ s.insertionQueue, q.port = p → ∃ x, s.session p = some x ∧ x.state = .sending ∧
    x.identity = some q.identity ∧ x.address = some q.address
  live : p ∈ s.livePorts → ∃ x, s.session p = some x ∧ x.state = .sending
  placed : s.resetHeld = false → ∀ x, s.session p = some x → x.state.holdsCar = true → p ∈ s.pairingPorts

/-- The insertion queue has at most three sequences of five frames (R12, R78). -/
def State.QueueShape (s : State) : Prop := s.insertionQueue.length ≤ 3 ∧ ∀ q ∈ s.insertionQueue, q.sent ≤ 4

/-- The pairing laws, port by port. -/
structure State.PairingLawful (s : State) : Prop where
  shape : s.QueueShape
  sessions : ∀ p, s.SessionLaw p
  places : ∀ p, s.PlaceLaw p

/-- The laws of the sessions, port by port. -/
theorem State.sessionsLawful_iff (s : State) : s.SessionsLawful ↔ ∀ p, s.SessionLaw p := by
  constructor
  · rintro ⟨hb, hl, hc, hr⟩ p
    refine ⟨hb p, hl p, fun x hx => ⟨fun h => ?_, fun a => ?_⟩, fun hn => ⟨fun h hh => ?_, fun a ha => ?_⟩⟩
    · exact (hc h p).trans ⟨by rintro ⟨y, hy, h1, h2⟩; rw [hx] at hy; cases hy; exact ⟨h1, h2⟩,
        fun ⟨h1, h2⟩ => ⟨x, hx, h1, h2⟩⟩
    · exact (hr a p).trans ⟨by rintro ⟨y, hy, h1, h2⟩; rw [hx] at hy; cases hy; exact ⟨h1, h2⟩,
        fun ⟨h1, h2⟩ => ⟨x, hx, h1, h2⟩⟩
    · obtain ⟨y, hy, -⟩ := (hc h p).1 hh
      rw [hn] at hy; cases hy
    · obtain ⟨y, hy, -⟩ := (hr a p).1 ha
      rw [hn] at hy; cases hy
  · intro h
    refine ⟨fun p => (h p).bay, fun p => (h p).lawful, fun g p => ?_, fun a p => ?_⟩
    · cases hx : s.session p with
      | none => exact ⟨fun hg => absurd hg (((h p).nothing hx).claim g), by rintro ⟨x, hx', -⟩; cases hx'⟩
      | some x =>
        exact (((h p).names x hx).claim g).trans ⟨fun ⟨h1, h2⟩ => ⟨x, rfl, h1, h2⟩, by rintro ⟨y, ⟨⟩, h1, h2⟩; exact ⟨h1, h2⟩⟩
    · cases hx : s.session p with
      | none => exact ⟨fun hg => absurd hg (((h p).nothing hx).reservation a), by rintro ⟨x, hx', -⟩; cases hx'⟩
      | some x =>
        exact (((h p).names x hx).reservation a).trans
          ⟨fun ⟨h1, h2⟩ => ⟨x, rfl, h1, h2⟩, by rintro ⟨y, ⟨⟩, h1, h2⟩; exact ⟨h1, h2⟩⟩

/-- The laws of the insertion queue, port by port. -/
theorem State.queueLawful_iff (s : State) : s.QueueLawful ↔ s.QueueShape ∧ ∀ p, s.PlaceLaw p := by
  constructor
  · rintro ⟨hl, hn, hw, hq, ha, hp⟩
    refine ⟨⟨hl, fun q h => (hq q h).1⟩, fun p => ⟨List.nodup_iff_count_le_one.1 hn p, hw p, fun q h e => ?_, fun h => ?_,
      fun h0 x hx hc => hp h0 p x hx hc⟩⟩
    · subst e; exact (hq q h).2
    · exact ha p ((s.mem_livePorts p).1 h)
  · rintro ⟨⟨hl, hs⟩, h⟩
    exact ⟨hl, List.nodup_iff_count_le_one.2 fun p => (h p).once, fun p hp => (h p).waiting hp,
      fun q hq => ⟨hs q hq, (h q.port).queued q hq rfl⟩, fun p hp => (h p).live ((s.mem_livePorts p).2 hp),
      fun h0 p => (h p).placed h0⟩

theorem State.pairingLawful_iff (s : State) : s.PairingLawful ↔ s.SessionsLawful ∧ s.QueueLawful := by
  rw [s.sessionsLawful_iff, s.queueLawful_iff]
  exact ⟨fun ⟨h1, h2, h3⟩ => ⟨h2, h1, h3⟩, fun ⟨h2, h1, h3⟩ => ⟨h1, h2, h3⟩⟩

/-! ### A change that does not concern a port -/

/-- What the pairing laws say of port `q` is the same in `t` as in `s`. -/
structure State.SameFor (q : PortIx) (s t : State) : Prop where
  session : t.session q = s.session q
  role : t.roles q = s.roles q
  claim : ∀ h, t.claims h = some q ↔ s.claims h = some q
  reservation : ∀ a, t.reservations a = some q ↔ s.reservations a = some q
  waiting : t.queueWaiting.count q = s.queueWaiting.count q
  queue : t.insertionQueue.filter (fun x => decide (x.port = q)) = s.insertionQueue.filter (fun x => decide (x.port = q))
  live : t.livePorts.count q = s.livePorts.count q
  held : t.resetHeld = s.resetHeld

theorem State.SameFor.trans {q : PortIx} {s t u : State} (h : State.SameFor q s t) (k : State.SameFor q t u) :
    State.SameFor q s u :=
  ⟨k.session.trans h.session, k.role.trans h.role, fun g => (k.claim g).trans (h.claim g),
    fun a => (k.reservation a).trans (h.reservation a), k.waiting.trans h.waiting, k.queue.trans h.queue,
    k.live.trans h.live, k.held.trans h.held⟩

/-- Where the fields that the pairing laws speak of are the same. -/
theorem State.SameFor.of_fields {q : PortIx} {s t : State} (hs : t.sessions = s.sessions) (hr : t.roles = s.roles)
    (hc : t.claims = s.claims) (hv : t.reservations = s.reservations) (hi : s.SameInsertion t)
    (ho : t.window = s.window ∧ t.closing = s.closing ∧ t.waitingLine = s.waitingLine) (hh : t.resetHeld = s.resetHeld) :
    State.SameFor q s t := by
  obtain ⟨h1, h2⟩ := hi
  obtain ⟨o1, o2, o3⟩ := ho
  exact ⟨by simp [hs], by rw [hr], fun h => by rw [hc], fun a => by rw [hv], by rw [h2], by rw [h1],
    by rw [State.livePorts_congr o1 o2 o3], hh⟩

/-- How often port `q` stands among those that wait for a place, the sequences and the answers still to come. -/
theorem State.count_pairingPorts (s : State) (q : PortIx) : s.pairingPorts.count q =
    s.queueWaiting.count q + (s.insertionQueue.filter (fun x => decide (x.port = q))).length + s.livePorts.count q := by
  rw [s.pairingPorts_eq, List.count_append, List.count_append, List.count_eq_length_filter (l := s.insertionQueue.map _),
    List.filter_map, List.length_map]
  rfl

theorem State.SameFor.count {q : PortIx} {s t : State} (h : State.SameFor q s t) :
    t.pairingPorts.count q = s.pairingPorts.count q := by
  rw [State.count_pairingPorts, State.count_pairingPorts, h.waiting, h.queue, h.live]

theorem State.SameFor.sessionLaw {q : PortIx} {s t : State} (h : State.SameFor q s t) (k : s.SessionLaw q) :
    t.SessionLaw q := by
  obtain ⟨hb, hl, hn, h0⟩ := k
  refine ⟨by rw [h.session, h.role]; exact hb, fun x hx => hl x (h.session ▸ hx), fun x hx => ?_, fun hx => ?_⟩
  · obtain ⟨hc, hr⟩ := hn x (h.session ▸ hx)
    exact ⟨fun g => (h.claim g).trans (hc g), fun a => (h.reservation a).trans (hr a)⟩
  · obtain ⟨hc, hr⟩ := h0 (h.session ▸ hx)
    exact ⟨fun g hg => hc g ((h.claim g).1 hg), fun a ha => hr a ((h.reservation a).1 ha)⟩

theorem State.SameFor.placeLaw {q : PortIx} {s t : State} (h : State.SameFor q s t) (k : s.PlaceLaw q) : t.PlaceLaw q := by
  obtain ⟨ho, hw, hq, ha, hp⟩ := k
  refine ⟨h.count ▸ ho, fun hm => ?_, fun x hx e => ?_, fun hm => ?_, fun h0 x hx hc => ?_⟩
  · rw [h.session]
    exact hw (List.count_pos_iff.1 (by rw [← h.waiting]; exact List.count_pos_iff.2 hm))
  · have : x ∈ t.insertionQueue.filter (fun x => decide (x.port = q)) := List.mem_filter.2 ⟨hx, by simpa using e⟩
    rw [h.queue] at this
    rw [h.session]
    exact hq x (List.mem_of_mem_filter this) e
  · rw [h.session]
    exact ha (List.count_pos_iff.1 (by rw [← h.live]; exact List.count_pos_iff.2 hm))
  · have := hp (h.held ▸ h0) x (h.session ▸ hx) hc
    exact List.count_pos_iff.1 (by rw [h.count]; exact List.count_pos_iff.2 this)

/-- A change that concerns one port alone. -/
theorem State.PairingLawful.update {s t : State} (h : s.PairingLawful) (p : PortIx) (hs : t.QueueShape)
    (hq : ∀ q, q ≠ p → State.SameFor q s t) (h1 : t.SessionLaw p) (h2 : t.PlaceLaw p) : t.PairingLawful := by
  refine ⟨hs, fun q => ?_, fun q => ?_⟩
  · by_cases e : q = p
    · exact e ▸ h1
    · exact (hq q e).sessionLaw (h.sessions q)
  · by_cases e : q = p
    · exact e ▸ h2
    · exact (hq q e).placeLaw (h.places q)

/-- A change of other fields than those that the pairing laws speak of. -/
theorem State.PairingLawful.of_fields {s t : State} (h : s.PairingLawful) (hs : t.sessions = s.sessions)
    (hr : t.roles = s.roles) (hc : t.claims = s.claims) (hv : t.reservations = s.reservations) (hi : s.SameInsertion t)
    (ho : t.window = s.window ∧ t.closing = s.closing ∧ t.waitingLine = s.waitingLine) (hh : t.resetHeld = s.resetHeld) :
    t.PairingLawful := by
  have hq : ∀ q, State.SameFor q s t := fun q => .of_fields hs hr hc hv hi ho hh
  refine ⟨?_, fun q => (hq q).sessionLaw (h.sessions q), fun q => (hq q).placeLaw (h.places q)⟩
  unfold State.QueueShape
  rw [hi.1]
  exact h.shape

/-- A change of the ports' records that leaves their roles. -/
theorem State.PairingLawful.of_ports {s t : State} (h : s.PairingLawful) (hs : t.sessions = s.sessions)
    (hr : t.roles = s.roles) (hc : t.slots = s.slots) (hv : t.cars = s.cars) (hi : s.SameInsertion t)
    (ho : t.window = s.window ∧ t.closing = s.closing ∧ t.waitingLine = s.waitingLine) (hh : t.resetHeld = s.resetHeld) :
    t.PairingLawful :=
  h.of_fields hs hr (State.claims_of_slots hc) (State.reservations_of_cars hv) hi ho hh

/-- Sequences and windows that move, each port's place staying one: the sessions and all they hold are the same. -/
theorem State.PairingLawful.of_moves {s t : State} (h : s.PairingLawful) (hs : t.sessions = s.sessions)
    (hr : t.roles = s.roles) (hc : t.claims = s.claims) (hv : t.reservations = s.reservations)
    (hw : t.queueWaiting = s.queueWaiting) (hl : t.QueueShape)
    (hq : ∀ x ∈ t.insertionQueue, ∃ y ∈ s.insertionQueue, x.port = y.port ∧ x.identity = y.identity ∧ x.address = y.address)
    (hlive : ∀ p ∈ t.livePorts, p ∈ s.livePorts ∨ ∃ y ∈ s.insertionQueue, y.port = p)
    (hp : t.pairingPorts.Perm s.pairingPorts) (hh : t.resetHeld = s.resetHeld) : t.PairingLawful := by
  have hse : ∀ p, t.session p = s.session p := fun p => by simp [hs]
  refine ⟨hl, fun p => ?_, fun p => ?_⟩
  · obtain ⟨k1, k2, k3, k4⟩ := h.sessions p
    refine ⟨by rw [hse, hr]; exact k1, fun x hx => k2 x (hse p ▸ hx), fun x hx => ?_, fun hx => ?_⟩
    · obtain ⟨n1, n2⟩ := k3 x (hse p ▸ hx)
      exact ⟨fun g => by rw [hc]; exact n1 g, fun a => by rw [hv]; exact n2 a⟩
    · obtain ⟨n1, n2⟩ := k4 (hse p ▸ hx)
      exact ⟨fun g => by rw [hc]; exact n1 g, fun a => by rw [hv]; exact n2 a⟩
  · obtain ⟨k1, k2, k3, k4, k5⟩ := h.places p
    refine ⟨hp.count_eq p ▸ k1, fun hm => ?_, fun x hx e => ?_, fun hm => ?_, fun h0 x hx hc => ?_⟩
    · rw [hse]; exact k2 (hw ▸ hm)
    · obtain ⟨y, hy, e1, e2, e3⟩ := hq x hx
      rw [hse, e2, e3]
      exact k3 y hy (e1 ▸ e)
    · rw [hse]
      rcases hlive p hm with hm | ⟨y, hy, e⟩
      · exact k4 hm
      · obtain ⟨x, hx, h1, -⟩ := k3 y hy e
        exact ⟨x, hx, h1⟩
    · exact hp.mem_iff.2 (k5 (hh ▸ h0) x (hse p ▸ hx) hc)

end Sys2Proof.Machine

/-! What the operations of the Pairing Engine do to the port they are for, and that they leave the other ports' pairings alone
(R12, R40, R41, R69, R77 to R82). -/

namespace Sys2Proof.Machine

/-- Port `p` waits for no place, has no sequence queued and awaits no ASSIGN answer. -/
structure State.Absent (s : State) (p : PortIx) : Prop where
  waiting : p ∉ s.queueWaiting
  queue : ∀ x ∈ s.insertionQueue, x.port ≠ p
  live : p ∉ s.livePorts

theorem SessionState.holdsCar_of_not_open {st : SessionState} (h : st.isOpen = false) : st.holdsCar = false := by
  cases st with
  | waiting | queued | sending => cases h
  | closed | showDone | showFailed => rfl

theorem State.Absent.pairingPorts {s : State} {p : PortIx} (h : s.Absent p) : p ∉ s.pairingPorts := by
  rw [s.pairingPorts_eq]
  simp only [List.mem_append, List.mem_map, not_or, not_exists, not_and]
  exact ⟨⟨h.waiting, h.queue⟩, h.live⟩

/-- A port that stands nowhere, whose session holds no car, has a lawful place. -/
theorem State.Absent.placeLaw {s : State} {p : PortIx} (h : s.Absent p)
    (hx : ∀ x, s.session p = some x → x.state.holdsCar = false) : s.PlaceLaw p := by
  refine ⟨?_, fun hm => absurd hm h.waiting, fun x hx e => absurd e (h.queue x hx), fun hm => absurd hm h.live, ?_⟩
  · rw [List.count_eq_zero_of_not_mem h.pairingPorts]; exact Nat.zero_le 1
  · intro _ x h1 h2
    rw [hx x h1] at h2; cases h2

/-- A port that holds nothing, whose session is not open, has a lawful session. -/
theorem State.HoldsNothing.sessionLaw {s : State} {p : PortIx} (h : s.HoldsNothing p)
    (hb : (s.session p).isSome ↔ s.roles p = .bay)
    (hx : ∀ x, s.session p = some x → x.Lawful ∧ x.state.isOpen = false) : s.SessionLaw p := by
  refine ⟨hb, fun x h1 => (hx x h1).1, fun x h1 => ⟨fun g => ?_, fun a => ?_⟩, fun _ => h⟩
  · simp [h.claim g, (hx x h1).2]
  · simp [h.reservation a, SessionState.holdsCar_of_not_open (hx x h1).2]

/-- A port whose session holds no car, or that has none, stands nowhere. -/
theorem State.PlaceLaw.absent {s : State} {p : PortIx} (h : s.PlaceLaw p)
    (hx : ∀ x, s.session p = some x → x.state.holdsCar = false) : s.Absent p := by
  obtain ⟨-, hw, hq, hl, -⟩ := h
  refine ⟨fun hm => ?_, fun y hy e => ?_, fun hm => ?_⟩
  · obtain ⟨x, h1, h2⟩ := hw hm
    have := hx x h1
    rw [h2] at this; cases this
  · obtain ⟨x, h1, h2, -⟩ := hq y hy e
    have := hx x h1
    rw [h2] at this; cases this
  · obtain ⟨x, h1, h2⟩ := hl hm
    have := hx x h1
    rw [h2] at this; cases this

/-- A port whose session is not open, or that has none, holds nothing. -/
theorem State.SessionLaw.holdsNothing {s : State} {p : PortIx} (h : s.SessionLaw p)
    (hx : ∀ x, s.session p = some x → x.state.isOpen = false) : s.HoldsNothing p := by
  obtain ⟨-, -, hn, h0⟩ := h
  cases hs : s.session p with
  | none => exact h0 hs
  | some x =>
    have ho := hx x hs
    obtain ⟨hc, hr⟩ := hn x hs
    refine ⟨fun g hg => ?_, fun a ha => ?_⟩
    · rw [((hc g).1 hg).1] at ho; cases ho
    · have hk := ((hr a).1 ha).1
      rw [SessionState.holdsCar_of_not_open ho] at hk; cases hk

/-! ### A change of one port's pairing -/

/-- `t` comes of `s` by a change of port `p`'s pairing alone, whose laws hold in `t`. -/
structure State.ChangesAt (p : PortIx) (s t : State) : Prop where
  others : ∀ q, q ≠ p → State.SameFor q s t
  shape : s.QueueShape → t.QueueShape
  session : t.SessionLaw p
  place : t.PlaceLaw p

theorem State.ChangesAt.lawful {p : PortIx} {s t : State} (k : State.ChangesAt p s t) (h : s.PairingLawful) :
    t.PairingLawful :=
  h.update p (k.shape h.shape) k.others k.session k.place

/-- After steps that touch port `p` alone. -/
theorem State.ChangesAt.after {p : PortIx} {s t u : State} (k : State.ChangesAt p t u)
    (hq : ∀ q, q ≠ p → State.SameFor q s t) (hs : s.QueueShape → t.QueueShape) : State.ChangesAt p s u :=
  ⟨fun q hne => (hq q hne).trans (k.others q hne), fun h => k.shape (hs h), k.session, k.place⟩

/-- A change of fields that the pairing laws do not speak of, after it. -/
theorem State.ChangesAt.then_fields {p : PortIx} {s t u : State} (k : State.ChangesAt p s t)
    (hs : u.sessions = t.sessions) (hr : u.roles = t.roles) (hc : u.claims = t.claims)
    (hv : u.reservations = t.reservations) (hi : t.SameInsertion u)
    (ho : u.window = t.window ∧ u.closing = t.closing ∧ u.waitingLine = t.waitingLine) (hh : u.resetHeld = t.resetHeld) :
    State.ChangesAt p s u := by
  have hq : ∀ q, State.SameFor q t u := fun q => .of_fields hs hr hc hv hi ho hh
  refine ⟨fun q hne => (k.others q hne).trans (hq q), fun h => ?_, (hq p).sessionLaw k.session, (hq p).placeLaw k.place⟩
  unfold State.QueueShape
  rw [hi.1]
  exact k.shape h

/-! ### The operations, and the ports they do not concern -/

theorem State.setSession_sameFor (s : State) {p q : PortIx} (hq : q ≠ p) (x : Option Session) :
    State.SameFor q s (s.setSession p x) := by
  refine ⟨?_, rfl, fun _ => Iff.rfl, fun _ => Iff.rfl, rfl, rfl, rfl, rfl⟩
  rw [State.session_setSession, if_neg (Ne.symm hq)]

/-- Writing the claim of a slot that is not port `q`'s, for another port or none. -/
theorem State.claimSlot_sameFor (s : State) {q : PortIx} (h : Option SlotIx) (c : Option PortIx) (hc : c ≠ some q)
    (hs : ∀ g, h = some g → s.claims g ≠ some q) : State.SameFor q s (s.claimSlot h c) := by
  cases h with
  | none => exact .of_fields rfl rfl rfl rfl ⟨rfl, rfl⟩ ⟨rfl, rfl, rfl⟩ rfl
  | some g =>
    refine ⟨rfl, rfl, fun k => ?_, fun _ => Iff.rfl, rfl, rfl, rfl, rfl⟩
    rw [State.claims_claimSlot]
    dsimp only
    split
    · rename_i e
      exact ⟨fun e1 => absurd e1 hc, fun e1 => absurd e1 (e ▸ hs g rfl)⟩
    · exact Iff.rfl

theorem State.release_sameFor (s : State) {q : PortIx} (a : CarIx) (ha : s.reservations a ≠ some q) :
    State.SameFor q s (s.release a) := by
  refine ⟨by simp, by rw [State.roles_of_ports (s := s) (by simp)], fun k => ?_, fun b => ?_, by simp, by simp, ?_, by simp⟩
  · rw [State.claims_of_slots (s := s) (by simp)]
  · rw [State.release_reservations]
    dsimp only
    split
    · rename_i e
      exact ⟨fun e1 => (nomatch e1), fun e1 => absurd e1 (e ▸ ha)⟩
    · exact Iff.rfl
  · rw [State.livePorts_congr (s := s) (by simp) (by simp) (by simp)]

theorem State.reserve_sameFor (s : State) {p q : PortIx} (hq : q ≠ p) (a : CarIx) (ha : s.reservations a ≠ some q) :
    State.SameFor q s (s.reserve a p) := by
  refine ⟨by simp, by rw [State.roles_of_ports (s := s) (by simp)], fun k => ?_, fun b => ?_, by simp, by simp, ?_, by simp⟩
  · rw [State.claims_of_slots (s := s) (by simp)]
  · rw [State.reserve_reservations]
    dsimp only
    split
    · rename_i e
      exact ⟨fun e1 => absurd (Option.some.inj e1).symm hq, fun e1 => absurd e1 (e ▸ ha)⟩
    · exact Iff.rfl
  · rw [State.livePorts_congr (s := s) (by simp) (by simp) (by simp)]

theorem State.removeSequence_sameFor (s : State) {p q : PortIx} (hq : q ≠ p) :
    State.SameFor q s (s.removeSequence p) := by
  refine ⟨rfl, rfl, fun _ => Iff.rfl, fun _ => Iff.rfl, ?_, ?_, rfl, rfl⟩
  · exact List.count_filter (by simpa using hq)
  · simp only [State.removeSequence, List.filter_filter]
    refine List.filter_congr fun x _ => ?_
    by_cases e : x.port = q
    · simp [e, hq]
    · simp [e]

/-- The answers still to come after those of port `p` are given up (R82). -/
theorem State.livePorts_abandonWindows (s : State) (p : PortIx) :
    (s.abandonWindows p).livePorts = s.livePorts.filter (fun r => decide (r ≠ p)) := by
  have h1 : ∀ w : AnswerWindow, (w.abandon p).livePort = w.livePort.filter (fun r => decide (r ≠ p)) := fun w => by
    cases w with
    | car a => rfl
    | abandoned r => rfl
    | assign r =>
      by_cases e : r = p
      · subst e; simp [AnswerWindow.abandon, AnswerWindow.livePort, Option.filter]
      · simp [AnswerWindow.abandon, AnswerWindow.livePort, Option.filter, e]
  have h2 : (s.abandonWindows p).windows = s.windows.map (AnswerWindow.abandon p) := by
    simp only [State.windows, State.abandonWindows, List.map_append, List.filterMap_map, List.map_filterMap]
    congr 2
    cases s.window <;> rfl
  unfold State.livePorts
  rw [h2, List.filterMap_map, List.filter_filterMap]
  exact List.filterMap_congr fun w _ => h1 w

theorem State.abandonWindows_sameFor (s : State) {p q : PortIx} (hq : q ≠ p) :
    State.SameFor q s (s.abandonWindows p) := by
  refine ⟨rfl, rfl, fun _ => Iff.rfl, fun _ => Iff.rfl, rfl, rfl, ?_, rfl⟩
  rw [State.livePorts_abandonWindows]
  exact List.count_filter (by simpa using hq)

/-! ### The end of a session -/

/-- The windows and sequences of port `p` gone. -/
theorem State.removed_absent (s : State) (p : PortIx) : ((s.removeSequence p).abandonWindows p).Absent p := by
  refine ⟨?_, ?_, ?_⟩
  · simp [State.removeSequence]
  · simp [State.removeSequence]
  · simp [State.livePorts_abandonWindows]

/-- Steps 1 to 4 of R81: the port holds nothing and stands nowhere any more, and no other port is concerned. -/
theorem State.releaseSession_frees {s : State} {p : PortIx} {x : Session} (hn : s.Names p x)
    (ho : x.state.isOpen = true) : (s.releaseSession p x).HoldsNothing p ∧ (s.releaseSession p x).Absent p ∧
      ∀ q, q ≠ p → State.SameFor q s (s.releaseSession p x) := by
  obtain ⟨u, hu⟩ : ∃ u, u = (s.removeSequence p).abandonWindows p := ⟨_, rfl⟩
  have hab : u.Absent p := hu ▸ s.removed_absent p
  have huq : ∀ q, q ≠ p → State.SameFor q s u := fun q hq =>
    hu ▸ (s.removeSequence_sameFor hq).trans (State.abandonWindows_sameFor _ hq)
  have huc : u.claims = s.claims := by rw [hu]; rfl
  have hur : u.reservations = s.reservations := by rw [hu]; rfl
  obtain ⟨v, hv⟩ : ∃ v, v = (match x.address with
    | none => u
    | some a => if x.state.holdsCar then u.release a else u) := ⟨_, rfl⟩
  have hvr : ∀ a, v.reservations a ≠ some p := by
    intro a ha
    rw [hv] at ha
    split at ha
    · rename_i hx
      rw [hur, hn.reservation, hx] at ha
      exact nomatch ha.2
    · rename_i b hx
      split at ha
      · rw [State.release_reservations] at ha
        dsimp only at ha
        split at ha
        · cases ha
        · rename_i e
          rw [hur, hn.reservation, hx] at ha
          exact e (Option.some.inj ha.2)
      · rename_i hk
        rw [hur, hn.reservation] at ha
        exact hk ha.1
  have hvf : v.claims = u.claims ∧ v.queueWaiting = u.queueWaiting ∧ v.insertionQueue = u.insertionQueue ∧
      v.livePorts = u.livePorts ∧ ∀ q, q ≠ p → State.SameFor q u v := by
    have hsame : u.claims = u.claims ∧ u.queueWaiting = u.queueWaiting ∧ u.insertionQueue = u.insertionQueue ∧
      u.livePorts = u.livePorts ∧ ∀ q, q ≠ p → State.SameFor q u u :=
      ⟨rfl, rfl, rfl, rfl, fun q _ => .of_fields rfl rfl rfl rfl ⟨rfl, rfl⟩ ⟨rfl, rfl, rfl⟩ rfl⟩
    rw [hv]
    split
    · exact hsame
    · rename_i b hx
      split
      · rename_i hk
        refine ⟨State.claims_of_slots (by simp), by simp, by simp,
          State.livePorts_congr (by simp) (by simp) (by simp), fun q hq => u.release_sameFor b fun hb => hq ?_⟩
        have := (hn.reservation b).2 ⟨hk, hx⟩
        rw [hur, this] at hb
        exact (Option.some.inj hb).symm
      · exact hsame
  obtain ⟨hvc, hvw, hvi, hvl, hvq⟩ := hvf
  have ht : s.releaseSession p x = v.claimSlot x.slot none := by rw [hv, hu]; rfl
  rw [ht]
  have hclaim : ∀ g, x.slot = some g → v.claims g = some p := fun g hg => by
    rw [hvc, huc]; exact (hn.claim g).2 ⟨ho, hg⟩
  refine ⟨⟨fun g hg => ?_, fun a => ?_⟩, ⟨?_, ?_, ?_⟩, fun q hq => ?_⟩
  · cases hx : x.slot with
    | none =>
      rw [hx] at hg
      have : v.claims g = some p := hg
      rw [hvc, huc, hn.claim, hx] at this
      exact nomatch this.2
    | some k =>
      rw [hx, State.claims_claimSlot] at hg
      dsimp only at hg
      split at hg
      · cases hg
      · rename_i e
        rw [hvc, huc, hn.claim, hx] at hg
        exact e (Option.some.inj hg.2)
  · rw [State.reservations_of_cars (s := v) (by simp)]; exact hvr a
  · simpa [hvw] using hab.waiting
  · simpa [hvi] using hab.queue
  · rw [State.livePorts_congr (s := v) (by simp) (by simp) (by simp), hvl]; exact hab.live
  · refine ((huq q hq).trans (hvq q hq)).trans (v.claimSlot_sameFor _ _ (by simp) fun g hg e => hq ?_)
    rw [hclaim g hg] at e
    exact (Option.some.inj e).symm

theorem State.releaseSession_shape {s : State} (h : s.QueueShape) (p : PortIx) (x : Session) :
    (s.releaseSession p x).QueueShape := by
  have hq : (s.releaseSession p x).insertionQueue = s.insertionQueue.filter fun q => decide (q.port ≠ p) := by
    unfold State.releaseSession
    dsimp only
    split
    · rw [(State.claimSlot_same _ _ _).2.2.1.1]; rfl
    · split
      · rw [(State.claimSlot_same _ _ _).2.2.1.1, (State.release_same _ _).2.2.1.1]; rfl
      · rw [(State.claimSlot_same _ _ _).2.2.1.1]; rfl
  obtain ⟨hl, hs⟩ := h
  unfold State.QueueShape
  rw [hq]
  exact ⟨(List.length_filter_le _ _).trans hl, fun y hy => hs y (List.mem_of_mem_filter hy)⟩

/-- The session of port `p`, which holds nothing and stands nowhere, is written, not open, or goes with the BAY role. -/
theorem State.closed_changesAt {s t : State} {p : PortIx} {y : Option Session} (h1 : s.HoldsNothing p) (h2 : s.Absent p)
    (hy : ∀ z, y = some z → z.Lawful ∧ z.state.isOpen = false) (hs : t.sessions = s.sessions.set p y)
    (hr : ∀ q, q ≠ p → t.roles q = s.roles q) (hb : y.isSome ↔ t.roles p = .bay) (hc : t.claims = s.claims)
    (hv : t.reservations = s.reservations) (hi : s.SameInsertion t)
    (ho : t.window = s.window ∧ t.closing = s.closing ∧ t.waitingLine = s.waitingLine) (hh : t.resetHeld = s.resetHeld) :
    State.ChangesAt p s t := by
  obtain ⟨hi1, hi2⟩ := hi
  obtain ⟨o1, o2, o3⟩ := ho
  have hl : t.livePorts = s.livePorts := State.livePorts_congr o1 o2 o3
  have hse : ∀ q, t.session q = if p = q then y else s.session q := fun q => by
    show t.sessions[q.val] = _
    simp [hs, Vector.getElem_set, Fin.ext_iff]
  have hsp : t.session p = y := by rw [hse, if_pos rfl]
  refine ⟨fun q hq => ⟨?_, hr q hq, fun g => by rw [hc], fun a => by rw [hv], by rw [hi2], by rw [hi1], by rw [hl], hh⟩,
    fun k => ?_, State.HoldsNothing.sessionLaw ⟨?_, ?_⟩ ?_ ?_, State.Absent.placeLaw ⟨?_, ?_, ?_⟩ ?_⟩
  · rw [hse, if_neg (Ne.symm hq)]
  · unfold State.QueueShape; rw [hi1]; exact k
  · rw [hc]; exact h1.claim
  · rw [hv]; exact h1.reservation
  · rw [hsp]; exact hb
  · rw [hsp]; exact hy
  · rw [hi2]; exact h2.waiting
  · rw [hi1]; exact h2.queue
  · rw [hl]; exact h2.live
  · rw [hsp]; exact fun z hz => SessionState.holdsCar_of_not_open (hy z hz).2

/-- The session of a port ends (R81, R86): it is written, not open any more, after all it held is released. -/
theorem State.endSession_changesAt {s : State} {p : PortIx} {x y : Session} (hb : s.roles p = .bay) (hn : s.Names p x)
    (ho : x.state.isOpen = true) (hy : y.Lawful) (hc : y.state.isOpen = false) :
    State.ChangesAt p s ((s.releaseSession p x).setSession p (some y)) := by
  obtain ⟨h1, h2, hq⟩ := State.releaseSession_frees hn ho
  have hr : ((s.releaseSession p x).setSession p (some y)).roles = s.roles := State.roles_of_ports (by simp)
  have k : State.ChangesAt p (s.releaseSession p x) ((s.releaseSession p x).setSession p (some y)) := by
    refine State.closed_changesAt (y := some y) h1 h2 ?_ (by simp) (fun q _ => rfl) ?_ rfl rfl ⟨rfl, rfl⟩ ⟨rfl, rfl, rfl⟩ rfl
    · rintro z ⟨⟩; exact ⟨hy, hc⟩
    · rw [hr, hb]; simp
  exact k.after hq fun h => State.releaseSession_shape h p x

/-- The session of port `p` fails (R81). -/
theorem State.failSession_changesAt {s : State} {p : PortIx} {x : Session} (hb : s.roles p = .bay) (hn : s.Names p x)
    (ho : x.state.isOpen = true) (ha : x.attempts ≤ 3) (why : SessionOutcome) :
    State.ChangesAt p s (s.failSession p x why) := by
  have hl : Session.Lawful { x with
      state := .showFailed, windowDue := none, outcome := some why, showDue := some (s.after 2000) } := by
    simp [Session.Lawful, SessionState.holdsCar, SessionState.isOpen, ha]
  have k := State.endSession_changesAt hb hn ho hl rfl
  have hf : s.failSession p x why = (((s.releaseSession p x).showSession p x.state { x with
      state := .showFailed, windowDue := none, outcome := some why, showDue := some (s.after 2000) }).notifyPort
      .pairFailed p) := rfl
  rw [hf]
  refine k.then_fields ?_ ?_ (State.claims_of_slots ?_) (State.reservations_of_cars ?_) ?_ ?_ ?_
  · unfold State.showSession
    dsimp only
    split <;> simp
  · rw [State.notifyPort_roles, State.showSession_roles]
    exact (State.roles_of_ports (by simp)).symm
  all_goals simp

/-! ### A session asks for a place -/

/-- The session `x` of port `p`, with its identity and its reserved car, can take a place: it holds its slot's claim and the car's
reservation, its deadlines are stopped, and the port stands nowhere (R12, R77, R80). -/
structure State.MayPlace (s : State) (p : PortIx) (x : Session) (id : Identity) (a : CarIx) : Prop where
  role : s.roles p = .bay
  identity : x.identity = some id
  address : x.address = some a
  slot : x.slot.isSome
  windowDue : x.windowDue = none
  showDue : x.showDue = none
  attempts : x.attempts ≤ 2
  claim : ∀ h, s.claims h = some p ↔ x.slot = some h
  reservation : ∀ b, s.reservations b = some p ↔ b = a
  absent : s.Absent p

/-- Such a session, QUEUED or SENDING, is lawful in a state with the same claims and reservations. -/
theorem State.MayPlace.sessionLaw {s t : State} {p : PortIx} {x : Session} {id : Identity} {a : CarIx} {st : SessionState}
    (h : s.MayPlace p x id a) (hst : st.isOpen = true ∧ st.holdsCar = true)
    (hs : t.session p = some { x with state := st }) (hr : t.roles = s.roles) (hc : t.claims = s.claims)
    (hv : t.reservations = s.reservations) : t.SessionLaw p := by
  obtain ⟨hb, hi, ha, hsl, hw, hd, ht, hcl, hre, -⟩ := h
  obtain ⟨h1, h2⟩ := hst
  have hx : ∀ z, t.session p = some z → z = { x with state := st } := fun z hz => by
    rw [hs] at hz; exact (Option.some.inj hz).symm
  have hl : Session.Lawful { x with state := st } := by
    refine ⟨fun _ => ⟨hsl, by rw [hi]; rfl, by rw [ha]; rfl⟩, ?_, ?_, by show x.attempts ≤ 3; omega, fun _ => ht⟩
    · show x.windowDue.isSome = true ↔ st = .waiting
      rw [hw]; cases st <;> simp_all [SessionState.holdsCar]
    · show x.showDue.isSome = true ↔ st = .showDone ∨ st = .showFailed
      rw [hd]; cases st <;> simp_all [SessionState.isOpen]
  refine ⟨by rw [hs, hr, hb]; simp, fun z hz => hx z hz ▸ hl, fun z hz => hx z hz ▸ ⟨fun g => ?_, fun b => ?_⟩, fun hz => ?_⟩
  · rw [hc, hcl]; simp [h1]
  · rw [hv, hre]; simp [h2, ha, eq_comm]
  · rw [hs] at hz; cases hz

/-- It takes a place in the queue and is SENDING (R12, R78). -/
theorem State.MayPlace.sending_changesAt {s t : State} {p : PortIx} {x : Session} {id : Identity} {a : CarIx}
    (h : s.MayPlace p x id a) (hlen : s.insertionQueue.length < 3)
    (ht : t = { s with
      sessions := s.sessions.set p (some { x with state := .sending })
      insertionQueue := s.insertionQueue ++ [⟨p, id, a, 0⟩] }) : State.ChangesAt p s t := by
  obtain ⟨h1, h2, h3⟩ := h.absent
  have hse : ∀ q, t.session q = if p = q then some { x with state := .sending } else s.session q := fun q => by
    subst ht; simp [Vector.getElem_set, Fin.ext_iff]
  have hsp : t.session p = some { x with state := .sending } := by rw [hse, if_pos rfl]
  have hq : t.insertionQueue = s.insertionQueue ++ [⟨p, id, a, 0⟩] := by subst ht; rfl
  have hw : t.queueWaiting = s.queueWaiting := by subst ht; rfl
  have hl : t.livePorts = s.livePorts := by subst ht; rfl
  have hr : t.roles = s.roles ∧ t.claims = s.claims ∧ t.reservations = s.reservations ∧ t.resetHeld = s.resetHeld := by
    subst ht; exact ⟨rfl, rfl, rfl, rfl⟩
  obtain ⟨r1, r2, r3, r4⟩ := hr
  refine ⟨fun q hne => ⟨?_, by rw [r1], fun g => by rw [r2], fun b => by rw [r3], by rw [hw], ?_, by rw [hl], r4⟩,
    fun ⟨_, k⟩ => ⟨?_, fun y hy => ?_⟩, h.sessionLaw ⟨rfl, rfl⟩ hsp r1 r2 r3,
    ⟨?_, fun hm => absurd (hw ▸ hm) h1, fun y hy ey => ?_, fun hm => absurd (hl ▸ hm) h3, fun _ z _ _ => ?_⟩⟩
  · rw [hse, if_neg (Ne.symm hne)]
  · rw [hq]; simp [Ne.symm hne]
  · rw [hq]; simpa using hlen
  · rw [hq] at hy
    rcases List.mem_append.1 hy with hy | hy
    · exact k y hy
    · rw [List.mem_singleton.1 hy]; exact Nat.zero_le 4
  · have h0 : s.insertionQueue.filter (fun y => decide (y.port = p)) = [] :=
      List.filter_eq_nil_iff.2 fun y hy => by simpa using h2 y hy
    rw [State.count_pairingPorts, hw, hl, hq, List.count_eq_zero_of_not_mem h1, List.count_eq_zero_of_not_mem h3,
      List.filter_append, h0]
    simp
  · refine ⟨_, hsp, rfl, ?_⟩
    rw [hq] at hy
    rcases List.mem_append.1 hy with hy | hy
    · exact absurd ey (h2 y hy)
    · rw [List.mem_singleton.1 hy]; exact ⟨h.identity, h.address⟩
  · rw [State.pairingPorts_eq, hq]; simp

/-- It waits for a place and is QUEUED (R12). -/
theorem State.MayPlace.queued_changesAt {s t : State} {p : PortIx} {x : Session} {id : Identity} {a : CarIx}
    (h : s.MayPlace p x id a)
    (ht : t = { s with
      sessions := s.sessions.set p (some { x with state := .queued }), queueWaiting := s.queueWaiting ++ [p] }) :
    State.ChangesAt p s t := by
  obtain ⟨h1, h2, h3⟩ := h.absent
  have hse : ∀ q, t.session q = if p = q then some { x with state := .queued } else s.session q := fun q => by
    subst ht; simp [Vector.getElem_set, Fin.ext_iff]
  have hsp : t.session p = some { x with state := .queued } := by rw [hse, if_pos rfl]
  have hq : t.insertionQueue = s.insertionQueue := by subst ht; rfl
  have hw : t.queueWaiting = s.queueWaiting ++ [p] := by subst ht; rfl
  have hl : t.livePorts = s.livePorts := by subst ht; rfl
  have hr : t.roles = s.roles ∧ t.claims = s.claims ∧ t.reservations = s.reservations ∧ t.resetHeld = s.resetHeld := by
    subst ht; exact ⟨rfl, rfl, rfl, rfl⟩
  obtain ⟨r1, r2, r3, r4⟩ := hr
  refine ⟨fun q hne => ⟨?_, by rw [r1], fun g => by rw [r2], fun b => by rw [r3], ?_, by rw [hq], by rw [hl], r4⟩,
    fun k => ?_, h.sessionLaw ⟨rfl, rfl⟩ hsp r1 r2 r3,
    ⟨?_, fun _ => ⟨_, hsp, rfl⟩, fun y hy ey => absurd ey (h2 y (hq ▸ hy)), fun hm => absurd (hl ▸ hm) h3,
      fun _ z _ _ => ?_⟩⟩
  · rw [hse, if_neg (Ne.symm hne)]
  · rw [hw]; simp [Ne.symm hne]
  · unfold State.QueueShape; rw [hq]; exact k
  · have h0 : s.insertionQueue.filter (fun y => decide (y.port = p)) = [] :=
      List.filter_eq_nil_iff.2 fun y hy => by simpa using h2 y hy
    rw [State.count_pairingPorts, hw, hl, hq, List.count_append, List.count_eq_zero_of_not_mem h1,
      List.count_eq_zero_of_not_mem h3, h0]
    simp
  · rw [State.pairingPorts_eq, hw]; simp

/-- The sequence of a session with identity and address is appended (R12, R78). -/
theorem State.appendSequence_eq {s : State} {p : PortIx} {x : Session} {id : Identity} {a : CarIx}
    (hs : s.session p = some x) (hi : x.identity = some id) (ha : x.address = some a) :
    s.appendSequence p = { s with
      sessions := s.sessions.set p (some { x with state := .sending })
      insertionQueue := s.insertionQueue ++ [⟨p, id, a, 0⟩] } := by
  have hs' : s.sessions[p.val] = some x := hs
  simp [State.appendSequence, State.modSession, State.setSession, Session.sequence, hs', hi, ha]

/-- The session of port `p`, which stands nowhere, asks for a place (R12): then it stands in one, QUEUED or SENDING. -/
theorem State.MayPlace.enqueue_changesAt {s : State} {p : PortIx} {x : Session} {id : Identity} {a : CarIx}
    (h : s.MayPlace p x id a) (hs : s.session p = some x) : State.ChangesAt p s (s.enqueue p) := by
  have hs' : s.sessions[p.val] = some x := hs
  unfold State.enqueue
  dsimp only
  split
  · rename_i hk
    refine h.sending_changesAt (by simpa using hk.1) ?_
    rw [State.appendSequence_eq (x := { x with state := .queued }) (id := id) (a := a)
      (by rw [State.session_modSession, if_pos rfl, hs]; rfl) h.identity h.address]
    simp [State.modSession, State.setSession]
  · refine h.queued_changesAt ?_
    simp [State.modSession, State.setSession, hs']

end Sys2Proof.Machine

/-! Each transition of a pairing session keeps the pairing laws (R71 to R87). -/

namespace Sys2Proof.Machine

theorem State.SessionLaw.role_of_session {s : State} {p : PortIx} (h : s.SessionLaw p) {x : Session}
    (hx : s.session p = some x) : s.roles p = .bay := h.bay.1 (by rw [hx]; rfl)

/-- The session of port `p`, which stands nowhere, is written in WAITING, with the claim on its slot if it joins with one
(R71, R73, R75). -/
theorem State.waiting_changesAt {s : State} {p : PortIx} {g : Option SlotIx} {y : Session} (hb : s.roles p = .bay)
    (hg : ∀ h, g = some h → s.claims h = none) (hy : y.Lawful) (hw : y.state = .waiting)
    (hc : ∀ h, (s.claimSlot g (some p)).claims h = some p ↔ y.slot = some h) (hr : ∀ a, s.reservations a ≠ some p)
    (ha : s.Absent p) : State.ChangesAt p s ((s.claimSlot g (some p)).setSession p (some y)) := by
  obtain ⟨h1, h2, h3⟩ := ha
  have hs : ((s.claimSlot g (some p)).setSession p (some y)).session p = some y := by
    rw [State.session_setSession, if_pos rfl]
  have hy' : ∀ z, ((s.claimSlot g (some p)).setSession p (some y)).session p = some z → z = y := fun z hz => by
    rw [hs] at hz; exact (Option.some.inj hz).symm
  have hro : ((s.claimSlot g (some p)).setSession p (some y)).roles p = .bay := by
    rw [State.roles_of_ports (s := s) (by simp), hb]
  have hq : ((s.claimSlot g (some p)).setSession p (some y)).insertionQueue = s.insertionQueue := by simp
  refine ⟨fun q hne => ?_, fun k => ?_, ⟨?_, fun z hz => hy' z hz ▸ hy, fun z hz => ?_, fun hz => ?_⟩,
    State.Absent.placeLaw ⟨?_, ?_, ?_⟩ fun z hz => ?_⟩
  · refine (s.claimSlot_sameFor g (some p) (by simpa using Ne.symm hne) fun h e => ?_).trans
      (State.setSession_sameFor _ hne _)
    rw [hg h e]; simp
  · unfold State.QueueShape; rw [hq]; exact k
  · rw [hs, hro]; simp
  · rw [hy' z hz]
    refine ⟨fun h => (hc h).trans (by simp [hw, SessionState.isOpen]), fun a => ?_⟩
    rw [State.reservations_of_cars (s := s) (by simp)]
    simp [hr a, hw, SessionState.holdsCar]
  · rw [hs] at hz; cases hz
  · simpa using h1
  · rw [hq]; exact h2
  · rw [State.livePorts_congr (s := s) (by simp) (by simp) (by simp)]; exact h3
  · rw [hy' z hz, hw]; rfl

/-- A session that is not open opens for a slot that is claimed by none, or for any (R71, R73). -/
theorem State.PairingLawful.openSession {s : State} (h : s.PairingLawful) {p : PortIx} {x : Session}
    (hx : s.session p = some x) (ho : x.state.isOpen = false) {g : Option SlotIx}
    (hg : ∀ k, g = some k → s.claims k = none) (ms : Nat) : (s.openSession p x.state g ms).PairingLawful := by
  have hno : ∀ z, s.session p = some z → z.state.isOpen = false := fun z hz => by
    rw [hx] at hz; exact Option.some.inj hz ▸ ho
  obtain ⟨hc, hr⟩ := (h.sessions p).holdsNothing hno
  have ha := (h.places p).absent fun z hz => SessionState.holdsCar_of_not_open (hno z hz)
  have k : State.ChangesAt p s ((s.claimSlot g (some p)).setSession p (some (Session.opened g (s.after ms)))) := by
    refine State.waiting_changesAt ((h.sessions p).role_of_session hx) hg ?_ rfl (fun k => ?_) hr ha
    · simp [Session.Lawful, Session.opened, SessionState.holdsCar, SessionState.isOpen]
    · cases g with
      | none => exact ⟨fun e => absurd e (hc k), fun e => nomatch e⟩
      | some j =>
        rw [State.claims_claimSlot]
        simp only [Session.opened, Option.some.injEq]
        split
        · simp [*]
        · exact ⟨fun e => absurd e (hc k), fun e => absurd e ‹_›⟩
  refine State.ChangesAt.lawful (k.then_fields (u := s.openSession p x.state g ms) ?_ ?_ (State.claims_of_slots ?_)
    (State.reservations_of_cars ?_) ?_ ?_ ?_) h
  · unfold State.openSession State.showSession
    dsimp only
    split <;> simp
  · unfold State.openSession
    rw [State.showSession_roles]
    exact (State.roles_of_ports (by simp)).symm
  all_goals unfold State.openSession; simp

/-- The session `x` of port `p`, which is WAITING with slot and identity, takes a car that no session has reserved (R77). -/
theorem State.reserveFor_changesAt {s : State} (h : s.PairingLawful) {p : PortIx} {x : Session}
    (hx : s.session p = some x) (hw : x.state = .waiting) (hs : x.slot.isSome) {id : Identity}
    (hi : x.identity = some id) {a : CarIx} (ha : s.reservations a = none) :
    State.ChangesAt p s (s.reserveFor p x a) := by
  obtain ⟨hl1, hl2, hl3, hl4, hl5⟩ := (h.sessions p).lawful x hx
  obtain ⟨hc, hr⟩ := (h.sessions p).names x hx
  obtain ⟨h1, h2, h3⟩ := (h.places p).absent fun z hz => by
    rw [hx] at hz; rw [← Option.some.inj hz, hw]; rfl
  have hm : ((s.reserve a p).setSession p (some { x with address := some a, windowDue := none })).MayPlace p
      { x with address := some a, windowDue := none } id a := by
    refine ⟨?_, hi, rfl, hs, rfl, ?_, ?_, fun g => ?_, fun b => ?_, ⟨?_, ?_, ?_⟩⟩
    · rw [State.roles_of_ports (s := s) (by simp)]; exact (h.sessions p).role_of_session hx
    · have : ¬ x.showDue.isSome := by rw [hl3, hw]; simp
      simpa using this
    · exact hl5 (by rw [hw]; rfl)
    · rw [State.claims_of_slots (s := s) (by simp), hc]
      simp [hw, SessionState.isOpen]
    · rw [State.reservations_of_cars (s := s.reserve a p) (by simp), State.reserve_reservations]
      dsimp only
      split
      · rename_i e; simp [e]
      · rename_i e
        rw [hr, hw]
        simp [SessionState.holdsCar, Ne.symm e]
    · simpa using h1
    · simpa using h2
    · rw [State.livePorts_congr (s := s) (by simp) (by simp) (by simp)]; exact h3
  refine (hm.enqueue_changesAt (by rw [State.session_setSession, if_pos rfl])).after (fun q hq => ?_) (fun k => ?_)
  · exact (s.reserve_sameFor hq a (by rw [ha]; simp)).trans (State.setSession_sameFor _ hq _)
  · unfold State.QueueShape at k ⊢
    simpa using k

/-- The lookup of a WAITING session that holds slot and identity (R76). -/
theorem State.PairingLawful.lookup {s : State} (h : s.PairingLawful) {p : PortIx} {x : Session}
    (hx : s.session p = some x) (hw : x.state = .waiting) (hs : x.slot.isSome) {id : Identity}
    (hi : x.identity = some id) : (s.lookup p x id).PairingLawful := by
  have hf : ∀ why, (s.failSession p x why).PairingLawful := fun why =>
    (State.failSession_changesAt ((h.sessions p).role_of_session hx) ((h.sessions p).names x hx) (by rw [hw]; rfl)
      ((h.sessions p).lawful x hx).2.2.2.1 why).lawful h
  unfold State.lookup
  split
  · exact hf _
  · split
    · rename_i a _
      split
      · exact hf _
      · rename_i hr
        exact (State.reserveFor_changesAt h hx hw hs hi (by
          show (s.car a).reservation = none
          simpa using hr)).lawful h
    · split
      · exact hf _
      · rename_i a hl
        have := List.find?_some hl
        simp only [Bool.and_eq_true, decide_eq_true_eq] at this
        exact (State.reserveFor_changesAt h hx hw hs hi this.2).lawful h

/-- A session written in WAITING goes on to the lookup when it holds slot and identity (R73, R75). -/
theorem State.PairingLawful.fillSession {s : State} {p : PortIx} {y : Session}
    (h : (s.setSession p (some y)).PairingLawful) (hw : y.state = .waiting) : (s.fillSession p y).PairingLawful := by
  unfold State.fillSession
  dsimp only
  split
  · rename_i g id hs hi
    exact h.lookup (by rw [State.session_setSession, if_pos rfl]) hw (by rw [hs]; rfl) hi
  · exact h

theorem State.PairingLawful.takeIdentity {s : State} (h : s.PairingLawful) (p : PortIx) (id : Identity) :
    (s.takeIdentity p id).PairingLawful := by
  unfold State.takeIdentity
  split
  · exact h
  · rename_i x hx
    split
    · rename_i hk
      obtain ⟨hw, -⟩ := hk
      obtain ⟨hc, hr⟩ := (h.sessions p).names x hx
      obtain ⟨hl1, hl⟩ := (h.sessions p).lawful x hx
      refine State.PairingLawful.fillSession ?_ hw
      refine (State.waiting_changesAt (g := none) (y := { x with identity := some id })
        ((h.sessions p).role_of_session hx) (by simp) ?_ hw (fun k => ?_) (fun a => ?_)
        ((h.places p).absent fun z hz => ?_)).lawful h
      · exact ⟨by simp [hw, SessionState.holdsCar], hl⟩
      · exact (hc k).trans (by simp [hw, SessionState.isOpen])
      · rw [Ne, hr, hw]; simp [SessionState.holdsCar]
      · rw [hx] at hz; rw [← Option.some.inj hz, hw]; rfl
    · exact h

/-- A gesture joins a WAITING session or opens the default bay (R73). -/
theorem State.PairingLawful.gesture {s : State} (h : s.PairingLawful) (g : SlotIx) : (s.gesture g).PairingLawful := by
  unfold State.gesture
  split
  · exact h
  · rename_i hg
    have hg0 : s.claims g = none := by
      show (s.slot g).claim = none
      simpa using hg
    split
    · rename_i p hp
      have hp' := List.find?_some hp
      unfold State.joinSession
      split
      · exact h
      · rename_i x hx
        have hxw : x.state = .waiting ∧ x.slot = none := by
          unfold State.baySession at hp'
          split at hp'
          · rw [hx] at hp'; simpa [Session.wantsSlot] using hp'
          · simp at hp'
        obtain ⟨hw, hsl⟩ := hxw
        obtain ⟨hc, hr⟩ := (h.sessions p).names x hx
        obtain ⟨hl1, hl⟩ := (h.sessions p).lawful x hx
        refine State.PairingLawful.fillSession ?_ hw
        refine (State.waiting_changesAt (g := some g) (y := { x with slot := some g })
          ((h.sessions p).role_of_session hx) ?_ ?_ hw (fun k => ?_) (fun a => ?_)
          ((h.places p).absent fun z hz => ?_)).lawful h
        · rintro k ⟨⟩; exact hg0
        · exact ⟨by simp [hw, SessionState.holdsCar], hl⟩
        · rw [State.claims_claimSlot]
          simp only [Option.some.injEq]
          split
          · simp [*]
          · rw [hc, hsl]; simp [*]
        · rw [Ne, hr, hw]; simp [SessionState.holdsCar]
        · rw [hx] at hz; rw [← Option.some.inj hz, hw]; rfl
    · unfold State.openDefault
      split
      · exact h
      · rename_i p _
        split
        · exact h
        · rename_i x hb
          split
          · exact h
          · rename_i ho
            refine h.openSession ?_ (by simpa using ho) (by rintro k ⟨⟩; exact hg0) _
            unfold State.baySession at hb
            split at hb
            · exact hb
            · cases hb

end Sys2Proof.Machine

/-! The answer to an ASSIGN frame, the places of the insertion queue, roles, and the windows that move on the rail output keep the
pairing laws (R10, R12, R14, R16, R17, R79 to R82, R86, R95). -/

namespace Sys2Proof.Machine

/-! ### The answer to an ASSIGN frame -/

/-- An ANSWER to a SENDING session whose window is closed (R42, R79). -/
theorem State.commitSession_changesAt {s : State} {p : PortIx} {x : Session} {g : SlotIx} {a : CarIx} (id : Identity)
    (hb : s.roles p = .bay) (hl : x.Lawful) (hn : s.Names p x) (hst : x.state = .sending) (hsl : x.slot = some g)
    (had : x.address = some a) (ha : s.Absent p) : State.ChangesAt p s (s.commitSession p x g a id) := by
  obtain ⟨u, hu⟩ : ∃ u, u = (s.commit g a id).claimSlot (some g) none := ⟨_, rfl⟩
  obtain ⟨hcc, hcr⟩ := s.commit_reservations g a id
  have hclaim : s.claims g = some p := (hn.claim g).2 ⟨by rw [hst]; rfl, hsl⟩
  have hres : s.reservations a = some p := (hn.reservation a).2 ⟨by rw [hst]; rfl, had⟩
  have huc : u.claims = fun k => if g = k then none else s.claims k := by rw [hu, State.claims_claimSlot, hcc]
  have hur : u.reservations = fun b => if a = b then none else s.reservations b := by
    rw [hu, State.reservations_of_cars (s := s.commit g a id) (by simp), hcr]
  have hull : u.livePorts = s.livePorts := by
    rw [hu]; exact State.livePorts_congr (by simp) (by simp) (by simp)
  have huro : u.roles = s.roles := by rw [hu]; exact State.roles_of_ports (by simp)
  have hq : ∀ q, q ≠ p → State.SameFor q s u := fun q hne => by
    refine ⟨by rw [hu]; simp, by rw [huro], fun k => ?_, fun b => ?_, by rw [hu]; simp, by rw [hu]; simp, by rw [hull],
      by rw [hu]; simp⟩
    · rw [huc]
      dsimp only
      split
      · rename_i e; rw [← e, hclaim]; simpa using Ne.symm hne
      · exact Iff.rfl
    · rw [hur]
      dsimp only
      split
      · rename_i e; rw [← e, hres]; simpa using Ne.symm hne
      · exact Iff.rfl
  have h1 : u.HoldsNothing p := by
    refine ⟨fun k hk => ?_, fun b hk => ?_⟩
    · rw [huc] at hk
      dsimp only at hk
      split at hk
      · cases hk
      · rename_i e
        rw [hn.claim, hsl] at hk
        exact e (Option.some.inj hk.2)
    · rw [hur] at hk
      dsimp only at hk
      split at hk
      · cases hk
      · rename_i e
        rw [hn.reservation, had] at hk
        exact e (Option.some.inj hk.2)
  have h2 : u.Absent p := by
    obtain ⟨k1, k2, k3⟩ := ha
    refine ⟨by rw [hu]; simpa using k1, by rw [hu]; simpa using k2, by rw [hull]; exact k3⟩
  have hy : Session.Lawful { x with state := .showDone, outcome := some .done, showDue := some (u.after 2000) } := by
    obtain ⟨-, hw, -, ht, -⟩ := hl
    have hw0 : x.windowDue = none := by
      have : ¬ x.windowDue.isSome := by rw [hw, hst]; simp
      simpa using this
    simp [Session.Lawful, SessionState.holdsCar, SessionState.isOpen, hw0, ht]
  have hnow : u.now = s.now := by rw [hu]; simp
  have hro : ((u.showSession p x.state { x with
      state := .showDone, outcome := some .done, showDue := some (u.after 2000) }).notifyCar .pairDone a).roles = u.roles :=
    (State.roles_of_ports (s := u.showSession p x.state { x with
      state := .showDone, outcome := some .done, showDue := some (u.after 2000) }) (by simp)).trans
      (State.showSession_roles ..)
  have k : State.ChangesAt p u ((u.showSession p x.state { x with
      state := .showDone, outcome := some .done, showDue := some (u.after 2000) }).notifyCar .pairDone a) := by
    refine State.closed_changesAt (y := some { x with
      state := .showDone, outcome := some .done, showDue := some (u.after 2000) }) h1 h2 ?_ ?_ ?_ ?_ (State.claims_of_slots ?_)
      (State.reservations_of_cars ?_) ?_ ?_ ?_
    · rintro z ⟨⟩; exact ⟨hy, rfl⟩
    · unfold State.showSession
      dsimp only
      split <;> simp
    · intro q _
      rw [hro]
    · rw [hro, huro, hb]; simp
    all_goals simp
  have he : s.commitSession p x g a id = (u.showSession p x.state { x with
      state := .showDone, outcome := some .done, showDue := some (u.after 2000) }).notifyCar .pairDone a := by
    rw [State.after_eq, hnow, hu]; rfl
  rw [he]
  refine k.after hq fun hsh => ?_
  unfold State.QueueShape at hsh ⊢
  rw [hu]; simpa using hsh

/-- A SILENT to a SENDING session whose window is closed (R80, R81). -/
theorem State.silentAttempt_changesAt {s : State} {p : PortIx} {x : Session} (hb : s.roles p = .bay) (hl : x.Lawful)
    (hn : s.Names p x) (hst : x.state = .sending) (ha : s.Absent p) : State.ChangesAt p s (s.silentAttempt p x) := by
  obtain ⟨h1, h2, h3, h4, h5⟩ := hl
  obtain ⟨hs, hi, had⟩ := h1 (by rw [hst]; rfl)
  obtain ⟨id, hi⟩ := Option.isSome_iff_exists.1 hi
  obtain ⟨a, had⟩ := Option.isSome_iff_exists.1 had
  obtain ⟨hc, hr⟩ := hn
  have ht : x.attempts ≤ 2 := h5 (by rw [hst]; rfl)
  have hw0 : x.windowDue = none := by
    have : ¬ x.windowDue.isSome := by rw [h2, hst]; simp
    simpa using this
  have hd0 : x.showDue = none := by
    have : ¬ x.showDue.isSome := by rw [h3, hst]; simp
    simpa using this
  unfold State.silentAttempt
  dsimp only
  split
  · rename_i hlt
    have hro : (s.setSession p (some { x with attempts := x.attempts + 1 })).roles = s.roles := rfl
    have hm : (s.setSession p (some { x with attempts := x.attempts + 1 })).MayPlace p
        { x with attempts := x.attempts + 1 } id a := by
      refine ⟨hro ▸ hb, hi, had, hs, hw0, hd0, by show x.attempts + 1 ≤ 2; omega, fun g => ?_, fun b => ?_, ?_⟩
      · exact (hc g).trans (by rw [hst]; simp [SessionState.isOpen])
      · exact (hr b).trans (by rw [hst, had]; simp [SessionState.holdsCar, eq_comm])
      · obtain ⟨k1, k2, k3⟩ := ha
        exact ⟨k1, k2, k3⟩
    exact (hm.enqueue_changesAt (by rw [State.session_setSession, if_pos rfl])).after
      (fun q hq => s.setSession_sameFor hq _) fun k => k
  · exact State.failSession_changesAt (x := { x with attempts := x.attempts + 1 }) hb ⟨hc, hr⟩ (by rw [hst]; rfl)
      (by show x.attempts + 1 ≤ 3; omega) _

/-- The result of an ASSIGN window, once it is closed, for a SENDING session (R79, R80). -/
theorem State.assignResult_changesAt {s : State} {p : PortIx} {x : Session} (hs : s.SessionLaw p)
    (hx : s.session p = some x) (hst : x.state = .sending) (ha : s.Absent p) (answered : Bool) :
    State.ChangesAt p s (s.assignResult p answered) := by
  have hl := hs.lawful x hx
  have hn := hs.names x hx
  have hb := hs.role_of_session hx
  obtain ⟨hsl, hi, had⟩ := hl.1 (by rw [hst]; rfl)
  obtain ⟨g, hg⟩ := Option.isSome_iff_exists.1 hsl
  obtain ⟨id, hi⟩ := Option.isSome_iff_exists.1 hi
  obtain ⟨a, had⟩ := Option.isSome_iff_exists.1 had
  unfold State.assignResult
  rw [hx]
  simp only [hst, hg, hi, had, if_true]
  split
  · exact State.commitSession_changesAt id hb hl hn hst hg had ha
  · exact State.silentAttempt_changesAt hb hl hn hst ha

/-! ### Windows that move -/

/-- Only the rail output's fields change, and no live answer window comes or goes. -/
theorem State.PairingLawful.of_live {s t : State} (h : s.PairingLawful) (hs : t.sessions = s.sessions)
    (hr : t.roles = s.roles) (hc : t.claims = s.claims) (hv : t.reservations = s.reservations)
    (hi : s.SameInsertion t) (hp : t.livePorts.Perm s.livePorts) (hh : t.resetHeld = s.resetHeld) : t.PairingLawful := by
  obtain ⟨h1, h2⟩ := hi
  refine h.of_moves hs hr hc hv h2 ?_ (fun x hx => ⟨x, h1 ▸ hx, rfl, rfl, rfl⟩) (fun p hm => .inl (hp.mem_iff.1 hm)) ?_ hh
  · unfold State.QueueShape; rw [h1]; exact h.shape
  · rw [State.pairingPorts_eq, State.pairingPorts_eq, h1, h2]
    exact hp.append_left _

/-- The port of the ASSIGN answer that a frame's window is to give. -/
def LineItem.livePort (x : LineItem) : Option PortIx := x.window.bind AnswerWindow.livePort

theorem LineItem.frame_livePort (f : RailFrame) : (LineItem.frame f).livePort = none := by
  cases f <;> rfl

theorem State.livePorts_eq (s : State) : s.livePorts = s.closing.filterMap AnswerWindow.livePort ++
    (s.window.toList.filterMap AnswerWindow.livePort ++ s.waitingLine.filterMap LineItem.livePort) := by
  simp only [State.livePorts, State.windows, List.filterMap_append, List.filterMap_filterMap, List.append_assoc]
  rfl

theorem State.leave_livePorts (s : State) (x : LineItem) :
    (s.leave x).livePorts.Perm (s.livePorts ++ x.livePort.toList) := by
  have hx : x.window.toList.filterMap AnswerWindow.livePort = x.livePort.toList := by
    unfold LineItem.livePort
    cases x.window with
    | none => rfl
    | some w => cases hw : w.livePort <;> simp [hw]
  rw [State.livePorts_eq, State.livePorts_eq]
  simp only [State.leave, State.send, List.filterMap_append, hx, List.append_assoc]
  refine List.Perm.append_left _ (List.Perm.append_left _ ?_)
  exact List.perm_append_comm

/-- A frame that is not discarded keeps its window among those to come (R10). -/
theorem State.position_livePorts {s : State} (hr : s.part ≠ .rest) (hf : s.lineFull = false) (x : LineItem) :
    (s.position x).livePorts.Perm (s.livePorts ++ x.livePort.toList) := by
  unfold State.position
  rw [if_neg hr]
  split
  · rename_i hs
    unfold State.fallDue
    split
    · exact s.leave_livePorts x
    · have hl : s.waitingLine.length < 2 := by simpa [State.lineFull, hs] using hf
      rw [if_pos hl, State.livePorts_eq, State.livePorts_eq]
      simp only [List.filterMap_append, List.append_assoc]
      refine List.Perm.append_left _ (List.Perm.append_left _ (List.Perm.append_left _ ?_))
      cases hx : x.livePort <;> simp [hx]
  · exact s.leave_livePorts x

/-- A frame that brings no ASSIGN window moves or is discarded, and the answers to come stay. -/
theorem State.fallDue_livePorts (s : State) {x : LineItem} (hx : x.livePort = none) :
    (s.fallDue x).livePorts.Perm s.livePorts := by
  unfold State.fallDue
  split
  · simpa [hx] using s.leave_livePorts x
  · split
    · rw [State.livePorts_eq, State.livePorts_eq]
      simp [List.filterMap_append, hx]
    · exact List.Perm.refl _

theorem State.position_livePorts_of_none (s : State) {x : LineItem} (hx : x.livePort = none) :
    (s.position x).livePorts.Perm s.livePorts := by
  unfold State.position
  split
  · exact List.Perm.refl _
  · split
    · exact s.fallDue_livePorts hx
    · simpa [hx] using s.leave_livePorts x

theorem State.PairingLawful.fallDue {s : State} (h : s.PairingLawful) (f : RailFrame) :
    (s.fallDue (.frame f)).PairingLawful :=
  h.of_live (by simp) (State.roles_of_ports (by simp)) (State.claims_of_slots (by simp))
    (State.reservations_of_cars (by simp)) (by simp) (s.fallDue_livePorts (LineItem.frame_livePort f)) (by simp)

theorem State.PairingLawful.position {s : State} (h : s.PairingLawful) (f : RailFrame) :
    (s.position (.frame f)).PairingLawful :=
  h.of_live (by simp) (State.roles_of_ports (by simp)) (State.claims_of_slots (by simp))
    (State.reservations_of_cars (by simp)) (by simp) (s.position_livePorts_of_none (LineItem.frame_livePort f)) (by simp)

/-- The next frame of the waiting line leaves (R10): its window opens. -/
theorem State.railFree_livePorts (s : State) : s.railFree.livePorts.Perm s.livePorts := by
  unfold State.railFree
  split
  · exact List.Perm.refl _
  · rename_i hw
    have hw : s.window = none := by simpa using hw
    split
    · exact List.Perm.refl _
    · rename_i x rest hl
      refine (State.leave_livePorts _ x).trans ?_
      rw [State.livePorts_eq, State.livePorts_eq, hw, hl]
      have : (x :: rest).filterMap LineItem.livePort = x.livePort.toList ++ rest.filterMap LineItem.livePort := by
        cases hx : x.livePort <;> simp [hx]
      rw [this, List.append_assoc]
      refine List.Perm.append_left _ ?_
      simpa [hw] using List.perm_append_comm

theorem State.PairingLawful.railFree {s : State} (h : s.PairingLawful) : s.railFree.PairingLawful :=
  h.of_live (by simp) (State.roles_of_ports (by simp)) (State.claims_of_slots (by simp))
    (State.reservations_of_cars (by simp)) (by simp) s.railFree_livePorts (by simp)

/-- What a free position takes from the queue (R9, R14): each sequence stays, with its session's identity and address, or goes to
be the ASSIGN answer to come. -/
theorem takeFree_moves (l : List Sequence) (hs : ∀ q ∈ l, q.sent ≤ 4) :
    ((takeFree l).2.length ≤ l.length ∧ ∀ q ∈ (takeFree l).2, q.sent ≤ 4) ∧
    (∀ x ∈ (takeFree l).2, ∃ y ∈ l, x.port = y.port ∧ x.identity = y.identity ∧ x.address = y.address) ∧
    ((takeFree l).2.map (·.port) ++ (takeFree l).1.livePort.toList).Perm (l.map (·.port)) := by
  cases l with
  | nil => exact ⟨⟨Nat.le_refl 0, by simp [takeFree]⟩, by simp [takeFree], List.Perm.refl _⟩
  | cons q rest =>
    have hr : ∀ y ∈ rest, ∃ z ∈ q :: rest, y.port = z.port ∧ y.identity = z.identity ∧ y.address = z.address :=
      fun y hy => ⟨y, List.mem_cons_of_mem _ hy, rfl, rfl, rfl⟩
    unfold takeFree
    dsimp only
    split
    · rename_i hlt
      refine ⟨⟨le_rfl, fun y hy => ?_⟩, fun y hy => ?_, ?_⟩
      · rcases List.mem_cons.1 hy with rfl | hy
        · exact hlt
        · exact hs y (List.mem_cons_of_mem _ hy)
      · rcases List.mem_cons.1 hy with rfl | hy
        · exact ⟨q, List.mem_cons_self, rfl, rfl, rfl⟩
        · exact hr y hy
      · rw [LineItem.frame_livePort]; simp
    · refine ⟨⟨by simp, fun y hy => hs y (List.mem_cons_of_mem _ hy)⟩, hr, ?_⟩
      exact List.perm_append_comm

theorem State.PairingLawful.freePosition {s : State} (h : s.PairingLawful) : s.freePosition.PairingLawful := by
  unfold State.freePosition
  split
  · exact h
  · rename_i hk
    obtain ⟨hr, hf⟩ := not_or.1 hk
    obtain ⟨hl, hs⟩ := h.shape
    obtain ⟨⟨k1, k2⟩, k3, k4⟩ := takeFree_moves s.insertionQueue hs
    obtain ⟨u, hu⟩ : ∃ u, u = { s with insertionQueue := (takeFree s.insertionQueue).2 } := ⟨_, rfl⟩
    obtain ⟨x, hx⟩ : ∃ x, x = (takeFree s.insertionQueue).1 := ⟨_, rfl⟩
    have hq : (u.position x).insertionQueue = (takeFree s.insertionQueue).2 := by rw [(u.position_same x).2.2.1.1, hu]
    have hw : (u.position x).queueWaiting = s.queueWaiting := by rw [(u.position_same x).2.2.1.2, hu]
    have hlive : (u.position x).livePorts.Perm (s.livePorts ++ x.livePort.toList) := by
      have hf' : s.lineFull = false := by simpa using hf
      have := State.position_livePorts (s := u) (by rw [hu]; exact hr) (by rw [hu]; exact hf') x
      rw [hu] at this ⊢; exact this
    have hperm : (u.position x).pairingPorts.Perm s.pairingPorts := by
      rw [State.pairingPorts_eq, State.pairingPorts_eq, hq, hw, List.append_assoc, List.append_assoc]
      refine List.Perm.append_left _ ?_
      calc (takeFree s.insertionQueue).2.map (·.port) ++ (u.position x).livePorts
          |>.Perm ((takeFree s.insertionQueue).2.map (·.port) ++ (x.livePort.toList ++ s.livePorts)) :=
            List.Perm.append_left _ (hlive.trans List.perm_append_comm)
        _ |>.Perm (s.insertionQueue.map (·.port) ++ s.livePorts) := by
            rw [← List.append_assoc, hx]; exact List.Perm.append_right _ k4
    rw [← hu, ← hx]
    refine h.of_moves ?_ (State.roles_of_ports ?_) (State.claims_of_slots ?_) (State.reservations_of_cars ?_) hw
      ⟨by rw [hq]; omega, by rw [hq]; exact k2⟩ (by rw [hq]; exact k3) (fun p hm => ?_) hperm ?_
    · rw [(u.position_same x).2.2.2.2.2.1, hu]
    · rw [(u.position_same x).2.2.2.2.2.2.1, hu]
    · rw [(u.position_same x).2.2.2.1, hu]
    · rw [(u.position_same x).2.2.2.2.1, hu]
    · rcases List.mem_append.1 (hlive.mem_iff.1 hm) with hm | hm
      · exact .inl hm
      · right
        have : p ∈ s.insertionQueue.map (·.port) := k4.mem_iff.1 (List.mem_append.2 (.inr (hx ▸ hm)))
        simpa using this
    · rw [(u.position_same x).1.2.2, hu]

end Sys2Proof.Machine

/-! The closes of the answer windows, the places of the insertion queue, the expiries and the requests of the Pairing Engine keep
the pairing laws (R12, R16, R17, R71, R79 to R87, R95). -/

namespace Sys2Proof.Machine

/-- Sessions, roles, slots, cars, insertion queue, rail output and internal reset stay. -/
theorem State.PairingLawful.untouched {s t : State} (h : s.PairingLawful) (hs : t.sessions = s.sessions := by simp)
    (hr : t.roles = s.roles := by simp) (hc : t.slots = s.slots := by simp) (hv : t.cars = s.cars := by simp)
    (hi : s.SameInsertion t := by simp)
    (ho : t.window = s.window ∧ t.closing = s.closing ∧ t.waitingLine = s.waitingLine := by simp)
    (hh : t.resetHeld = s.resetHeld := by simp) : t.PairingLawful :=
  h.of_ports hs hr hc hv hi ho hh

/-- The same where the ports' records stay and the slots and the cars keep what they name. -/
theorem State.PairingLawful.unclaimed {s t : State} (h : s.PairingLawful) (hs : t.sessions = s.sessions := by simp)
    (hr : t.ports = s.ports := by simp) (hc : t.claims = s.claims := by simp)
    (hv : t.reservations = s.reservations := by simp) (hi : s.SameInsertion t := by simp)
    (ho : t.window = s.window ∧ t.closing = s.closing ∧ t.waitingLine = s.waitingLine := by simp)
    (hh : t.resetHeld = s.resetHeld := by simp) : t.PairingLawful :=
  h.of_fields hs (State.roles_of_ports hr) hc hv hi ho hh

/-! ### The close of an answer window -/

theorem AnswerWindow.filterMap_livePort (w : AnswerWindow) : [w].filterMap AnswerWindow.livePort = w.livePort.toList := by
  cases h : w.livePort <;> simp [h]

/-- A port stands nowhere when it is counted nowhere. -/
theorem State.Absent.of_count {s : State} {p : PortIx} (h : s.pairingPorts.count p = 0) : s.Absent p := by
  have hm := List.count_eq_zero.1 h
  rw [s.pairingPorts_eq] at hm
  simp only [List.mem_append, List.mem_map, not_or, not_exists, not_and] at hm
  exact ⟨hm.1.1, hm.1.2, hm.2⟩

/-- The window that closes is one that is named, and it is no longer owed; only the rail output changes (R16, R17). -/
theorem State.closeWindow_eq_some {s t : State} {f : AnswerWindow → Bool} {w : AnswerWindow}
    (h : s.closeWindow f = some (w, t)) : f w = true ∧ s.livePorts.Perm (w.livePort.toList ++ t.livePorts) ∧
      t = { s with railOut := t.railOut, window := t.window, closing := t.closing } := by
  unfold State.closeWindow at h
  split at h
  · rename_i v hv
    cases h
    refine ⟨List.find?_some hv, ?_, rfl⟩
    have hp : (s.closing.filterMap AnswerWindow.livePort).Perm
        (w.livePort.toList ++ (s.closing.erase w).filterMap AnswerWindow.livePort) := by
      rw [← w.filterMap_livePort, ← List.filterMap_append]
      exact (List.perm_cons_erase (List.mem_of_find?_eq_some hv)).filterMap _
    rw [State.livePorts_eq, State.livePorts_eq, ← List.append_assoc w.livePort.toList]
    exact hp.append_right _
  · split at h
    · rename_i v hv
      cases h
      obtain ⟨hw, hf⟩ := Option.filter_eq_some_iff.1 hv
      refine ⟨hf, ?_, rfl⟩
      rw [State.livePorts_eq, State.livePorts_eq, hw, Option.toList_some, w.filterMap_livePort, ← List.append_assoc,
        ← List.append_assoc]
      exact List.Perm.append_right _ List.perm_append_comm
    · cases h

/-- A window that closes, other than one of a live ASSIGN answer. -/
theorem State.PairingLawful.closeWindow {s t : State} (h : s.PairingLawful) {f : AnswerWindow → Bool} {w : AnswerWindow}
    (hc : s.closeWindow f = some (w, t)) (hw : w.livePort = none) : t.PairingLawful := by
  obtain ⟨-, hp, ht⟩ := State.closeWindow_eq_some hc
  rw [hw] at hp
  refine h.of_live ?_ ?_ ?_ ?_ ?_ hp.symm ?_
  case refine_5 => rw [ht]; exact ⟨rfl, rfl⟩
  all_goals rw [ht]
  all_goals rfl

theorem State.PairingLawful.closeCarWindow {s : State} (h : s.PairingLawful) (a : CarIx) (answered : Bool) :
    (s.closeCarWindow a answered).PairingLawful := by
  unfold State.closeCarWindow
  split
  · exact h
  · rename_i w t hw
    have hcar : w = .car a := by simpa using (State.closeWindow_eq_some hw).1
    exact (h.closeWindow hw (by rw [hcar]; rfl)).unclaimed (hc := State.claims_of_slots (by simp))

theorem State.PairingLawful.closeAssignWindow {s : State} (h : s.PairingLawful) (p : PortIx) (answered : Bool) :
    (s.closeAssignWindow p answered).PairingLawful := by
  unfold State.closeAssignWindow
  split
  · exact h
  · rename_i w t hw
    obtain ⟨hf, hp, ht⟩ := State.closeWindow_eq_some hw
    split
    · rename_i hwp
      rw [hwp] at hp
      have hperm : s.livePorts.Perm (p :: t.livePorts) := hp
      obtain ⟨honce, -, -, hlive, -⟩ := h.places p
      have hmem : p ∈ s.livePorts := hperm.mem_iff.2 List.mem_cons_self
      obtain ⟨x, hx, hst⟩ := hlive hmem
      have hcount := hperm.count_eq p
      rw [List.count_cons_self] at hcount
      rw [State.count_pairingPorts] at honce
      have habs : t.Absent p := .of_count <| by
        obtain ⟨hw', hq'⟩ : t.queueWaiting = s.queueWaiting ∧ t.insertionQueue = s.insertionQueue := by
          rw [ht]; exact ⟨rfl, rfl⟩
        rw [State.count_pairingPorts, hw', hq']
        omega
      have hsame : ∀ q, q ≠ p → State.SameFor q s t := fun q hq => by
        refine ⟨?_, ?_, fun g => ?_, fun a => ?_, ?_, ?_, ?_, ?_⟩
        case refine_7 => rw [hperm.count_eq q, List.count_cons_of_ne (Ne.symm hq)]
        all_goals rw [ht]
        all_goals rfl
      have hses : t.SessionLaw p := by
        obtain ⟨k1, k2, k3, k4⟩ := h.sessions p
        rw [ht]
        exact ⟨k1, k2, fun y hy => ⟨(k3 y hy).claim, (k3 y hy).reservation⟩, fun hy => ⟨(k4 hy).claim, (k4 hy).reservation⟩⟩
      have hxt : t.session p = some x := by rw [ht]; exact hx
      refine (State.ChangesAt.after (State.assignResult_changesAt hses hxt hst habs answered) hsame fun k => ?_).lawful h
      rw [ht]
      exact k
    · rename_i hwp
      have hw0 : w = .abandoned p := by simpa [AnswerWindow.tagged, hwp] using hf
      exact h.closeWindow hw (by rw [hw0]; rfl)

/-! ### A place of the insertion queue -/

/-- The session that has waited longest takes a free place (R12). -/
theorem State.PairingLawful.queuePlace {s : State} (h : s.PairingLawful) : s.queuePlace.PairingLawful := by
  unfold State.queuePlace
  split
  · exact h
  · rename_i p rest hq
    split
    · rename_i hlen
      obtain ⟨honce, hwait, -, -, -⟩ := h.places p
      obtain ⟨x, hx, hst⟩ := hwait (by rw [hq]; exact List.mem_cons_self)
      obtain ⟨hl1, hl2, hl3, hl4, hl5⟩ := (h.sessions p).lawful x hx
      obtain ⟨hc, hr⟩ := (h.sessions p).names x hx
      obtain ⟨hsl, hi, ha⟩ := hl1 (by rw [hst]; rfl)
      obtain ⟨id, hi⟩ := Option.isSome_iff_exists.1 hi
      obtain ⟨a, ha⟩ := Option.isSome_iff_exists.1 ha
      obtain ⟨u, hu⟩ : ∃ u, u = { s with queueWaiting := rest } := ⟨_, rfl⟩
      rw [State.count_pairingPorts, hq, List.count_cons_self] at honce
      have habs : u.Absent p := .of_count <| by
        obtain ⟨hw', hq', hl'⟩ : u.queueWaiting = rest ∧ u.insertionQueue = s.insertionQueue ∧ u.livePorts = s.livePorts := by
          rw [hu]; exact ⟨rfl, rfl, rfl⟩
        rw [State.count_pairingPorts, hw', hq', hl']
        omega
      have hm : u.MayPlace p x id a := by
        have hw0 : x.windowDue = none := by
          have : ¬ x.windowDue.isSome := by rw [hl2, hst]; simp
          simpa using this
        have hd0 : x.showDue = none := by
          have : ¬ x.showDue.isSome := by rw [hl3, hst]; simp
          simpa using this
        refine ⟨by rw [hu]; exact (h.sessions p).role_of_session hx, hi, ha, hsl, hw0, hd0, hl5 (by rw [hst]; rfl),
          fun g => ?_, fun b => ?_, habs⟩
        · rw [hu]; exact (hc g).trans (by rw [hst]; simp [SessionState.isOpen])
        · rw [hu]; exact (hr b).trans (by rw [hst, ha]; simp [SessionState.holdsCar, eq_comm])
      have hsame : ∀ q, q ≠ p → State.SameFor q s u := fun q hne => by
        rw [hu]
        exact ⟨rfl, rfl, fun _ => Iff.rfl, fun _ => Iff.rfl, by rw [hq, List.count_cons_of_ne (Ne.symm hne)], rfl, rfl, rfl⟩
      have hux : u.session p = some x := by rw [hu]; exact hx
      rw [← hu]
      refine (State.ChangesAt.after (hm.sending_changesAt ?_ (State.appendSequence_eq hux hi ha)) hsame fun k => ?_).lawful h
      · rw [hu]; exact hlen
      · rw [hu]; exact k
    · exact h

/-! ### The expiries of a session -/

theorem State.PairingLawful.expire {s : State} (h : s.PairingLawful) (due : Option Nat) {f : State → State}
    (hf : (f s).PairingLawful) : (s.expire due f).PairingLawful :=
  State.expire_induct (P := State.PairingLawful) h fun _ _ _ => hf

/-- An expiry that acts in some states alone. -/
theorem State.PairingLawful.expire_ite {s : State} (h : s.PairingLawful) (due : Option Nat) (c : State → Prop)
    [∀ u, Decidable (c u)] {f : State → State} (hf : (f s).PairingLawful) :
    (s.expire due fun u => if c u then f u else u).PairingLawful :=
  h.expire due (by split; exacts [hf, h])

/-- A session that is open fails (R81). -/
theorem State.PairingLawful.failSession {s : State} (h : s.PairingLawful) {p : PortIx} {x : Session}
    (hx : s.session p = some x) (ho : x.state.isOpen = true) (why : SessionOutcome) :
    (s.failSession p x why).PairingLawful := by
  obtain ⟨-, -, -, hatt, -⟩ := (h.sessions p).lawful x hx
  exact (State.failSession_changesAt ((h.sessions p).role_of_session hx) ((h.sessions p).names x hx) ho hatt why).lawful h

theorem State.PairingLawful.windowExpires {s : State} (h : s.PairingLawful) (p : PortIx) :
    (s.windowExpires p).PairingLawful := by
  unfold State.windowExpires
  split
  · exact h
  · rename_i x hx
    refine h.expire _ ?_
    split
    · rename_i hw
      exact h.failSession hx (by rw [hw]; rfl) _
    · exact h

/-- A session that is not open is written again, not open. -/
theorem State.PairingLawful.rewriteClosed {s t : State} (h : s.PairingLawful) {p : PortIx} {x y : Session}
    (hx : s.session p = some x) (ho : x.state.isOpen = false) (hy : y.Lawful) (hyo : y.state.isOpen = false)
    (hs : t.sessions = s.sessions.set p (some y)) (hr : t.roles = s.roles) (hc : t.slots = s.slots)
    (hv : t.cars = s.cars) (hi : s.SameInsertion t)
    (hout : t.window = s.window ∧ t.closing = s.closing ∧ t.waitingLine = s.waitingLine)
    (hh : t.resetHeld = s.resetHeld) : t.PairingLawful := by
  have hno : ∀ z, s.session p = some z → z.state.isOpen = false := fun z hz => by
    rw [hx] at hz; exact Option.some.inj hz ▸ ho
  have hn := (h.sessions p).holdsNothing hno
  have ha := (h.places p).absent fun z hz => SessionState.holdsCar_of_not_open (hno z hz)
  refine (State.closed_changesAt (y := some y) hn ha ?_ hs (fun q _ => by rw [hr]) ?_ (State.claims_of_slots hc)
    (State.reservations_of_cars hv) hi hout hh).lawful h
  · rintro z ⟨⟩; exact ⟨hy, hyo⟩
  · rw [hr, (h.sessions p).role_of_session hx]; simp

theorem State.PairingLawful.showExpires {s : State} (h : s.PairingLawful) (p : PortIx) :
    (s.showExpires p).PairingLawful := by
  unfold State.showExpires
  split
  · exact h
  · rename_i x hx
    refine h.expire _ ?_
    split
    · rename_i hst
      have ho : x.state.isOpen = false := by rcases hst with e | e <;> rw [e] <;> rfl
      obtain ⟨-, hw, -, ht, -⟩ := (h.sessions p).lawful x hx
      have hw0 : x.windowDue = none := by
        have : ¬ x.windowDue.isSome := by rw [hw]; rcases hst with e | e <;> rw [e] <;> simp
        simpa using this
      refine h.rewriteClosed (y := { x with state := .closed, showDue := none }) hx ho ?_ rfl ?_
        (State.showSession_roles ..) (by simp) (by simp) (by simp) (by simp) (by simp)
      · simp [Session.Lawful, SessionState.holdsCar, SessionState.isOpen, hw0, ht]
      · unfold State.showSession
        dsimp only
        split <;> simp
    · exact h

end Sys2Proof.Machine

/-! Role changes, the requests of the Pairing Engine, rest and the resets keep the pairing laws (R71, R85 to R87, R95, R145, R148,
R150). -/

namespace Sys2Proof.Machine

/-! ### Opening, cancelling and aborting a session -/

theorem State.session_of_baySession {s : State} {p : PortIx} {x : Session} (h : s.baySession p = some x) :
    s.session p = some x := by
  unfold State.baySession at h
  split at h
  · exact h
  · cases h

/-- A closed session is lawful (R86, R87). -/
theorem Session.Lawful.closed {x : Session} (h : x.Lawful) : x.closed.Lawful := by
  obtain ⟨-, -, -, ht, -⟩ := h
  simp [Session.Lawful, Session.closed, SessionState.holdsCar, SessionState.isOpen, ht]

theorem Session.fresh_lawful : Session.fresh.Lawful := by
  simp [Session.Lawful, Session.fresh, SessionState.holdsCar, SessionState.isOpen]

theorem State.PairingLawful.abandon {s : State} (h : s.PairingLawful) (p : PortIx) : (s.abandon p).PairingLawful :=
  h.untouched (hr := State.roles_of_ports (by simp))

theorem State.PairingLawful.abortSession {s : State} (h : s.PairingLawful) (p : PortIx) :
    (s.abortSession p).PairingLawful := by
  unfold State.abortSession
  split
  · exact h
  · rename_i x hx
    have hl := (h.sessions p).lawful x hx
    split
    · rename_i ho
      have k := State.endSession_changesAt ((h.sessions p).role_of_session hx) ((h.sessions p).names x hx) ho hl.closed rfl
      exact (k.lawful h).untouched
    · rename_i ho
      exact h.rewriteClosed (y := x.closed) hx (by simpa using ho) hl.closed rfl rfl rfl rfl rfl ⟨rfl, rfl⟩
        ⟨rfl, rfl, rfl⟩ rfl

/-- The session of an aborted port is not open any more. -/
theorem State.abortSession_session_closed (s : State) (p : PortIx) (x : Session) (h : (s.abortSession p).session p = some x) :
    x.state.isOpen = false := by
  unfold State.abortSession at h
  split at h
  · rename_i hn
    rw [hn] at h; cases h
  · split at h
    · have hs : ∀ u : State, (u.notifyPort .pairFailed p).session p = u.session p := fun u => by simp
      rw [hs, State.session_setSession, if_pos rfl] at h
      cases h; rfl
    · rw [State.session_setSession, if_pos rfl] at h
      cases h; rfl

/-- A role is written after the port's session is aborted (R69, R86, R95). -/
theorem State.PairingLawful.writeRole {s : State} (h : s.PairingLawful) (p : PortIx) (role : Role) :
    (s.writeRole p role).PairingLawful := by
  obtain ⟨u, hu⟩ : ∃ u, u = (s.abandon p).abortSession p := ⟨_, rfl⟩
  have hul : u.PairingLawful := hu ▸ (h.abandon p).abortSession p
  have hno : ∀ z, u.session p = some z → z.state.isOpen = false := fun z hz =>
    (s.abandon p).abortSession_session_closed p z (hu ▸ hz)
  unfold State.writeRole
  dsimp only
  rw [← hu]
  have hro : ∀ q : Port, ((q.keepLate role s.now).clearRun.takeRole role (s.after 100)).role = role := fun q => by
    unfold Port.takeRole
    dsimp only
    split <;> simp [Port.resetModule]
  have hrp : ((u.modPort p fun q => (q.keepLate role s.now).clearRun.takeRole role (s.after 100)).setSession p
      (sessionForRole role (u.session p))).roles p = role := by
    unfold State.roles
    rw [show ∀ v : State, (v.setSession p (sessionForRole role (u.session p))).port p = v.port p from fun _ => rfl,
      State.port_modPort, if_pos rfl, hro]
  refine (State.closed_changesAt (t := (u.modPort p fun q =>
      (q.keepLate role s.now).clearRun.takeRole role (s.after 100)).setSession p (sessionForRole role (u.session p)))
    (y := sessionForRole role (u.session p)) ((hul.sessions p).holdsNothing hno)
    ((hul.places p).absent fun z hz => SessionState.holdsCar_of_not_open (hno z hz)) (fun z hz => ?_) rfl (fun q hq => ?_)
    ?_ rfl rfl ⟨rfl, rfl⟩ ⟨rfl, rfl, rfl⟩ rfl).lawful hul
  · unfold sessionForRole at hz
    split at hz
    · cases hx : u.session p with
      | none => rw [hx] at hz; cases hz; exact ⟨Session.fresh_lawful, rfl⟩
      | some x => rw [hx] at hz; cases hz; exact ⟨(hul.sessions p).lawful _ hx, hno _ hx⟩
    · cases hz
  · unfold State.roles
    rw [show ∀ v : State, (v.setSession p (sessionForRole role (u.session p))).port q = v.port q from fun _ => rfl,
      State.port_modPort, if_neg (Ne.symm hq)]
  · rw [hrp]
    unfold sessionForRole
    split <;> simp [*]

/-! ### Rest and resets -/

theorem State.SessionLaw.congr {s t : State} {p : PortIx} (h : s.SessionLaw p) (hs : t.session p = s.session p)
    (hr : t.roles = s.roles) (hc : t.claims = s.claims) (hv : t.reservations = s.reservations) : t.SessionLaw p := by
  obtain ⟨k1, k2, k3, k4⟩ := h
  refine ⟨by rw [hs, hr]; exact k1, fun x hx => k2 x (hs ▸ hx), fun x hx => ?_, fun hx => ?_⟩
  · obtain ⟨n1, n2⟩ := k3 x (hs ▸ hx)
    exact ⟨fun g => by rw [hc]; exact n1 g, fun a => by rw [hv]; exact n2 a⟩
  · obtain ⟨n1, n2⟩ := k4 (hs ▸ hx)
    exact ⟨fun g => by rw [hc]; exact n1 g, fun a => by rw [hv]; exact n2 a⟩

/-- A part that may go to rest has no session but CLOSED ones (R145). -/
theorem State.closed_of_canRest {s : State} (h : s.canRest = true) (p : PortIx) (x : Session) (hx : s.session p = some x) :
    x.state = .closed := by
  simp only [State.canRest, Bool.and_eq_true, List.all_eq_true] at h
  obtain ⟨-, hs⟩ := h
  have := hs p (List.mem_finRange p)
  rw [hx] at this
  simpa using this

theorem State.PairingLawful.enterRest {s : State} (h : s.PairingLawful) (hr : s.canRest = true) :
    s.enterRest.PairingLawful := by
  have ha : ∀ p, s.Absent p := fun p => (h.places p).absent fun x hx => by
    rw [State.closed_of_canRest hr p x hx]; rfl
  have hs : s.livePorts = [] := List.eq_nil_iff_forall_not_mem.2 fun p => (ha p).live
  have ht : s.enterRest.livePorts = [] := by
    rw [State.livePorts_eq] at hs ⊢
    obtain ⟨h1, h2⟩ := List.append_eq_nil_iff.1 hs
    have h3 : s.enterRest.waitingLine = [] := rfl
    simp only [State.enterRest_same, h3, h1, (List.append_eq_nil_iff.1 h2).1, List.filterMap_nil, List.append_nil]
  refine h.of_live (by simp) ?_ (State.claims_of_slots (by simp)) ?_ (by simp) (by rw [hs, ht]) (by simp)
  · unfold State.enterRest
    exact (State.roles_of_ports (s := s.mapPorts Port.rest) (by simp)).trans (State.roles_mapPorts Port.rest_role)
  · exact (State.reservations_of_cars (s := (s.mapPorts Port.rest).zeroFine) rfl).trans
      ((State.zeroFine_reservations _).trans (State.reservations_of_cars (by simp)))

theorem State.PairingLawful.beginWake {s : State} (h : s.PairingLawful) : s.beginWake.PairingLawful :=
  h.untouched (hr := (State.roles_of_ports (s := s.mapPorts (Port.wake (s.after 100))) rfl).trans
    (State.roles_mapPorts fun q => q.wake_role _))

/-- While the internal reset is held, windows that are cut off give no place any more (R148). -/
theorem State.PairingLawful.holdReset {s : State} (h : s.PairingLawful) (cause : Cause) :
    (s.holdReset cause).PairingLawful := by
  have hr : (s.holdReset cause).roles = s.roles :=
    (State.roles_of_ports (s := s.mapPorts fun q => { q with leaving := none, moduleSending := false }) rfl).trans
      (State.roles_mapPorts fun _ => rfl)
  have hc : (s.holdReset cause).claims = s.claims := State.claims_of_slots (by simp [State.holdReset])
  have hv : (s.holdReset cause).reservations = s.reservations := State.reservations_of_cars (by simp [State.holdReset])
  have hs : ∀ p, (s.holdReset cause).session p = s.session p := fun p => by simp [State.holdReset]
  have hi : s.SameInsertion (s.holdReset cause) := by simp [State.holdReset]
  obtain ⟨hi1, hi2⟩ := hi
  have hl : (s.holdReset cause).livePorts.Sublist s.livePorts := by
    have hw : (s.holdReset cause).livePorts = s.waitingLine.filterMap LineItem.livePort := by
      simp [State.livePorts_eq, State.holdReset]
    rw [hw, State.livePorts_eq, ← List.append_assoc]
    exact List.sublist_append_right _ _
  refine ⟨?_, fun p => (h.sessions p).congr (hs p) hr hc hv, fun p => ?_⟩
  · unfold State.QueueShape
    rw [hi1]
    exact h.shape
  · obtain ⟨honce, hwait, hq, hlive, -⟩ := h.places p
    refine ⟨?_, fun hm => ?_, fun x hx => ?_, fun hm => ?_, fun h0 => ?_⟩
    · have := hl.count_le p
      rw [State.count_pairingPorts] at honce ⊢
      rw [hi1, hi2]
      omega
    · rw [hs]; exact hwait (hi2 ▸ hm)
    · rw [hs]; exact hq x (hi1 ▸ hx)
    · rw [hs]; exact hlive (hl.subset hm)
    · cases h0

/-- A state in which nothing waits, is queued or is owed, and no claim, no reservation and no open session stands. -/
theorem State.PairingLawful.of_cleared {s : State} (hq : s.insertionQueue = []) (hw : s.queueWaiting = [])
    (hl : s.livePorts = []) (hc : ∀ g, s.claims g = none) (hv : ∀ a, s.reservations a = none)
    (hb : ∀ p, (s.session p).isSome ↔ s.roles p = .bay)
    (hx : ∀ p x, s.session p = some x → x.Lawful ∧ x.state.isOpen = false) : s.PairingLawful := by
  refine ⟨by simp [State.QueueShape, hq], fun p => ?_, fun p => ?_⟩
  · refine State.HoldsNothing.sessionLaw ⟨fun g => ?_, fun a => ?_⟩ (hb p) (hx p)
    · rw [hc]; simp
    · rw [hv]; simp
  · refine State.Absent.placeLaw ⟨?_, ?_, ?_⟩ fun x h => SessionState.holdsCar_of_not_open (hx p x h).2
    · rw [hw]; simp
    · rw [hq]; simp
    · rw [hl]; simp

theorem State.hardReset_pairingLawful (high : Bool) (cause : Cause) (l : List Instr) :
    (State.hardReset high cause l).PairingLawful := by
  refine .of_cleared rfl rfl rfl (fun g => ?_) (fun a => ?_) (fun p => ?_) (fun p x hx => ?_)
  · simp [State.claims, State.hardReset, Slot.reset]
  · simp [State.reservations, State.hardReset, Car.reset]
  · simp [State.roles, State.hardReset, Port.reset]
  · simp [State.hardReset] at hx

theorem State.releaseReset_pairingLawful (s : State) (high : Bool) : (s.releaseReset high).PairingLawful :=
  (State.hardReset_pairingLawful high s.cause s.pending).of_ports rfl rfl rfl rfl ⟨rfl, rfl⟩ ⟨rfl, rfl, rfl⟩ rfl

theorem AnswerWindow.cut_livePort (w : AnswerWindow) : w.cut.livePort = none := by cases w <;> rfl

/-- A soft reset closes every session, and gives up all that they hold (R87, R150). -/
theorem State.PairingLawful.softReset {s : State} (h : s.PairingLawful) : s.softReset.PairingLawful := by
  have hs : ∀ p, s.softReset.session p = (s.session p).map Session.closed := fun p => by
    simp only [State.softReset, State.softResetTables, State.session_eq, Vector.getElem_ofFn]
  refine .of_cleared ?_ ?_ ?_ (fun g => ?_) (fun a => ?_) (fun p => ?_) (fun p x hx => ?_)
  · simp only [State.softReset, State.softResetTables]
  · simp only [State.softReset, State.softResetTables]
  · have hcut : ∀ l : List AnswerWindow, (l.map AnswerWindow.cut).filterMap AnswerWindow.livePort = [] := fun l => by
      simp [List.filterMap_map, AnswerWindow.cut_livePort]
    rw [State.livePorts_eq]
    simp only [State.softReset, State.softResetTables, Option.toList_map, hcut, List.filterMap_nil, List.append_nil]
  · simp [State.claims, State.softReset, State.softResetTables]
  · unfold State.reservations
    rw [State.softReset_car]
    simp [Car.softReset]
  · have hr : s.softReset.roles p = s.roles p := by
      simp only [State.roles, State.softReset, State.softResetTables, State.port_eq, Vector.getElem_ofFn, Port.softReset_role]
    rw [hs, hr, Option.isSome_map]
    exact (h.sessions p).bay
  · rw [hs] at hx
    obtain ⟨y, hy, rfl⟩ := Option.map_eq_some_iff.1 hx
    exact ⟨((h.sessions p).lawful y hy).closed, rfl⟩

end Sys2Proof.Machine

/-! Every request, every other command and every tick keep the pairing laws; O58. -/

namespace Sys2Proof.Machine

/-! ### The Management Unit -/

@[simp] theorem accept_state (s : State) (words : List Word16) : (accept s words).1 = s := rfl

@[simp] theorem State.disarmMoved_claims (s t : State) : (State.disarmMoved s t).claims = t.claims :=
  State.claims_of_slots (by simp)

theorem reqStatus_pairing {s : State} (h : s.PairingLawful) (b : Bool) : (reqStatus b s).1.PairingLawful := by
  cases b
  · exact h
  · exact h.of_ports rfl rfl rfl rfl ⟨rfl, rfl⟩ ⟨rfl, rfl, rfl⟩ rfl

theorem reqPortRole_pairing {s : State} (h : s.PairingLawful) (port : BitVec 8) (role : BitVec 4) :
    (reqPortRole port role s).1.PairingLawful := by
  unfold reqPortRole
  split
  · split
    · exact h
    · split
      · exact h
      · exact h.writeRole _ _
  · exact h

theorem reqPortMask_pairing {s : State} (h : s.PairingLawful) (port : BitVec 8) (m : Bool) :
    (reqPortMask port m s).1.PairingLawful := by
  unfold reqPortMask
  split
  · exact h
  · split
    · exact h
    · exact h.untouched (hr := State.roles_modPort fun _ => rfl)

theorem reqSectionWrite_pairing {s : State} (h : s.PairingLawful) (port zone : BitVec 4) (cap hold g f : BitVec 8)
    (th : Word16) : (reqSectionWrite port zone cap hold g f th s).1.PairingLawful := by
  unfold reqSectionWrite
  split
  · dsimp only
    split
    · exact h
    · exact h.untouched (hr := State.roles_modPort fun _ => rfl)
  · exact h

theorem reqSectionRead_pairing {s : State} (h : s.PairingLawful) (port : BitVec 8) :
    (reqSectionRead port s).1.PairingLawful := by
  unfold reqSectionRead
  split <;> exact h

theorem reqSectionCounts_pairing {s : State} (h : s.PairingLawful) (port : BitVec 8) (page : BitVec 2) (e : Bool) :
    (reqSectionCounts port page e s).1.PairingLawful := by
  unfold reqSectionCounts
  split
  · exact h
  · split
    · exact h
    · rename_i p _ _
      cases e
      · exact h
      · have h1 : (s.modPort p fun q => { q with errors := 0 }).PairingLawful :=
          h.untouched (hr := State.roles_modPort fun _ => rfl)
        exact h1

theorem reqSectionClear_pairing {s : State} (h : s.PairingLawful) (port : BitVec 8) :
    (reqSectionClear port s).1.PairingLawful := by
  unfold reqSectionClear
  split
  · exact h
  · split
    · exact h
    · split
      · exact h
      · exact h.untouched (hr := State.roles_modPort Port.clearSection_role)

theorem reqZoneWrite_pairing {s : State} (h : s.PairingLawful) (zone capacity : BitVec 8) :
    (reqZoneWrite zone capacity s).1.PairingLawful := by
  unfold reqZoneWrite
  split
  · exact h
  · exact h.of_ports rfl rfl rfl rfl ⟨rfl, rfl⟩ ⟨rfl, rfl, rfl⟩ rfl

theorem reqZoneRead_pairing {s : State} (h : s.PairingLawful) (zone : BitVec 8) (page : BitVec 2) :
    (reqZoneRead zone page s).1.PairingLawful := by
  unfold reqZoneRead
  split
  · exact h
  · split <;> exact h

theorem reqCurveWrite_pairing {s : State} (h : s.PairingLawful) (curve point : BitVec 4) (v : BitVec 8) :
    (reqCurveWrite curve point v s).1.PairingLawful := by
  unfold reqCurveWrite
  split
  · exact h.of_ports rfl rfl rfl rfl ⟨rfl, rfl⟩ ⟨rfl, rfl, rfl⟩ rfl
  · exact h

theorem reqCurveRead_pairing {s : State} (h : s.PairingLawful) (curve half : BitVec 4) :
    (reqCurveRead curve half s).1.PairingLawful := by
  unfold reqCurveRead
  split
  · exact h
  · split <;> exact h

theorem reqCarWrite_pairing {s : State} (h : s.PairingLawful) (addr limit : BitVec 8) (curve : BitVec 4)
    (up down : BitVec 8) : (reqCarWrite addr limit curve up down s).1.PairingLawful := by
  unfold reqCarWrite
  split
  · exact h.unclaimed (hc := State.claims_of_slots (by simp)) (hv := State.reservations_modCar fun _ => rfl)
  · exact h

theorem reqCarRead_pairing {s : State} (h : s.PairingLawful) (addr : BitVec 8) : (reqCarRead addr s).1.PairingLawful := by
  unfold reqCarRead
  split <;> exact h

theorem reqCarIdentity_pairing {s : State} (h : s.PairingLawful) (addr : BitVec 8) :
    (reqCarIdentity addr s).1.PairingLawful := by
  unfold reqCarIdentity
  split
  · exact h
  · split <;> exact h

theorem reqBind_pairing {s : State} (h : s.PairingLawful) (slot addr : BitVec 8) :
    (reqBind slot addr s).1.PairingLawful := by
  unfold reqBind
  split
  · split
    · exact h
    · exact h.unclaimed (hc := by simp [State.bindCar]) (hv := by simp [State.bindCar])
  · exact h

theorem reqUnbind_pairing {s : State} (h : s.PairingLawful) (slot : BitVec 8) : (reqUnbind slot s).1.PairingLawful := by
  unfold reqUnbind
  split
  · exact h
  · split
    · exact h
    · exact h.unclaimed (hc := by simp [State.unbindSlot]) (hv := by simp [State.unbindSlot])

theorem reqForget_pairing {s : State} (h : s.PairingLawful) (addr : BitVec 8) : (reqForget addr s).1.PairingLawful := by
  unfold reqForget
  split
  · exact h
  · split
    · exact h
    · exact h.unclaimed 

theorem reqPairOpen_pairing {s : State} (h : s.PairingLawful) (port slot window : BitVec 8) :
    (reqPairOpen port slot window s).1.PairingLawful := by
  unfold reqPairOpen
  split
  · split
    · exact h
    · split
      · exact h
      · rename_i x hx
        split
        · exact h
        · rename_i ho
          split
          · exact h
          · rename_i g _ _ hc
            refine h.openSession (State.session_of_baySession hx) (by simpa using ho) (fun k hk => ?_) _
            rw [hk] at hc
            simpa [State.claims] using hc
  · exact h

theorem reqPairCancel_pairing {s : State} (h : s.PairingLawful) (port : BitVec 8) :
    (reqPairCancel port s).1.PairingLawful := by
  unfold reqPairCancel
  split
  · exact h
  · split
    · exact h
    · rename_i x hx
      split
      · rename_i ho
        exact h.failSession (State.session_of_baySession hx) ho _
      · exact h

theorem reqPairRead_pairing {s : State} (h : s.PairingLawful) (port : BitVec 8) (page : BitVec 2) :
    (reqPairRead port page s).1.PairingLawful := by
  unfold reqPairRead
  split
  · exact h
  · split
    · exact h
    · split
      · exact h
      · split
        · exact h
        · split <;> exact h

theorem reqRevive_pairing {s : State} (h : s.PairingLawful) (addr : BitVec 8) : (reqRevive addr s).1.PairingLawful := by
  unfold reqRevive
  split
  · exact h
  · exact h.unclaimed (hc := State.claims_of_slots (by simp)) (hv := State.reservations_modCar fun _ => rfl)

theorem reqMode_pairing {s : State} (h : s.PairingLawful) (w v on : Bool) (bay : BitVec 8) :
    (reqMode w v on bay s).1.PairingLawful := by
  have hw : ∀ d, (s.writeMode w v on d).PairingLawful := fun d => by
    have h1 : State.PairingLawful (if w then s.setFallback on else s) := by
      split
      · exact h.unclaimed (hc := State.claims_of_slots (by simp))
      · exact h
    unfold State.writeMode
    dsimp only
    split
    · exact h1.of_ports rfl rfl rfl rfl ⟨rfl, rfl⟩ ⟨rfl, rfl, rfl⟩ rfl
    · exact h1
  unfold reqMode
  split
  · exact h
  · split
    · exact h
    · exact hw _

theorem reqRest_pairing {s : State} (h : s.PairingLawful) : (reqRest s).1.PairingLawful := by
  unfold reqRest
  split
  · exact h.enterRest ‹_›
  · exact h

theorem reqWake_pairing {s : State} (h : s.PairingLawful) : (reqWake s).1.PairingLawful := by
  unfold reqWake
  dsimp only
  split
  · exact h.beginWake
  · exact h

/-- Every request keeps the pairing laws (R157). -/
theorem requestBody_pairing {s : State} (h : s.PairingLawful) (code : Nat) (arg : BitVec 8) (d1 d2 d3 : Word16) :
    (requestBody code arg d1 d2 d3 s).1.PairingLawful := by
  unfold requestBody
  split
  · exact h
  · exact reqStatus_pairing h _
  · show s.clearNotices.PairingLawful
    exact h.untouched (hr := State.roles_of_ports (by simp))
  · exact h.of_ports rfl rfl rfl rfl ⟨rfl, rfl⟩ ⟨rfl, rfl, rfl⟩ rfl
  · exact reqPortRole_pairing h _ _
  · exact reqPortMask_pairing h _ _
  · exact reqSectionWrite_pairing h _ _ _ _ _ _ _
  · exact reqSectionRead_pairing h _
  · exact reqSectionCounts_pairing h _ _ _
  · exact reqSectionClear_pairing h _
  · exact reqZoneWrite_pairing h _ _
  · exact reqZoneRead_pairing h _ _
  · exact reqCurveWrite_pairing h _ _ _
  · exact reqCurveRead_pairing h _ _
  · exact reqCarWrite_pairing h _ _ _ _ _
  · exact reqCarRead_pairing h _
  · exact reqCarIdentity_pairing h _
  · exact reqBind_pairing h _ _
  · exact reqUnbind_pairing h _
  · exact reqForget_pairing h _
  · exact reqPairOpen_pairing h _ _ _
  · exact reqPairCancel_pairing h _
  · exact reqPairRead_pairing h _ _
  · exact reqRevive_pairing h _
  · exact h.of_ports rfl rfl rfl rfl ⟨rfl, rfl⟩ ⟨rfl, rfl, rfl⟩ rfl
  · exact reqMode_pairing h _ _ _ _
  · exact reqRest_pairing h
  · exact reqWake_pairing h
  · exact h.softReset
  · exact h

theorem State.PairingLawful.dropRequest {s : State} (h : s.PairingLawful) : s.dropRequest.PairingLawful :=
  h.of_ports rfl rfl rfl rfl ⟨rfl, rfl⟩ ⟨rfl, rfl, rfl⟩ rfl

theorem State.PairingLawful.queueReply {s : State} (h : s.PairingLawful) (r : Reply) : (s.queueReply r).PairingLawful :=
  h.of_ports rfl rfl rfl rfl ⟨rfl, rfl⟩ ⟨rfl, rfl, rfl⟩ rfl

theorem State.PairingLawful.respond {s : State} (h : s.PairingLawful) (code : BitVec 6) {f : State → Answer}
    (hf : (f s).1.PairingLawful) : (s.respond code f).PairingLawful := by
  unfold State.respond
  split
  · exact h.dropRequest
  · exact hf.queueReply _

theorem State.PairingLawful.complete {s : State} (h : s.PairingLawful) (r : Assembly) : (s.complete r).PairingLawful := by
  unfold State.complete
  split
  · exact h.dropRequest
  · split
    · exact h.queueReply _
    · split
      · exact h.queueReply _
      · exact h.respond _ (requestBody_pairing h _ _ _ _ _)

/-- Another request under assembly. -/
theorem State.PairingLawful.withAssembly {s : State} (h : s.PairingLawful) (r : Option Assembly) :
    State.PairingLawful { s with assembly := r } :=
  h.of_ports rfl rfl rfl rfl ⟨rfl, rfl⟩ ⟨rfl, rfl, rfl⟩ rfl

theorem State.PairingLawful.completeAtPosition {s : State} (h : s.PairingLawful) (r : Assembly) :
    (s.completeAtPosition r).PairingLawful := by
  have h1 : State.PairingLawful { s with free := s.free + 1 } :=
    h.of_ports rfl rfl rfl rfl ⟨rfl, rfl⟩ ⟨rfl, rfl, rfl⟩ rfl
  unfold State.completeAtPosition
  split
  · exact h.freePosition.complete r
  · dsimp only
    split
    · exact (h1.complete r).freePosition
    · exact h1.freePosition.complete r

/-! ### The upstream frames -/

theorem State.PairingLawful.arrive {s : State} (h : s.PairingLawful) : s.arrive.PairingLawful :=
  h.of_ports rfl rfl rfl rfl ⟨rfl, rfl⟩ ⟨rfl, rfl, rfl⟩ rfl

theorem State.PairingLawful.interrupt {s : State} (h : s.PairingLawful) : s.interrupt.PairingLawful := by
  unfold State.interrupt
  split
  · exact h
  · split
    · exact (h.withAssembly none).dropRequest
    · exact (h.withAssembly none).queueReply _

theorem State.PairingLawful.arriveOther {s : State} (h : s.PairingLawful) : s.arriveOther.PairingLawful :=
  h.arrive.interrupt

theorem State.PairingLawful.cycleWindow {s : State} (h : s.PairingLawful) : s.cycleWindow.PairingLawful := by
  have ho : ∀ {u : State}, u.PairingLawful → u.openWindow.PairingLawful := fun hu => by
    unfold State.openWindow
    split
    · exact hu.of_ports rfl rfl rfl rfl ⟨rfl, rfl⟩ ⟨rfl, rfl, rfl⟩ rfl
    · exact hu.of_ports rfl rfl rfl rfl ⟨rfl, rfl⟩ ⟨rfl, rfl, rfl⟩ rfl
  have h1 : State.PairingLawful { s with free := s.free + 1 } :=
    h.of_ports rfl rfl rfl rfl ⟨rfl, rfl⟩ ⟨rfl, rfl, rfl⟩ rfl
  unfold State.cycleWindow
  split
  · exact ho h
  · dsimp only
    split
    · exact ho h1.interrupt
    · exact (ho h1).interrupt

theorem State.PairingLawful.writeRace {s : State} (h : s.PairingLawful) (race : RaceState) (e : Bool) :
    (s.writeRace race e).PairingLawful := by
  have h1 : State.PairingLawful { s with race := race, laneEnable := e } :=
    h.of_ports rfl rfl rfl rfl ⟨rfl, rfl⟩ ⟨rfl, rfl, rfl⟩ rfl
  unfold State.writeRace
  dsimp only
  split
  · exact h1
  · exact h1.unclaimed (hc := State.claims_of_slots (by simp))

theorem State.PairingLawful.cycleFrame {s : State} (h : s.PairingLawful) (race : RaceState) (e : Bool) (b : BitVec 13) :
    (s.cycleFrame race e b).PairingLawful := by
  have h1 := (h.arrive.cycleWindow.position (.cycle race e b)).writeRace race e
  unfold State.cycleFrame
  exact h1.untouched

/-- Errors that are counted and noticed. -/
theorem State.PairingLawful.discardFrame {s t : State} (h : s.PairingLawful)
    (ht : t = { s with notices := t.notices, frameErrors := t.frameErrors, kindErrors := t.kindErrors }) :
    t.discardFrame.PairingLawful := by
  refine State.PairingLawful.freePosition (State.PairingLawful.arriveOther ?_)
  rw [ht]
  exact h.of_ports rfl rfl rfl rfl ⟨rfl, rfl⟩ ⟨rfl, rfl, rfl⟩ rfl

theorem State.PairingLawful.frameError {s : State} (h : s.PairingLawful) : s.frameError.PairingLawful :=
  h.discardFrame rfl

theorem State.PairingLawful.driveFlags {s : State} (h : s.PairingLawful) (g : SlotIx) (a : Option CarIx) (l p : Bool) :
    (s.driveFlags g a l p).PairingLawful := by
  have h1 : (s.laneEdge g a l).PairingLawful := h.unclaimed (hc := State.claims_of_slots (by simp))
  have h2 : ((s.laneEdge g a l).pairEdge g p).PairingLawful := by
    unfold State.pairEdge
    split
    · exact h1.gesture g
    · exact h1
  unfold State.driveFlags
  exact h2.unclaimed (hv := State.reservations_of_cars (by simp))

theorem State.PairingLawful.driveFrame {s : State} (h : s.PairingLawful) (slot : BitVec 5) (t : BitVec 6) (b l p : Bool) :
    (s.driveFrame slot t b l p).PairingLawful := by
  unfold State.driveFrame
  split
  · exact h.frameError
  · rename_i g _
    split
    · exact h.arriveOther
    · have h1 := h.arriveOther.driveFlags g (s.arriveOther.resolve g) l p
      unfold State.driveSlot State.driveOut
      split
      · exact h1.freePosition
      · exact State.PairingLawful.position (h1.unclaimed (hc := State.claims_of_slots (by simp))) _

theorem State.PairingLawful.beginRequest {s : State} (h : s.PairingLawful) (r : Assembly) :
    (s.beginRequest r).PairingLawful := by
  unfold State.beginRequest
  split
  · exact h.completeAtPosition _
  · exact (h.withAssembly _).freePosition

theorem State.PairingLawful.dataFrame {s : State} (h : s.PairingLawful) (w : Word16) :
    (s.dataFrame w).PairingLawful := by
  unfold State.dataFrame
  split
  · exact h.freePosition
  · dsimp only
    split
    · exact (h.withAssembly none).completeAtPosition _
    · exact (h.withAssembly _).freePosition

theorem State.PairingLawful.closeCarAddress {s : State} (h : s.PairingLawful) (address : BitVec 5) (answered : Bool) :
    (s.closeCarAddress address answered).PairingLawful := by
  unfold State.closeCarAddress
  split
  · exact h
  · exact h.closeCarWindow _ _

/-! ### The module messages -/

/-- A module message keeps the pairing laws when its handling does. -/
theorem State.PairingLawful.onMessage {s : State} (h : s.PairingLawful) (p : PortIx) {f : State → State}
    (hf : ∀ u, u.PairingLawful → (f u).PairingLawful) : (s.onMessage p f).PairingLawful := by
  unfold State.onMessage
  split
  · exact h
  · exact hf _ (h.untouched (hr := State.roles_modPort fun _ => rfl))

theorem State.PairingLawful.portError {s : State} (h : s.PairingLawful) (p : PortIx) : (s.portError p).PairingLawful :=
  h.untouched

theorem State.PairingLawful.readerMessage {s : State} (h : s.PairingLawful) (p : PortIx) {f : State → State}
    (hf : ∀ u, u.PairingLawful → (f u).PairingLawful) : (s.readerMessage p f).PairingLawful :=
  h.onMessage p fun u hu => by
    split
    · exact hf u hu
    · exact hf u hu
    · exact hu.portError p
    · exact hu

theorem State.PairingLawful.roleMessage {s : State} (h : s.PairingLawful) (p : PortIx) (role : Role) {f : State → State}
    (hf : ∀ u, u.PairingLawful → (f u).PairingLawful) : (s.roleMessage p role f).PairingLawful :=
  h.onMessage p fun u hu => by
    split
    · exact hf u hu
    · split
      · exact hu
      · exact hu.portError p

theorem State.PairingLawful.flapMessage {s : State} (h : s.PairingLawful) (p : PortIx) (ends : Bool) {f : State → State}
    (hf : ∀ u, u.PairingLawful → (f u).PairingLawful) : (s.flapMessage p ends f).PairingLawful := by
  unfold State.flapMessage
  split
  · exact h.onMessage p fun u hu => hu.untouched (hr := State.roles_modPort fun _ => rfl)
  · refine h.roleMessage p .switch fun u hu => ?_
    split
    · exact hf u hu
    · exact hu

/-! ### Run Control -/

theorem State.PairingLawful.enterHalt {s : State} (h : s.PairingLawful) : s.enterHalt.PairingLawful := by
  have h1 : (s.disarmAll.zeroFine.notify .silence).PairingLawful :=
    h.unclaimed (hc := State.claims_of_slots (by simp))
      (hv := (State.reservations_of_cars (s := s.disarmAll.zeroFine) (by simp)).trans (by simp))
  unfold State.enterHalt
  dsimp only
  generalize s.disarmAll.zeroFine.notify .silence = u at h1
  have h2 : State.PairingLawful { u with part := .halt, silenceDue := none, ownCycleDue := some (s.after 20) } :=
    h1.of_ports rfl rfl rfl rfl ⟨rfl, rfl⟩ ⟨rfl, rfl, rfl⟩ rfl
  exact h2.fallDue ownCycle

/-- The part enters RUN. -/
theorem State.PairingLawful.enterRun {s t : State} (h : s.PairingLawful)
    (ht : t = { s with startupDue := t.startupDue, wakeDue := t.wakeDue }) : t.enterRun.PairingLawful := by
  rw [ht]
  exact h.of_ports rfl rfl rfl rfl ⟨rfl, rfl⟩ ⟨rfl, rfl, rfl⟩ rfl

theorem State.PairingLawful.startUpSettled {s : State} (h : s.PairingLawful) : s.startUpSettled.PairingLawful := by
  unfold State.startUpSettled
  exact h.expire_ite _ _ (h.enterRun rfl)

theorem State.PairingLawful.wakeSettled {s : State} (h : s.PairingLawful) : s.wakeSettled.PairingLawful := by
  unfold State.wakeSettled
  exact h.expire_ite _ _ (h.enterRun rfl)

theorem State.PairingLawful.silenceExpires {s : State} (h : s.PairingLawful) : s.silenceExpires.PairingLawful := by
  unfold State.silenceExpires
  exact h.expire_ite _ _ h.enterHalt

theorem State.PairingLawful.ownCycleExpires {s : State} (h : s.PairingLawful) : s.ownCycleExpires.PairingLawful := by
  have h1 : State.PairingLawful { s with ownCycleDue := s.ownCycleDue.map (· + 20) } :=
    h.of_ports rfl rfl rfl rfl ⟨rfl, rfl⟩ ⟨rfl, rfl, rfl⟩ rfl
  unfold State.ownCycleExpires
  exact h.expire_ite _ _ (h1.fallDue ownCycle)

theorem State.PairingLawful.resetExpires {s : State} (h : s.PairingLawful) (p : PortIx) :
    (s.resetExpires p).PairingLawful := by
  unfold State.resetExpires
  refine h.expire_ite _ _ ?_
  exact h.untouched (hr := State.roles_modPort fun _ => rfl)

theorem State.PairingLawful.flapExpires {s : State} (h : s.PairingLawful) (p : PortIx) :
    (s.flapExpires p).PairingLawful := by
  unfold State.flapExpires
  refine h.expire_ite _ _ ?_
  exact h.untouched

theorem State.PairingLawful.idle {s : State} (h : s.PairingLawful) : s.idle.PairingLawful := by
  unfold State.idle
  split
  · exact h
  · have hr : s.tick.roles = s.roles := funext fun p => by
      unfold State.roles
      rw [State.port_tick]
      rfl
    rw [s.tick_same]
    exact h.of_ports rfl hr rfl rfl ⟨rfl, rfl⟩ ⟨rfl, rfl, rfl⟩ rfl

theorem State.PairingLawful.entryExpires {s : State} (h : s.PairingLawful) (z : ZoneIx) (k : Nat) :
    (s.entryExpires z k).PairingLawful := by
  unfold State.entryExpires
  split
  · exact h
  · exact h.expire _ h.untouched

theorem State.PairingLawful.guardExpires {s : State} (h : s.PairingLawful) (z : ZoneIx) :
    (s.guardExpires z).PairingLawful := by
  unfold State.guardExpires
  split
  · exact h
  · exact h.expire _ (h.of_ports rfl rfl rfl rfl ⟨rfl, rfl⟩ ⟨rfl, rfl, rfl⟩ rfl)

/-- Every effect keeps the pairing laws. -/
theorem effect_pairing (c : Instr) {s : State} (h : s.PairingLawful) : (effect c s).PairingLawful := by
  cases c with
  | cycleFrame race e b => exact h.cycleFrame race e b
  | driveFrame slot t b l p => exact h.driveFrame slot t b l p
  | headFrame code count arg => exact h.arriveOther.beginRequest _
  | dataFrame w => exact h.arrive.dataFrame w
  | fillFrame => exact h.arriveOther.freePosition
  | auxFrame k b => exact h.arriveOther.position _
  | frameError => exact h.frameError
  | kindError => exact h.discardFrame rfl
  | frameBrokenOff => exact h.frameError
  | carAnswerWindowClose address answered => exact h.closeCarAddress address answered
  | assignAnswerWindowClose p answered => exact h.closeAssignWindow p answered
  | railOutputFree => exact h.railFree
  | insertionQueuePlace => exact h.queuePlace
  | hello p k b =>
    show State.PairingLawful (s.onMessage p fun u => u.takeHello p k b)
    refine h.onMessage p fun u hu => ?_
    exact hu.untouched
  | approach p code =>
    refine h.readerMessage p fun u hu => ?_
    split
    · exact hu.of_fields (by simp) (by simp) (State.claims_of_slots (by simp)) (by simp) (by simp) (by simp) (by simp)
    · exact hu
  | guard p code =>
    refine h.readerMessage p fun u hu => ?_
    exact hu.untouched
  | exitCross p code =>
    refine h.readerMessage p fun u hu => ?_
    exact hu.untouched
  | exitStraight p code =>
    refine h.readerMessage p fun u hu => ?_
    exact hu.untouched
  | ready p b =>
    refine h.flapMessage p true fun u hu => ?_
    exact hu.untouched
  | moving p =>
    refine h.flapMessage p false fun u hu => ?_
    exact hu.untouched
  | moduleFault p code =>
    refine h.flapMessage p true fun u hu => ?_
    exact hu.untouched
  | selfThrow p code =>
    refine h.roleMessage p .delegated fun u hu => ?_
    exact hu.of_fields (by simp) (by simp) (State.claims_of_slots (by simp)) (by simp) (by simp) (by simp) (by simp)
  | identity p id =>
    refine h.roleMessage p .bay fun u hu => ?_
    split
    · exact hu.takeIdentity p id
    · exact hu
  | portLineError p => exact h.onMessage p fun u hu => hu.portError p
  | portMessageBrokenOff p => exact h.onMessage p fun u hu => hu.portError p
  | portLineFree p =>
    show State.PairingLawful (s.modPort p fun q => q.lineFree (s.after q.config.flapTimeout))
    exact h.untouched (hr := State.roles_modPort fun q => by simp)
  | flapCommandLeft p =>
    show State.PairingLawful (s.modPort p fun q => q.flapCommandLeft (s.after q.config.flapTimeout))
    exact h.untouched (hr := State.roles_modPort fun q => by simp)
  | startUpSettleExpiry => exact h.startUpSettled
  | wakeSettleExpiry => exact h.wakeSettled
  | silenceDeadlineExpiry => exact h.silenceExpires
  | ownCycleTimerExpiry => exact h.ownCycleExpires
  | resetDeadlineExpiry p => exact h.resetExpires p
  | flapDeadlineExpiry p => exact h.flapExpires p
  | windowDeadlineExpiry p => exact h.windowExpires p
  | showDeadlineExpiry p => exact h.showExpires p
  | entryExpiry z k => exact h.entryExpires z _
  | guardExpiry z => exact h.guardExpires z
  | _ => exact h

/-- Settles O58: the pairing laws hold together, each transition of a session and each move of a sequence or a window keeps them
for the port it is for and leaves the other ports' pairings alone, so every command and the idle step keep them. -/
theorem stepsKeepSessionsAndQueueLawful : Obligations.StepsKeepSessionsAndQueueLawful := by
  unfold Obligations.StepsKeepSessionsAndQueueLawful
  intro s t h hs
  rw [← State.pairingLawful_iff] at hs ⊢
  refine step_keeps (P := State.PairingLawful)
    (fun s l hl => hl.of_ports rfl rfl rfl rfl ⟨rfl, rfl⟩ ⟨rfl, rfl, rfl⟩ rfl) (fun s hi => hi.idle)
    (fun c s t hs h => ?_) h hs
  exact exec_keeps (P := State.PairingLawful) (fun c s _ _ _ hs => effect_pairing c hs)
    (fun s code n arg d1 d2 d3 _ hs => hs.respond code (requestBody_pairing hs n arg d1 d2 d3))
    (fun s cause hs => hs.holdReset cause) (fun s high _ => s.releaseReset_pairingLawful high) hs h

end Sys2Proof.Machine

/-! What the upstream frames give at their positions: free positions, the waiting line and the rail output (R6 to R10, R12 to
R14); O9 and O10. -/

namespace Sys2Proof.Machine

/-- A command that is neither a request nor a reset command has its effect outside a hub reset (R148). -/
theorem exec_of_effect {c : Instr} {s : State} (h : s.resetHeld = false) (hr : requestCode c = none)
    (hc : isResetCommand c = false) : exec c s = .next (effect c s) := by
  rw [exec_eq_effect hr hc, taken_eq_of_free h]

/-- A FILL frame is a free position (R5). -/
theorem exec_fillFrame {s : State} (h : s.resetHeld = false) : exec .fillFrame s = .next s.arriveOther.freePosition :=
  exec_of_effect h rfl rfl

/-- An AUX frame is forwarded at its position (R5). -/
theorem exec_auxFrame {s : State} (h : s.resetHeld = false) (k : Fin 3) (b : Word16) :
    exec (.auxFrame k b) s = .next (s.arriveOther.position (.frame (.aux k b))) :=
  exec_of_effect h rfl rfl

theorem exec_cycleFrame {s : State} (h : s.resetHeld = false) (race : RaceState) (e : Bool) (b : BitVec 13) :
    exec (.cycleFrame race e b) s = .next (s.cycleFrame race e b) :=
  exec_of_effect h rfl rfl

theorem exec_railOutputFree {s : State} (h : s.resetHeld = false) : exec .railOutputFree s = .next s.railFree :=
  exec_of_effect h rfl rfl

/-! ### A position of its own for every frame -/

/-- The first frame not yet sent of the oldest sequence (R9). -/
theorem takeFree_select {q : Sequence} (rest : List Sequence) {k : Fin 4} (h : q.sent = k.val) :
    takeFree (q :: rest) =
      (.frame (.select k (q.identity.extractLsb' (16 * k.val) 16)), { q with sent := q.sent + 1 } :: rest) := by
  have hk : q.sent < 4 := h ▸ k.isLt
  have he : (⟨q.sent, hk⟩ : Fin 4) = k := Fin.ext h
  unfold takeFree
  dsimp only
  rw [dif_pos hk, he, h]

/-- The ASSIGN frame ends the oldest sequence (R14, R17). -/
theorem takeFree_assign {q : Sequence} (rest : List Sequence) (h : q.sent = 4) :
    takeFree (q :: rest) = (⟨.assign q.address, some (.assign q.port)⟩, rest) := by
  have hk : ¬ q.sent < 4 := by omega
  unfold takeFree
  dsimp only
  rw [dif_neg hk]

/-- A FILL frame while each position gives one frame: what the insertion queue gives leaves (R6, R9). -/
theorem exec_fillFrame_of_unshared {s : State} (h : s.resetHeld = false) (ha : s.assembly = none) (hu : s.Unshared)
    {x : LineItem} {left : List Sequence} (hq : takeFree s.insertionQueue = (x, left)) :
    exec .fillFrame s = .next { s with
      rxBits := [], returnWindow := [], insertionQueue := left, railOut := some x.rail, window := x.window
      closing := s.closing ++ s.window.toList } := by
  have hq' : takeFree s.arrive.insertionQueue = (x, left) := hq
  rw [exec_fillFrame h, State.arriveOther_of_none ha, State.freePosition_of_unshared (s := s.arrive) hu, hq']
  rfl

/-- Settles O9: while each position gives one frame, the position of a frame is its leaving, and a free position's frame is what
`takeFree` takes from the queue, one case for each of its equations. -/
theorem freePositionsCarryTheInsertionQueue : Obligations.FreePositionsCarryTheInsertionQueue := by
  unfold Obligations.FreePositionsCarryTheInsertionQueue
  refine ⟨fun x s hu => State.position_of_unshared hu x, fun a step brake lamp s hu => State.position_of_unshared hu _,
    fun s h ha hu => ⟨fun hq => ?_, fun q rest hq k hk => ?_, fun q rest hq hk => ?_, fun k b => ?_⟩⟩
  · have ht : takeFree s.insertionQueue = (.frame .fill, s.insertionQueue) := by rw [hq]; rfl
    exact exec_fillFrame_of_unshared h ha hu ht
  · exact exec_fillFrame_of_unshared h ha hu (hq ▸ takeFree_select rest hk)
  · exact exec_fillFrame_of_unshared h ha hu (hq ▸ takeFree_assign rest hk)
  · rw [exec_auxFrame h, State.arriveOther_of_none ha, State.position_of_unshared (s := s.arrive) hu]
    rfl

/-! ### The shared output -/

/-- An AUX frame while the output is shared falls due (R10). -/
theorem exec_auxFrame_of_shared {s : State} (h : s.resetHeld = false) (ha : s.assembly = none) (hs : s.Shared) (k : Fin 3)
    (b : Word16) : exec (.auxFrame k b) s = .next (s.arrive.fallDue (.frame (.aux k b))) := by
  rw [exec_auxFrame h, State.arriveOther_of_none ha, State.position_of_shared (s := s.arrive) hs]

/-- Where a position's frame goes depends on the part state and the rail output's fields alone (R6, R10, R11). -/
theorem State.position_output_congr {s t : State} (hp : t.part = s.part) (ho : s.SameOutput t) (x : LineItem) :
    (s.position x).SameOutput (t.position x) := by
  obtain ⟨h1, h2, h3, h4⟩ := ho
  unfold State.position State.fallDue State.sharing
  rw [hp, h1, h4]
  split_ifs <;> simp [State.leave, State.send, h1, h2, h3, h4]

/-- The rail output after a CYCLE frame is that of its position (R8). -/
theorem State.cycleFrame_output (s : State) (race : RaceState) (e : Bool) (b : BitVec 13) :
    (s.position (.frame (.cycle race e b))).SameOutput (s.cycleFrame race e b) ∧
      (s.cycleFrame race e b).insertionQueue = s.insertionQueue := by
  have h1 := State.position_output_congr (s := s) (t := s.arrive.cycleWindow) (by simp) (by simp)
    (.frame (.cycle race e b))
  obtain ⟨k1, k2, k3, k4⟩ := h1
  unfold State.cycleFrame
  exact ⟨⟨by simp [k1], by simp [k2], by simp [k3], by simp [k4]⟩, by simp⟩

/-- Run Control makes RUN of RUN and of HALT at a CYCLE frame (R142, R144). -/
theorem State.cycleRun_part_of_run_or_halt {s : State} (h : s.part = .run ∨ s.part = .halt) : s.cycleRun.part = .run := by
  unfold State.cycleRun
  rcases h with h | h <;> rw [h]
  · exact h
  · rfl

theorem State.cycleFrame_part (s : State) (race : RaceState) (e : Bool) (b : BitVec 13)
    (h : s.part = .run ∨ s.part = .halt) : (s.cycleFrame race e b).part = .run := by
  unfold State.cycleFrame
  exact State.cycleRun_part_of_run_or_halt (by simpa using h)

theorem State.openWindow_ne_nil (s : State) : s.openWindow.returnWindow ≠ [] := by
  unfold State.openWindow
  split
  · exact List.cons_ne_nil _ _
  · exact List.cons_ne_nil _ _

/-- A CYCLE frame opens a return window, whatever it interrupts (R18). -/
theorem State.cycleWindow_ne_nil (s : State) : s.cycleWindow.returnWindow ≠ [] := by
  unfold State.cycleWindow
  split
  · exact s.openWindow_ne_nil
  · dsimp only
    split
    · exact State.openWindow_ne_nil _
    · simpa using State.openWindow_ne_nil _

theorem State.cycleFrame_returnWindow (s : State) (race : RaceState) (e : Bool) (b : BitVec 13) :
    (s.cycleFrame race e b).returnWindow = s.arrive.cycleWindow.returnWindow := by
  unfold State.cycleFrame
  simp

theorem State.shared_run_or_halt {s : State} (h : s.Shared) : s.part = .run ∨ s.part = .halt := by
  rcases h with h | ⟨h, -⟩
  · exact .inr h
  · exact .inl h

/-- Settles O10: on the shared output every position is a frame that falls due, so R10's three cases are those of `fallDue`. -/
theorem sharedOutputKeepsAWaitingLineOfTwo : Obligations.SharedOutputKeepsAWaitingLineOfTwo := by
  unfold Obligations.SharedOutputKeepsAWaitingLineOfTwo
  refine ⟨fun x s hs => ?_, fun f => ?_, fun s h ha hs => ?_, fun race e b s h hs => ?_, fun k b s h ha hs => ?_,
    fun s h => ⟨fun hw => ?_, fun hw hl => ?_, fun x rest hw hl => ?_⟩⟩
  · rw [State.position_of_shared hs]
    exact s.fallDue_fallsDue x
  · cases f <;> rfl
  · refine ⟨_, _, s.arrive.freePosition, takeFree_takes s.insertionQueue, ?_, fun hl => ?_, fun hl => ?_⟩
    · rw [exec_fillFrame h, State.arriveOther_of_none ha]
    · have hl' : s.arrive.waitingLine.length < 2 := hl
      rw [State.freePosition_of_shared (s := s.arrive) hs, if_pos hl']
      exact State.fallDue_fallsDue { s.arrive with insertionQueue := (takeFree s.insertionQueue).2 } _
    · have hl' : ¬ s.arrive.waitingLine.length < 2 := Nat.not_lt.2 hl
      rw [State.freePosition_of_shared (s := s.arrive) hs, if_neg hl']
      rfl
  · obtain ⟨⟨h1, h2, h3, h4⟩, h5⟩ := s.cycleFrame_output race e b
    refine ⟨_, s.position (.frame (.cycle race e b)), exec_cycleFrame h race e b, ?_, h1, h2, h3, h4, h5,
      s.cycleFrame_part race e b (State.shared_run_or_halt hs), ?_⟩
    · rw [State.position_of_shared hs]
      exact s.fallDue_fallsDue _
    · rw [State.cycleFrame_returnWindow]
      exact State.cycleWindow_ne_nil _
  · obtain ⟨h1, h2, h3⟩ := s.arrive.fallDue_fallsDue (.frame (.aux k b))
    rw [exec_auxFrame_of_shared h ha hs]
    exact ⟨fun hr hl => congrArg _ (h1 hr hl), fun hb hl => congrArg _ (h2 hb hl), fun hl => congrArg _ (h3 hl)⟩
  · rw [exec_railOutputFree h, State.railFree, if_pos (Option.isSome_iff_ne_none.2 hw)]
  · rw [exec_railOutputFree h, State.railFree, hw, hl]
    rfl
  · rw [exec_railOutputFree h, State.railFree, hw, hl]
    simp [State.leave, State.send]

end Sys2Proof.Machine

/-! Erroneous frames and the return window (R3, R4, R18, R19, R154); O11 and O13. -/

namespace Sys2Proof.Machine

/-! ### The notice flags -/

/-- The bit of a notice names it. -/
theorem Notice.getElem?_bit (m : Notice) : ([.serviceDue, .requestDropped, .portErrors, .frameErrors, .silence, .pairFailed,
    .pairDone, .zoneConflict, .flapFault, .linkRestored, .linkLost, .linkWarn] : List Notice)[m.bit]? = some m := by
  cases m <;> rfl

theorem Notice.bit_inj {m n : Notice} : m.bit = n.bit ↔ m = n :=
  ⟨fun h => Option.some.inj (m.getElem?_bit.symm.trans (h ▸ n.getElem?_bit)), fun h => h ▸ rfl⟩

theorem Notice.bit_lt (n : Notice) : n.bit < 12 := by cases n <;> decide

/-- A flag that is set is added to those that stand (R168). -/
theorem getLsbD_setFlag (flags : BitVec 12) (n m : Notice) :
    (setFlag flags n).getLsbD m.bit = (flags.getLsbD m.bit || decide (m = n)) := by
  unfold setFlag
  rw [BitVec.getLsbD_or, BitVec.getLsbD_twoPow]
  simp only [n.bit_lt, decide_true, Bool.true_and, Notice.bit_inj, eq_comm]

/-! ### What an interruption and a free position change -/

/-- An interruption concerns the Management Unit alone (R154). -/
theorem State.interrupt_eq (s : State) : s.interrupt = { s with
    assembly := none, replies := s.interrupt.replies, dropped := s.interrupt.dropped, notices := s.interrupt.notices } := by
  cases h : s.assembly with
  | none => rw [State.interrupt_of_none h, ← h]
  | some r =>
    unfold State.interrupt
    rw [h]
    dsimp only
    split <;> rfl

/-- The state with the notice flags and the counts of erroneous frames written (R3). -/
def State.counted (s : State) (n : BitVec 12) (a b : Nat) : State :=
  { s with notices := n, frameErrors := a, kindErrors := b }

/-- The errors counted do not concern an interruption but for the flag that it may add. -/
theorem State.interrupt_counted (s : State) (n : BitVec 12) (a b : Nat) :
    (s.counted n a b).interrupt = s.interrupt.counted (s.counted n a b).interrupt.notices a b := by
  cases h : s.assembly with
  | none =>
    rw [State.interrupt_of_none h, State.interrupt_of_none (s := s.counted n a b) h]
    rfl
  | some r =>
    have h' : (s.counted n a b).assembly = some r := h
    unfold State.interrupt
    rw [h, h']
    dsimp only
    split <;> rename_i hl
    · rw [if_pos (show 4 ≤ s.replies.length from hl)]
      rfl
    · rw [if_neg (show ¬ 4 ≤ s.replies.length from hl)]
      rfl

/-- Of the notices an interruption sets REQUEST_DROPPED alone (R153, R154). -/
theorem State.interrupt_hasNotice (s : State) {m : Notice} (hm : m ≠ .requestDropped) :
    s.interrupt.hasNotice m = s.hasNotice m := by
  cases h : s.assembly with
  | none => rw [State.interrupt_of_none h]
  | some r =>
    unfold State.interrupt State.hasNotice
    rw [h]
    dsimp only
    split
    · show (setFlag s.notices .requestDropped).getLsbD m.bit = _
      rw [getLsbD_setFlag]
      simp [hm]
    · rfl

/-- A free position concerns the insertion queue and the rail output alone (R6, R9, R10). -/
theorem State.freePosition_eq (s : State) : s.freePosition = { s with
    insertionQueue := s.freePosition.insertionQueue, railOut := s.freePosition.railOut, window := s.freePosition.window
    closing := s.freePosition.closing, waitingLine := s.freePosition.waitingLine } := by
  unfold State.freePosition State.position State.fallDue
  split_ifs <;> rfl

/-- The notices and the errors counted do not concern a free position. -/
theorem State.freePosition_counted (s : State) (n : BitVec 12) (a b : Nat) :
    (s.counted n a b).freePosition = s.freePosition.counted n a b := by
  unfold State.freePosition State.position State.fallDue State.lineFull State.sharing State.counted
  dsimp only
  split_ifs <;> rfl

theorem State.Unshared.congr {s t : State} (h : s.Unshared) (hp : t.part = s.part) (hw : t.waitingLine = s.waitingLine) :
    t.Unshared := by
  unfold State.Unshared at h ⊢
  rwa [hp, hw]

/-! ### Erroneous frames -/

/-- A frame once counted is handed to no block: as a FILL frame it interrupts and gives a free position (R4). -/
theorem State.discardFrame_counted (s : State) (n : BitVec 12) (a b : Nat) :
    (s.counted n a b).discardFrame = s.arriveOther.freePosition.counted (s.counted n a b).arriveOther.notices a b := by
  have h := s.arrive.interrupt_counted n a b
  have h2 : (s.counted n a b).arriveOther = (s.arrive.counted n a b).interrupt := rfl
  unfold State.discardFrame
  rw [h2, h, State.freePosition_counted]
  rfl

/-- What becomes of a state in which an erroneous frame is counted (R3, R4). -/
theorem State.discardFrame_same (s : State) : s.discardFrame = { s with
    rxBits := [], returnWindow := [], assembly := none, replies := s.discardFrame.replies
    dropped := s.discardFrame.dropped, notices := s.discardFrame.notices
    insertionQueue := s.discardFrame.insertionQueue, railOut := s.discardFrame.railOut
    window := s.discardFrame.window, closing := s.discardFrame.closing, waitingLine := s.discardFrame.waitingLine } := by
  have h1 := s.arriveOther.freePosition_eq
  have h2 := s.arrive.interrupt_eq
  unfold State.discardFrame
  rw [h1]
  conv_lhs => rw [show s.arriveOther = s.arrive.interrupt from rfl, h2]
  conv_rhs => rw [show s.arriveOther = s.arrive.interrupt from rfl, h2]
  rfl

theorem State.discardFrame_notices (s : State) : s.discardFrame.notices = s.arrive.interrupt.notices := by
  simp [State.discardFrame, State.arriveOther]

/-- The flags after an erroneous frame: FRAME_ERRORS is set, and those but REQUEST_DROPPED stand (R3, R154). -/
theorem State.discardFrame_hasNotice (s : State) (a b : Nat) {m : Notice} (hm : m ≠ .requestDropped) :
    (s.counted (setFlag s.notices .frameErrors) a b).discardFrame.hasNotice m =
      (s.hasNotice m || decide (m = .frameErrors)) := by
  have h := (s.counted (setFlag s.notices .frameErrors) a b).arrive.interrupt_hasNotice hm
  unfold State.hasNotice at h ⊢
  rw [State.discardFrame_notices, h]
  exact getLsbD_setFlag _ _ _

/-- Where each position gives one frame, that of an erroneous frame is not empty, and is FILL's when the queue is empty. -/
theorem State.discardFrame_railOut {s : State} (h : s.Unshared) :
    s.discardFrame.railOut.isSome ∧ (s.insertionQueue = [] → s.discardFrame.railOut = some .fill) := by
  have hq : s.arriveOther.insertionQueue = s.insertionQueue := by simp
  unfold State.discardFrame
  rw [State.freePosition_of_unshared (h.congr (by simp) (by simp)), hq]
  exact ⟨rfl, fun he => by rw [he]; rfl⟩

/-- An erroneous frame with no request under assembly changes neither the replies nor those dropped. -/
theorem State.discardFrame_of_none {s : State} (h : s.assembly = none) :
    s.discardFrame.replies = s.replies ∧ s.discardFrame.dropped = s.dropped ∧ s.discardFrame.notices = s.notices := by
  unfold State.discardFrame
  rw [State.arriveOther_of_none h]
  simp

/-- What each erroneous frame counts (R2, R3). -/
theorem exec_erroneous {c : Instr} {s : State} (h : s.resetHeld = false)
    (hc : (c = .frameError ∨ c = .frameBrokenOff ∨ (∃ (x : BitVec 5) (t : BitVec 6) (b l p : Bool),
      24 ≤ x.toNat ∧ c = .driveFrame x t b l p)) ∨ c = .kindError) :
    exec c s = .next (s.counted (setFlag s.notices .frameErrors) (if c = .kindError then s.frameErrors else raise16 s.frameErrors)
      (if c = .kindError then raise16 s.kindErrors else s.kindErrors)).discardFrame := by
  rcases hc with (rfl | rfl | ⟨x, t, b, l, p, hx, rfl⟩) | rfl
  · exact exec_of_effect h rfl rfl
  · exact exec_of_effect h rfl rfl
  · have hs : slotOf x.toNat = none := by unfold slotOf; rw [dif_neg (by omega)]
    rw [exec_of_effect h rfl rfl]
    show Host.Outcome.next (s.driveFrame x t b l p) = _
    unfold State.driveFrame
    rw [hs]
    rfl
  · exact exec_of_effect h rfl rfl

/-- Settles O11: an erroneous frame is counted and then discarded, and what a discarded frame changes is what an interruption
and a free position change. -/
theorem erroneousFramesAreCountedAndDiscarded : Obligations.ErroneousFramesAreCountedAndDiscarded := by
  unfold Obligations.ErroneousFramesAreCountedAndDiscarded
  intro c s h hc
  obtain ⟨a, ha⟩ : ∃ a, a = if c = .kindError then s.frameErrors else raise16 s.frameErrors := ⟨_, rfl⟩
  obtain ⟨b, hb⟩ : ∃ b, b = if c = .kindError then raise16 s.kindErrors else s.kindErrors := ⟨_, rfl⟩
  have he := exec_erroneous h hc
  rw [← ha, ← hb] at he
  have hs := State.discardFrame_same (s.counted (setFlag s.notices .frameErrors) a b)
  have hn := fun m hm => s.discardFrame_hasNotice a b (m := m) hm
  refine ⟨_, he, ?_, ?_, ?_, ?_, fun n h1 h2 => ?_, ?_, fun hu => ?_, fun hn => ?_⟩
  · rw [hs]; rfl
  · rw [hs]; exact ha
  · rw [hs]; exact hb
  · rw [hn _ (by decide)]; simp
  · rw [hn _ h2]; simp [h1]
  · refine ⟨_, exec_fillFrame h, ?_⟩
    have hf := s.discardFrame_counted (setFlag s.notices .frameErrors) a b
    rw [hf]
    rfl
  · exact State.discardFrame_railOut (hu.congr rfl rfl)
  · obtain ⟨h1, h2, h3⟩ := State.discardFrame_of_none (s := s.counted (setFlag s.notices .frameErrors) a b) hn
    refine ⟨h1, h2, ?_⟩
    unfold State.hasNotice
    rw [h3]
    exact (getLsbD_setFlag _ _ _).trans (by simp)

/-! ### The return window -/

/-- The choice of the Console Port (R18, R19). -/
theorem State.openWindow_of_nil {s : State} (h : s.replies = []) :
    s.openWindow = { s with returnWindow := [.attention s.notices] } := by
  unfold State.openWindow
  rw [h]

theorem State.openWindow_of_cons {s : State} {r : Reply} {rest : List Reply} (h : s.replies = r :: rest) :
    s.openWindow = { s with returnWindow := r.frames, replies := rest } := by
  unfold State.openWindow
  rw [h]

/-- What an interruption makes of the replies (R153, R154). -/
theorem State.interrupt_of_some {s : State} {r : Assembly} (h : s.assembly = some r) :
    (4 ≤ s.replies.length → s.interrupt.replies = s.replies ∧ s.interrupt.dropped = raise16 s.dropped) ∧
    (s.replies.length < 4 → s.interrupt.replies = s.replies ++ [⟨r.code, .malformed, []⟩]) := by
  unfold State.interrupt
  rw [h]
  dsimp only
  refine ⟨fun hl => ?_, fun hl => ?_⟩
  · rw [if_pos hl]
    exact ⟨rfl, rfl⟩
  · rw [if_neg (Nat.not_le.2 hl)]
    rfl

/-- The Management Unit's and the Console Port's fields after a CYCLE frame are those after its window. -/
theorem State.cycleFrame_management (s : State) (race : RaceState) (e : Bool) (b : BitVec 13) :
    s.arrive.cycleWindow.SameManagement (s.cycleFrame race e b) ∧ s.arrive.cycleWindow.SameNotices (s.cycleFrame race e b) := by
  unfold State.cycleFrame
  simp

/-- What the replies and the return window of `t` are after a CYCLE frame that interrupts request `r` in `s`: the four outcomes
of R18, R19 and R154. -/
def State.WindowOpened (s : State) (r : Assembly) (t : State) : Prop :=
  (∃ first rest, 4 ≤ s.replies.length ∧ s.replies = first :: rest ∧ t.replies = rest ∧ t.returnWindow = first.frames ∧
    t.dropped = raise16 s.dropped) ∨
  (∃ first, s.replies.length < 4 ∧ s.replies ++ [⟨r.code, .malformed, []⟩] = first :: t.replies ∧
    t.returnWindow = first.frames) ∨
  (∃ first rest, s.replies = first :: rest ∧ t.replies = rest ++ [⟨r.code, .malformed, []⟩] ∧
    t.returnWindow = first.frames) ∨
  (s.replies = [] ∧ t.replies = [⟨r.code, .malformed, []⟩] ∧ t.returnWindow = [.attention s.notices])

/-- The MALFORMED reply is made, or dropped, before the Console Port chooses. -/
theorem State.interrupt_openWindow {s : State} {r : Assembly} (h : s.assembly = some r) :
    s.WindowOpened r s.interrupt.openWindow := by
  obtain ⟨hfull, hroom⟩ := State.interrupt_of_some h
  by_cases hl : 4 ≤ s.replies.length
  · obtain ⟨hr, hd⟩ := hfull hl
    obtain ⟨first, rest, hc⟩ := List.exists_cons_of_length_pos (l := s.replies) (by omega)
    rw [State.openWindow_of_cons (hr.trans hc)]
    exact .inl ⟨first, rest, hl, hc, rfl, rfl, hd⟩
  · have hr := hroom (Nat.not_le.1 hl)
    obtain ⟨first, rest, hc⟩ := List.exists_cons_of_length_pos (l := s.replies ++ [⟨r.code, .malformed, []⟩]) (by simp)
    rw [State.openWindow_of_cons (hr.trans hc)]
    exact .inr (.inl ⟨first, Nat.not_le.1 hl, hc, rfl⟩)

/-- The Console Port chooses, and then the MALFORMED reply is made, or dropped. -/
theorem State.openWindow_interrupt {s : State} {r : Assembly} (h : s.assembly = some r) :
    s.WindowOpened r s.openWindow.interrupt := by
  have hw : s.openWindow.interrupt.returnWindow = s.openWindow.returnWindow := by simp
  obtain ⟨hfull, hroom⟩ := State.interrupt_of_some (s := s.openWindow) (r := r) (by simpa using h)
  cases hc : s.replies with
  | nil =>
    have ho := State.openWindow_of_nil hc
    rw [ho] at hroom hw
    rw [ho]
    refine .inr (.inr (.inr ⟨hc, ?_, hw⟩))
    rw [hroom (by rw [hc]; decide), hc]
    rfl
  | cons first rest =>
    have ho := State.openWindow_of_cons hc
    rw [ho] at hfull hroom hw
    rw [ho]
    by_cases hl : 4 ≤ rest.length
    · obtain ⟨hr, hd⟩ := hfull hl
      exact .inl ⟨first, rest, by rw [hc, List.length_cons]; omega, hc, hr, hw, hd⟩
    · exact .inr (.inr (.inl ⟨first, rest, hc, hroom (Nat.not_le.1 hl), hw⟩))

/-- The order of the interruption and the choice is free (log entry 16). -/
theorem State.cycleWindow_of_some {s : State} {r : Assembly} (h : s.assembly = some r) :
    s.WindowOpened r s.cycleWindow ∧ s.cycleWindow.assembly = none := by
  unfold State.cycleWindow
  rw [if_neg (by simp [h])]
  dsimp only
  have hf : ∀ t, State.WindowOpened { s with free := s.free + 1 } r t → s.WindowOpened r t := fun t ht => ht
  split
  · exact ⟨hf _ (State.interrupt_openWindow (s := { s with free := s.free + 1 }) h), by simp⟩
  · exact ⟨hf _ (State.openWindow_interrupt (s := { s with free := s.free + 1 }) h), by simp⟩

/-- Settles O13: a CYCLE frame's replies and window are those of `cycleWindow`, one case for each order of its two acts. -/
theorem cycleFrameOpensAReturnWindow : Obligations.CycleFrameOpensAReturnWindow := by
  unfold Obligations.CycleFrameOpensAReturnWindow
  refine ⟨fun race e b s h ha => ⟨_, exec_cycleFrame h race e b, ?_⟩, fun race e b r s h ha =>
    ⟨_, exec_cycleFrame h race e b, ?_⟩⟩
  · obtain ⟨⟨-, hr, -⟩, hn, hlc, hlp⟩ := s.cycleFrame_management race e b
    have hcw : s.arrive.cycleWindow = s.arrive.openWindow := by
      unfold State.cycleWindow
      rw [show s.arrive.assembly = none from ha]
      rfl
    rw [State.cycleFrame_returnWindow, hr, hn, hlc, hlp, hcw]
    refine ⟨by simp, by simp, by simp, fun hl => ?_, fun first rest hl => ?_⟩
    · rw [State.openWindow_of_nil (s := s.arrive) hl]
      exact ⟨rfl, hl⟩
    · rw [State.openWindow_of_cons (s := s.arrive) hl]
      exact ⟨rfl, rfl⟩
  · obtain ⟨⟨has, hr, -, -, hd⟩, -⟩ := s.cycleFrame_management race e b
    obtain ⟨hw, hnone⟩ := State.cycleWindow_of_some (s := s.arrive) ha
    rw [State.cycleFrame_returnWindow, hr, has, hd]
    exact ⟨hnone, hw⟩

end Sys2Proof.Machine

/-! What a request makes of the lines and the rails, and the frames that spell one (R11, R152, R153, R157); O15 and O17. -/

namespace Sys2Proof.Machine

/-! ### Requests, the lines and the rails -/

/-- The queue of commands, the console's line, the request under assembly, the insertion queue and the rail output are the same
in `t` as in `s`. -/
@[simp] abbrev State.KeepsLines (s t : State) : Prop :=
  s.SameQueue t ∧ s.SameConsole t ∧ t.assembly = s.assembly ∧ s.SameInsertion t ∧ s.SameOutput t

@[simp] theorem refuse_state (s : State) (st : Status) : (refuse s st).1 = s := rfl

/-- What a request makes of a state: the lines and the rails stay, but for PORT_ROLE, PAIR_CANCEL, REST and SOFT_RESET. -/
inductive State.Requested (s : State) : State → Prop
  | kept {t} (h : s.KeepsLines t) : s.Requested t
  | role (p : PortIx) (r : Role) (h : s.part ≠ .rest) : s.Requested (s.writeRole p r)
  | cancel (p : PortIx) (x : Session) (hx : s.session p = some x) (ho : x.state.isOpen = true) :
      s.Requested (s.failSession p x .cancelled)
  | rest (h : s.canRest = true) : s.Requested s.enterRest
  | softReset : s.Requested s.softReset

theorem reqStatus_requested (s : State) (b : Bool) : s.Requested (reqStatus b s).1 := by
  cases b <;> exact .kept (by simp [reqStatus])

theorem reqPortRole_requested (s : State) (port : BitVec 8) (role : BitVec 4) :
    s.Requested (reqPortRole port role s).1 := by
  unfold reqPortRole
  split
  · split
    · exact .kept (by simp)
    · rename_i hp
      split
      · exact .kept (by simp)
      · exact .role _ _ hp
  · exact .kept (by simp)

theorem reqPortMask_requested (s : State) (port : BitVec 8) (m : Bool) : s.Requested (reqPortMask port m s).1 := by
  unfold reqPortMask
  split
  · exact .kept (by simp)
  · split <;> exact .kept (by simp)

theorem reqSectionWrite_requested (s : State) (port zone : BitVec 4) (cap hold g f : BitVec 8) (th : Word16) :
    s.Requested (reqSectionWrite port zone cap hold g f th s).1 := by
  unfold reqSectionWrite
  split
  · dsimp only
    split <;> exact .kept (by simp)
  · exact .kept (by simp)

theorem reqSectionRead_requested (s : State) (port : BitVec 8) : s.Requested (reqSectionRead port s).1 := by
  unfold reqSectionRead
  split <;> exact .kept (by simp)

theorem reqSectionCounts_requested (s : State) (port : BitVec 8) (page : BitVec 2) (e : Bool) :
    s.Requested (reqSectionCounts port page e s).1 := by
  unfold reqSectionCounts
  split
  · exact .kept (by simp)
  · split
    · exact .kept (by simp)
    · cases e <;> exact .kept (by simp)

theorem reqSectionClear_requested (s : State) (port : BitVec 8) : s.Requested (reqSectionClear port s).1 := by
  unfold reqSectionClear
  split
  · exact .kept (by simp)
  · split
    · exact .kept (by simp)
    · split <;> exact .kept (by simp)

theorem reqZoneWrite_requested (s : State) (zone capacity : BitVec 8) : s.Requested (reqZoneWrite zone capacity s).1 := by
  unfold reqZoneWrite
  split <;> exact .kept (by simp)

theorem reqZoneRead_requested (s : State) (zone : BitVec 8) (page : BitVec 2) : s.Requested (reqZoneRead zone page s).1 := by
  unfold reqZoneRead
  split
  · exact .kept (by simp)
  · split <;> exact .kept (by simp)

theorem reqCurveWrite_requested (s : State) (curve point : BitVec 4) (v : BitVec 8) :
    s.Requested (reqCurveWrite curve point v s).1 := by
  unfold reqCurveWrite
  split <;> exact .kept (by simp [State.writePoint])

theorem reqCurveRead_requested (s : State) (curve half : BitVec 4) : s.Requested (reqCurveRead curve half s).1 := by
  unfold reqCurveRead
  split
  · exact .kept (by simp)
  · split <;> exact .kept (by simp)

theorem reqCarWrite_requested (s : State) (addr limit : BitVec 8) (curve : BitVec 4) (up down : BitVec 8) :
    s.Requested (reqCarWrite addr limit curve up down s).1 := by
  unfold reqCarWrite
  split <;> exact .kept (by simp)

theorem reqCarRead_requested (s : State) (addr : BitVec 8) : s.Requested (reqCarRead addr s).1 := by
  unfold reqCarRead
  split <;> exact .kept (by simp)

theorem reqCarIdentity_requested (s : State) (addr : BitVec 8) : s.Requested (reqCarIdentity addr s).1 := by
  unfold reqCarIdentity
  split
  · exact .kept (by simp)
  · split <;> exact .kept (by simp)

theorem reqBind_requested (s : State) (slot addr : BitVec 8) : s.Requested (reqBind slot addr s).1 := by
  unfold reqBind
  split
  · split <;> exact .kept (by simp)
  · exact .kept (by simp)

theorem reqUnbind_requested (s : State) (slot : BitVec 8) : s.Requested (reqUnbind slot s).1 := by
  unfold reqUnbind
  split
  · exact .kept (by simp)
  · split <;> exact .kept (by simp)

theorem reqForget_requested (s : State) (addr : BitVec 8) : s.Requested (reqForget addr s).1 := by
  unfold reqForget
  split
  · exact .kept (by simp)
  · split <;> exact .kept (by simp)

theorem reqPairOpen_requested (s : State) (port slot window : BitVec 8) : s.Requested (reqPairOpen port slot window s).1 := by
  unfold reqPairOpen
  split
  · split
    · exact .kept (by simp)
    · split
      · exact .kept (by simp)
      · split
        · exact .kept (by simp)
        · split <;> exact .kept (by simp)
  · exact .kept (by simp)

theorem reqPairCancel_requested (s : State) (port : BitVec 8) : s.Requested (reqPairCancel port s).1 := by
  unfold reqPairCancel
  split
  · exact .kept (by simp)
  · split
    · exact .kept (by simp)
    · rename_i x hx
      split
      · rename_i ho
        exact .cancel _ x (State.session_of_baySession hx) ho
      · exact .kept (by simp)

theorem reqPairRead_requested (s : State) (port : BitVec 8) (page : BitVec 2) : s.Requested (reqPairRead port page s).1 := by
  have h : s.Requested s := .kept (by simp)
  unfold reqPairRead
  split
  · exact h
  · split
    · exact h
    · split
      · exact h
      · split
        · exact h
        · split <;> exact h

theorem reqRevive_requested (s : State) (addr : BitVec 8) : s.Requested (reqRevive addr s).1 := by
  unfold reqRevive
  split <;> exact .kept (by simp)

theorem reqMode_requested (s : State) (w v on : Bool) (bay : BitVec 8) : s.Requested (reqMode w v on bay s).1 := by
  unfold reqMode
  split
  · exact .kept (by simp)
  · split <;> exact .kept (by simp)

theorem reqRest_requested (s : State) : s.Requested (reqRest s).1 := by
  unfold reqRest
  split
  · rename_i hr
    exact .rest hr
  · exact .kept (by simp)

theorem reqWake_requested (s : State) : s.Requested (reqWake s).1 := by
  unfold reqWake
  dsimp only
  split <;> exact .kept (by simp)

/-- Every request (R157). -/
theorem requestBody_requested (s : State) (code : Nat) (arg : BitVec 8) (d1 d2 d3 : Word16) :
    s.Requested (requestBody code arg d1 d2 d3 s).1 := by
  unfold requestBody
  split
  · exact .kept (by simp [reqIdent])
  · exact reqStatus_requested s _
  · exact .kept (by simp [reqNotices])
  · exact .kept (by simp [reqCause])
  · exact reqPortRole_requested s _ _
  · exact reqPortMask_requested s _ _
  · exact reqSectionWrite_requested s _ _ _ _ _ _ _
  · exact reqSectionRead_requested s _
  · exact reqSectionCounts_requested s _ _ _
  · exact reqSectionClear_requested s _
  · exact reqZoneWrite_requested s _ _
  · exact reqZoneRead_requested s _ _
  · exact reqCurveWrite_requested s _ _ _
  · exact reqCurveRead_requested s _ _
  · exact reqCarWrite_requested s _ _ _ _ _
  · exact reqCarRead_requested s _
  · exact reqCarIdentity_requested s _
  · exact reqBind_requested s _ _
  · exact reqUnbind_requested s _
  · exact reqForget_requested s _
  · exact reqPairOpen_requested s _ _ _
  · exact reqPairCancel_requested s _
  · exact reqPairRead_requested s _ _
  · exact reqRevive_requested s _
  · exact .kept (by simp [reqLimits])
  · exact reqMode_requested s _ _ _ _
  · exact reqRest_requested s
  · exact reqWake_requested s
  · exact .softReset
  · exact .kept (by simp)

/-! ### The line after a request -/

theorem State.softReset_line (s : State) :
    (s.softReset.resetHeld = s.resetHeld ∧ s.softReset.rxBits = s.rxBits ∧ s.softReset.returnWindow = s.returnWindow) ∧
    s.softReset.assembly = none := by
  simp only [State.softReset, State.softResetTables, and_self]

theorem State.softReset_rails (s : State) :
    s.softReset.railOut = s.railOut ∧ s.softReset.waitingLine = [] ∧ s.softReset.insertionQueue = [] ∧
      s.softReset.window = s.window.map AnswerWindow.cut ∧ s.softReset.closing = s.closing.map AnswerWindow.cut ∧
      s.softReset.part = .startup := by
  simp only [State.softReset, State.softResetTables, and_self]

/-- The line of the console and the request under assembly after a request. -/
theorem State.Requested.line {s t : State} (h : s.Requested t) :
    t.resetHeld = s.resetHeld ∧ s.SameConsole t ∧ (s.assembly = none → t.assembly = none) := by
  cases h with
  | kept h =>
    obtain ⟨⟨-, -, hh⟩, hc, ha, -⟩ := h
    exact ⟨hh, hc, fun h0 => ha.trans h0⟩
  | role p r _ => simp
  | cancel p x _ _ => simp
  | rest _ => simp
  | softReset =>
    obtain ⟨⟨h1, h2, h3⟩, h4⟩ := s.softReset_line
    exact ⟨h1, ⟨h2, h3⟩, fun _ => h4⟩

theorem State.complete_line (s : State) (r : Assembly) :
    (s.complete r).resetHeld = s.resetHeld ∧ s.SameConsole (s.complete r) ∧
      (s.assembly = none → (s.complete r).assembly = none) := by
  unfold State.complete State.respond
  split
  · simp
  · split
    · simp
    · split
      · simp
      · simpa [Assembly.body] using (requestBody_requested s r.code.toNat r.arg _ _ _).line

/-! ### The frames that spell a request -/

/-- A request's code fixes the count of its data words (R157). -/
theorem requestCount_of_framed {code : BitVec 6} {arg : BitVec 8} {d1 d2 d3 : Word16} {c : Instr}
    (h : framedRequest code arg d1 d2 d3 = some c) : requestCount code.toNat = some (requestDataCount c) := by
  unfold framedRequest at h
  split at h
  case h_30 => cases h
  all_goals
    rename_i hn
    rw [hn]
    cases h
    rfl

/-- A request of the right count that its frames complete runs as its own row does (R153, R157). -/
theorem exec_of_complete {r : Assembly} {c : Instr} {s : State} (h : s.resetHeld = false)
    (hf : framedRequest r.code r.arg (r.words.getD 0 0) (r.words.getD 1 0) (r.words.getD 2 0) = some c)
    (hn : r.count.toNat = requestDataCount c) : exec c s = .next (s.complete r) := by
  rw [exec_of_framed hf, taken_eq_of_free h]
  unfold State.complete State.respond
  split
  · rfl
  · rw [requestCount_of_framed hf]
    dsimp only
    rw [if_neg (not_not.2 hn)]
    rfl

theorem State.arrive_of_none {s : State} (h : s.assembly = none) :
    s.arrive = { s with rxBits := [], returnWindow := [], assembly := none } := by
  rw [State.arrive, ← h]

/-- The frame that completes a request completes it at its position (R152). -/
theorem exec_completing {frame : Instr} {r : Assembly} {s : State} (h : s.resetHeld = false)
    (hc : (frame = .headFrame r.code 0 r.arg ∧ s.assembly = none ∧ r.words = []) ∨
      (∃ w words, frame = .dataFrame w ∧ s.assembly = some { r with words := words } ∧ r.words = words ++ [w] ∧
        r.words.length = r.count.toNat)) :
    ∃ r' : Assembly, r'.code = r.code ∧ r'.arg = r.arg ∧ r'.words = r.words ∧ r'.count.toNat = r.words.length ∧
      exec frame s = .next (State.completeAtPosition { s with
        rxBits := [], returnWindow := [], assembly := none } r') := by
  rcases hc with ⟨rfl, ha, hw⟩ | ⟨w, words, rfl, ha, hw, hl⟩
  · refine ⟨⟨r.code, 0, r.arg, []⟩, rfl, rfl, hw.symm, by rw [hw]; rfl, ?_⟩
    rw [exec_of_effect h rfl rfl]
    show Host.Outcome.next (s.arriveOther.beginRequest _) = _
    rw [State.arriveOther_of_none ha, State.arrive_of_none ha]
    rfl
  · refine ⟨r, rfl, rfl, rfl, hl.symm, ?_⟩
    rw [exec_of_effect h rfl rfl]
    show Host.Outcome.next (s.arrive.dataFrame w) = _
    have hl' : (words ++ [w]).length = r.count.toNat := hw ▸ hl
    unfold State.dataFrame
    rw [show s.arrive.assembly = some { r with words := words } from ha]
    dsimp only
    rw [if_pos hl', ← hw]
    rfl

/-- A FILL frame where no request is under assembly and the console's line is at rest is the free position alone. -/
theorem exec_fillFrame_of_idle {s : State} (h : s.resetHeld = false) (ha : s.assembly = none) (hb : s.rxBits = [])
    (hw : s.returnWindow = []) : exec .fillFrame s = .next s.freePosition := by
  have hs : s.arrive = s := by rw [State.arrive, ← hb, ← hw]
  rw [exec_fillFrame h, State.arriveOther_of_none ha, hs]

/-- Settles O17: the completing frame completes the request at its position, and both the request's row and the FILL frame are
found in that position, in the one order or the other. -/
theorem framesRunTheRequestTheySpell : Obligations.FramesRunTheRequestTheySpell := by
  unfold Obligations.FramesRunTheRequestTheySpell
  intro c frame r s h hc hf hn
  obtain ⟨r', hcode, harg, hwords, hcount, he⟩ := exec_completing h hc
  rw [← hcode, ← harg, ← hwords] at hf
  have hn' : r'.count.toNat = requestDataCount c := hcount.trans hn
  have hrun : ∀ u : State, u.resetHeld = false → exec c u = .next (u.complete r') := fun u hu => exec_of_complete hu hf hn'
  have hfill : ∀ u : State, u.resetHeld = false → u.assembly = none →
      exec .fillFrame u = .next u.arrive.freePosition := fun u hu ha => by
    rw [exec_fillFrame hu, State.arriveOther_of_none ha]
  rw [he]
  refine ⟨fun hq => ⟨_, hfill _ h rfl, ?_⟩, fun hq => ?_⟩
  · rw [hrun _ (by simpa using h)]
    unfold State.completeAtPosition
    rw [hq]
    rfl
  · obtain ⟨v, hv⟩ : ∃ v : State, v = { s with
      assembly := none, free := s.free + 1, rxBits := [], returnWindow := [] } := ⟨_, rfl⟩
    have hvh : v.resetHeld = false := by rw [hv]; exact h
    have hcp : State.completeAtPosition { s with rxBits := [], returnWindow := [], assembly := none } r' =
        if Config.requestBeforePosition s.free then (v.complete r').freePosition else v.freePosition.complete r' := by
      rw [hv]
      unfold State.completeAtPosition
      rw [if_neg (by simpa using hq)]
    rw [hcp]
    split
    · right
      obtain ⟨h1, ⟨h2, h3⟩, h4⟩ := v.complete_line r'
      refine ⟨v.complete r', ?_, ?_⟩
      · rw [← hv]; exact hrun v hvh
      · rw [exec_fillFrame_of_idle (h1.trans hvh) (h4 (by rw [hv])) (by rw [h2, hv]) (by rw [h3, hv])]
    · left
      refine ⟨v.freePosition, ?_, ?_⟩
      · rw [hfill { s with assembly := none, free := s.free + 1 } h rfl, hv]
        rfl
      · exact (hrun _ (by simpa using hvh)).symm

/-! ### The part at rest -/

/-- What a request makes of the rails of a part at rest, whose sessions are closed: nothing but a SOFT_RESET's marks (R11, R145;
log entry 14). -/
theorem State.Requested.rest_rails {s t : State} (h : s.Requested t) (hp : s.part = .rest)
    (hc : ∀ p x, s.session p = some x → x.state = .closed) (hw : s.waitingLine = []) (hq : s.insertionQueue = []) :
    t.railOut = s.railOut ∧ t.waitingLine = [] ∧ t.insertionQueue = [] ∧
      ((t.window = s.window ∧ t.closing = s.closing) ∨
        (t.window = s.window.map AnswerWindow.cut ∧ t.closing = s.closing.map AnswerWindow.cut ∧ t.part = .startup)) := by
  cases h with
  | kept h =>
    obtain ⟨-, -, -, ⟨h1, -⟩, h2, h3, h4, h5⟩ := h
    exact ⟨h2, h5.trans hw, h1.trans hq, .inl ⟨h3, h4⟩⟩
  | role p r h => exact absurd hp h
  | cancel p x hx ho =>
    rw [hc p x hx] at ho
    cases ho
  | rest h =>
    simp [State.canRest, hp] at h
  | softReset =>
    obtain ⟨h1, h2, h3, h4, h5, h6⟩ := s.softReset_rails
    exact ⟨h1, h2, h3, .inr ⟨h4, h5, h6⟩⟩

/-- A request completed at rest sends nothing. -/
theorem State.completeAtPosition_rest {s : State} (r : Assembly) (hp : s.part = .rest)
    (hc : ∀ p x, s.session p = some x → x.state = .closed) (hw : s.waitingLine = []) (hq : s.insertionQueue = []) :
    (s.completeAtPosition r).railOut = s.railOut ∧ (s.completeAtPosition r).waitingLine = [] ∧
      (s.completeAtPosition r).insertionQueue = [] ∧
      (((s.completeAtPosition r).window = s.window ∧ (s.completeAtPosition r).closing = s.closing) ∨
        ((s.completeAtPosition r).window = s.window.map AnswerWindow.cut ∧
          (s.completeAtPosition r).closing = s.closing.map AnswerWindow.cut ∧
          (s.completeAtPosition r).part = .startup)) := by
  have hcp : s.completeAtPosition r = s.complete r := by
    unfold State.completeAtPosition
    rw [if_pos (by rw [hq]; rfl), State.freePosition_of_rest hp]
  have h := (requestBody_requested s r.code.toNat r.arg (r.words.getD 0 0) (r.words.getD 1 0)
    (r.words.getD 2 0)).rest_rails hp hc hw hq
  rw [hcp]
  unfold State.complete State.respond
  split
  · simp [hw, hq]
  · split
    · simp [hw, hq]
    · split
      · simp [hw, hq]
      · simpa [Assembly.body] using h

/-- The rails, the slot records and the cars are the same in `t` as in `s`, and so is the part state. -/
def State.SameRails (s t : State) : Prop :=
  s.SameOutput t ∧ t.insertionQueue = s.insertionQueue ∧ t.slots = s.slots ∧ t.cars = s.cars ∧ t.part = s.part

theorem State.arriveOther_sameRails (s : State) : s.SameRails s.arriveOther := by simp [State.SameRails]

/-- At rest an erroneous frame sends nothing (R4, R11). -/
theorem State.discardFrame_sameRails {s : State} (hp : s.part = .rest) : s.SameRails s.discardFrame := by
  have ha := s.arriveOther_sameRails
  unfold State.discardFrame
  rwa [State.freePosition_of_rest]
  obtain ⟨-, -, -, -, h⟩ := ha
  exact h.trans hp

/-- At rest an upstream frame that is no CYCLE frame and completes no request sends nothing and reaches no car (R11). -/
theorem exec_frame_of_rest {c : Instr} {s : State} (h : s.resetHeld = false) (hp : s.part = .rest)
    (hc : c = .fillFrame ∨ (∃ k b, c = .auxFrame k b) ∨ (∃ x t b l p, c = .driveFrame x t b l p) ∨ c = .frameError ∨
      c = .kindError ∨ c = .frameBrokenOff ∨ (∃ code count arg, c = .headFrame code count arg ∧ count ≠ 0) ∨
      (∃ w, c = .dataFrame w ∧ s.assembly = none)) : ∃ t, exec c s = .next t ∧ s.SameRails t := by
  have ha := s.arriveOther_sameRails
  have hpa : s.arriveOther.part = .rest := by
    obtain ⟨-, -, -, -, h⟩ := ha
    exact h.trans hp
  have hfe : s.SameRails s.frameError := State.discardFrame_sameRails
    (s := s.counted (setFlag s.notices .frameErrors) (raise16 s.frameErrors) s.kindErrors) hp
  rcases hc with rfl | ⟨k, b, rfl⟩ | ⟨x, t, b, l, p, rfl⟩ | rfl | rfl | rfl | ⟨code, count, arg, rfl, hn⟩ | ⟨w, rfl, hn⟩
  · refine ⟨_, exec_fillFrame h, ?_⟩
    rwa [State.freePosition_of_rest hpa]
  · refine ⟨_, exec_auxFrame h k b, ?_⟩
    rwa [State.position_of_rest hpa]
  · refine ⟨s.driveFrame x t b l p, exec_of_effect h rfl rfl, ?_⟩
    unfold State.driveFrame
    split
    · exact hfe
    · rwa [if_pos hp]
  · exact ⟨s.frameError, exec_of_effect h rfl rfl, hfe⟩
  · exact ⟨s.kindError, exec_of_effect h rfl rfl, State.discardFrame_sameRails
      (s := s.counted (setFlag s.notices .frameErrors) s.frameErrors (raise16 s.kindErrors)) hp⟩
  · exact ⟨s.frameError, exec_of_effect h rfl rfl, hfe⟩
  · refine ⟨s.arriveOther.beginRequest ⟨code, count, arg, []⟩, exec_of_effect h rfl rfl, ?_⟩
    unfold State.beginRequest
    rw [if_neg hn, State.freePosition_of_rest (s := { s.arriveOther with assembly := some ⟨code, count, arg, []⟩ }) hpa]
    exact ha
  · refine ⟨s.arrive.dataFrame w, exec_of_effect h rfl rfl, ?_⟩
    unfold State.dataFrame
    rw [show s.arrive.assembly = none from hn]
    dsimp only
    rw [State.freePosition_of_rest (s := s.arrive) hp]
    exact ⟨⟨rfl, rfl, rfl, rfl⟩, rfl, rfl, rfl, rfl⟩

/-- A CYCLE frame leaves every fine speed (R140). -/
theorem State.cycleFrame_fine (s : State) (race : RaceState) (e : Bool) (b : BitVec 13) (a : CarIx) :
    ((s.cycleFrame race e b).car a).fine = (s.car a).fine := by
  have hw : ∀ u : State, ((u.writeRace race e).car a).fine = (u.car a).fine := fun u => by
    unfold State.writeRace
    dsimp only
    split
    · rfl
    · simp [State.disarmAll]
  have hr : ∀ u : State, (u.cycleRun.car a).fine = (u.car a).fine := fun u => by simp
  unfold State.cycleFrame
  rw [hr, hw]
  simp

/-- Settles O15: at rest a position sends nothing, so a frame changes the rails only by the request it completes; which leaves
them too, or is a SOFT_RESET. -/
theorem restSendsNothingToTheRails : Obligations.RestSendsNothingToTheRails := by
  unfold Obligations.RestSendsNothingToTheRails
  refine ⟨fun c s h hp hq hl hc => ?_, fun c s h hp hq hc => ?_⟩
  · obtain ⟨-, hcl, hwl⟩ := hl.1 hp
    rcases hc with ⟨code, count, arg, rfl⟩ | ⟨w, rfl⟩
    · have k := State.completeAtPosition_rest (s := s.arriveOther) ⟨code, count, arg, []⟩ (by simpa using hp)
        (by simpa using hcl) (by simpa using hwl) (by simpa using hq)
      by_cases hn : count = 0
      · refine ⟨s.arriveOther.completeAtPosition ⟨code, count, arg, []⟩, ?_, by simpa using k⟩
        rw [exec_of_effect h rfl rfl]
        show Host.Outcome.next (s.arriveOther.beginRequest _) = _
        unfold State.beginRequest
        rw [if_pos hn]
      · obtain ⟨t, ht, ⟨h1, h2, h3, h4⟩, h5, -⟩ := exec_frame_of_rest h hp
          (c := .headFrame code count arg) (by simpa using hn)
        exact ⟨t, ht, h1, h4.trans hwl, h5.trans hq, .inl ⟨h2, h3⟩⟩
    · cases ha : s.assembly with
      | none =>
        obtain ⟨t, ht, ⟨h1, h2, h3, h4⟩, h5, -⟩ := exec_frame_of_rest h hp (c := .dataFrame w) (by simp [ha])
        exact ⟨t, ht, h1, h4.trans hwl, h5.trans hq, .inl ⟨h2, h3⟩⟩
      | some r =>
        refine ⟨s.arrive.dataFrame w, exec_of_effect h rfl rfl, ?_⟩
        unfold State.dataFrame
        rw [show s.arrive.assembly = some r from ha]
        dsimp only
        split
        · exact State.completeAtPosition_rest (s := { s.arrive with assembly := none }) _ hp hcl hwl hq
        · rw [State.freePosition_of_rest
            (s := { s.arrive with assembly := some { r with words := r.words ++ [w] } }) hp]
          exact ⟨rfl, hwl, hq, .inl ⟨rfl, rfl⟩⟩
  · have hf : (∃ r e b, c = .cycleFrame r e b) ∨ ∃ t, exec c s = .next t ∧ s.SameRails t := by
      rcases hc with hc | hc | hc | hc | hc | hc | hc | hc | hc
      case inr.inr.inr.inr.inr.inr.inr.inr => exact .inl hc
      all_goals exact .inr (exec_frame_of_rest h hp (by simp only [hc, true_or, or_true]))
    rcases hf with ⟨r, e, b, rfl⟩ | ⟨t, ht, ⟨h1, h2, h3, h4⟩, h5, h6, h7, -⟩
    · obtain ⟨⟨h1, h2, h3, h4⟩, h5⟩ := s.cycleFrame_output r e b
      have hpo := State.position_of_rest hp (.frame (.cycle r e b))
      rw [hpo] at h1 h2 h3 h4
      refine ⟨_, exec_cycleFrame h r e b, h1, h2, h3, h4, h5.trans hq, ?_, fun a => ⟨s.cycleFrame_fine r e b a, ?_⟩⟩
      · unfold State.cycleFrame
        simp
      · exact fun hne => absurd rfl (hne r e b)
    · refine ⟨t, ht, h1, h2, h3, h4, h5.trans hq, h6, fun a => ?_⟩
      unfold State.car
      rw [h7]
      exact ⟨rfl, fun _ => rfl⟩

end Sys2Proof.Machine

/-! The port lines and the messages that no port takes (R20, R21, R93, R94, R102, R111); O42 and O43. -/

namespace Sys2Proof.Machine

/-! ### The order of a line -/

@[simp] theorem HubMsg.isFlap_iff (m : HubMsg) : m.isFlap = true ↔ m = .throw ∨ m = .straight := by
  cases m <;> simp [HubMsg.isFlap]

/-- The flap commands and the motions they put a port into (R101, R104). -/
theorem commandOf_iff (m : HubMsg) (st : PortState) :
    commandOf m st = true ↔ (m = .throw ∧ st = .throwing) ∨ (m = .straight ∧ st = .returning) := by
  cases m <;> simp [commandOf]

/-- Whether the newest flap command has left, so that the flap deadline starts (R102, log entry 19). -/
def Port.FlapStarts (q : Port) : Prop :=
  q.flapAwaiting = true ∧ (∀ m ∈ q.waiting, m ≠ .throw ∧ m ≠ .straight) ∧
    ((q.leaving = some .throw ∧ q.state = .throwing) ∨ (q.leaving = some .straight ∧ q.state = .returning))

theorem Port.messageLeft_of_flap {q : Port} (h : q.FlapStarts) (due : Nat) :
    q.messageLeft due = { q with leaving := none, flapDue := some due, flapAwaiting := false } := by
  obtain ⟨ha, hw, hm⟩ := h
  have hwait : q.waiting.any HubMsg.isFlap = false := by
    simpa [not_or] using hw
  unfold Port.messageLeft
  rcases hm with ⟨hl, hs⟩ | ⟨hl, hs⟩ <;> simp [hl, ha, hwait, commandOf_iff, hs]

theorem Port.messageLeft_of_not_flap {q : Port} (h : ¬ q.FlapStarts) (due : Nat) :
    q.messageLeft due = { q with leaving := none } := by
  unfold Port.messageLeft
  split
  · rename_i hl
    rw [← hl]
  · rename_i m hl
    rw [if_neg]
    rintro hk
    simp only [Bool.and_eq_true, Bool.not_eq_true', List.any_eq_false, HubMsg.isFlap_iff, not_or, commandOf_iff] at hk
    obtain ⟨⟨ha, hm⟩, hw⟩ := hk
    refine h ⟨ha, hw, ?_⟩
    rw [hl]
    simpa using hm

/-- Where the line becomes free the next message leaves (R21). -/
theorem Port.lineFree_eq (q : Port) (due : Nat) : q.lineFree due = { q.messageLeft due with
    moduleSending := false, leaving := (q.messageLeft due).waiting.head?, waiting := (q.messageLeft due).waiting.tail } := by
  have hl : (q.messageLeft due).leaving = none := by
    by_cases h : q.FlapStarts
    · rw [Port.messageLeft_of_flap h]
    · rw [Port.messageLeft_of_not_flap h]
  unfold Port.lineFree Port.nextMessage
  dsimp only
  split
  · rename_i hw
    rw [hw, hl]
    rfl
  · rename_i m rest hw
    rw [hw]
    rfl

theorem Port.issue_of_free {q : Port} (m : HubMsg) (h1 : q.leaving = none) (h2 : q.waiting = [])
    (h3 : q.moduleSending = false) : q.issue m = { q with leaving := some m } := by
  simp [Port.issue, h1, h2, h3]

theorem Port.issue_of_busy {q : Port} (m : HubMsg) (h : q.leaving ≠ none ∨ q.waiting ≠ [] ∨ q.moduleSending = true) :
    q.issue m = { q with waiting := q.waiting ++ [m] } := by
  unfold Port.issue
  rw [if_neg]
  rcases h with h | h | h <;> simp [h]

theorem exec_portLineFree {s : State} (h : s.resetHeld = false) (p : PortIx) : exec (.portLineFree p) s =
    .next { s with ports := s.ports.set p ((s.port p).lineFree (s.now + (s.port p).config.flapTimeout)) } :=
  exec_of_effect h rfl rfl

theorem exec_flapCommandLeft {s : State} (h : s.resetHeld = false) (p : PortIx) : exec (.flapCommandLeft p) s =
    .next { s with ports := s.ports.set p ((s.port p).flapCommandLeft (s.now + (s.port p).config.flapTimeout)) } :=
  exec_of_effect h rfl rfl

/-- Settles O42: what has left decides the flap deadline, what waits first leaves next. -/
theorem linesKeepTheOrderOfIssue : Obligations.LinesKeepTheOrderOfIssue := by
  unfold Obligations.LinesKeepTheOrderOfIssue
  refine ⟨fun q m => ⟨Port.issue_of_free m, Port.issue_of_busy m⟩, fun p s h => ?_⟩
  refine ⟨(s.port p).messageLeft (s.now + (s.port p).config.flapTimeout), _, fun ha hw hm => ?_, fun hn => ?_, fun hl => ?_,
    fun h1 h2 => ?_, exec_portLineFree h p, Port.lineFree_eq _ _⟩
  · exact Port.messageLeft_of_flap ⟨ha, hw, hm⟩ _
  · refine Port.messageLeft_of_not_flap (fun hf => ?_) _
    obtain ⟨ha, hw, hm⟩ := hf
    rcases hn with hn | ⟨m, hm', hn⟩ | hn
    · rw [ha] at hn; cases hn
    · obtain ⟨k1, k2⟩ := hw m hm'
      exact hn.elim k1 k2
    · exact hn hm
  · rw [exec_flapCommandLeft h, Port.flapCommandLeft, if_pos]
    rcases hl with hl | hl <;> rw [hl] <;> rfl
  · rw [exec_flapCommandLeft h, Port.flapCommandLeft, if_neg]
    · show Host.Outcome.next { s with ports := s.ports.set p s.ports[p.val] } = _
      rw [Vector.set_getElem_self]
    · cases hl : (s.port p).leaving with
      | none => simp
      | some m =>
        rw [hl] at h1 h2
        simpa using And.intro h1 h2

/-! ### Messages that no port takes -/

/-- A module message at a port that is OFF is not heard (R94). -/
theorem State.onMessage_of_off {s : State} {p : PortIx} (h : (s.port p).state = .off) (f : State → State) :
    s.onMessage p f = s := by
  unfold State.onMessage
  rw [if_pos h]

/-- Elsewhere it occupies the line no more and is handled (R20, R21). -/
theorem State.onMessage_of_heard {s : State} {p : PortIx} (h : (s.port p).state ≠ .off) (f : State → State) :
    s.onMessage p f = f (s.heard p) := by
  unfold State.onMessage
  rw [if_neg h]
  rfl

theorem State.port_heard (s : State) (p : PortIx) : (s.heard p).port p = { s.port p with moduleSending := false } := by
  simp [State.heard]

/-- A change of the record of a port that has been heard. -/
theorem State.modPort_heard (s : State) (p : PortIx) (f : Port → Port) :
    (s.heard p).modPort p f = { s with ports := s.ports.set p (f { s.port p with moduleSending := false }) } := by
  unfold State.modPort
  rw [State.port_heard]
  simp [State.heard]

/-- The state in which an error is counted at a port that has been heard (R20, R93). -/
theorem State.portError_heard (s : State) (p : PortIx) : (s.heard p).portError p = { s with
    ports := s.ports.set p { s.port p with
      moduleSending := false
      errors := if (s.port p).errors < 255 then (s.port p).errors + 1 else (s.port p).errors }
    notices := setFlag s.notices .portErrors, lastPort := some p } := by
  unfold State.portError
  rw [State.modPort_heard]
  rfl

/-- A message of a port's module: a reader, flap, self-throw or identity message, a HELLO or a line error. -/
inductive PortMessage (p : PortIx) : Instr → Prop
  | hello (k : ModuleKind) (b : Bool) : PortMessage p (.hello p k b)
  | approach (code : BitVec 5) : PortMessage p (.approach p code)
  | guard (code : BitVec 5) : PortMessage p (.guard p code)
  | exitCross (code : BitVec 5) : PortMessage p (.exitCross p code)
  | exitStraight (code : BitVec 5) : PortMessage p (.exitStraight p code)
  | selfThrow (code : BitVec 5) : PortMessage p (.selfThrow p code)
  | ready (b : Bool) : PortMessage p (.ready p b)
  | moving : PortMessage p (.moving p)
  | moduleFault (code : BitVec 8) : PortMessage p (.moduleFault p code)
  | identity (id : Identity) : PortMessage p (.identity p id)
  | lineError : PortMessage p (.portLineError p)
  | brokenOff : PortMessage p (.portMessageBrokenOff p)

/-! The handling of each message of a port's module (R93, R94). -/

theorem effect_hello (p : PortIx) (k : ModuleKind) (b : Bool) (s : State) :
    effect (.hello p k b) s = s.onMessage p fun u => u.takeHello p k b := rfl

theorem effect_approach (p : PortIx) (code : BitVec 5) (s : State) : effect (.approach p code) s =
    s.readerMessage p fun u => if (u.port p).role = .switch then u.approach p code else u := rfl

theorem effect_guard (p : PortIx) (code : BitVec 5) (s : State) :
    effect (.guard p code) s = s.readerMessage p fun u => u.takeGuard p code := rfl

theorem effect_exitCross (p : PortIx) (code : BitVec 5) (s : State) :
    effect (.exitCross p code) s = s.readerMessage p fun u => u.takeExitCross p code := rfl

theorem effect_exitStraight (p : PortIx) (code : BitVec 5) (s : State) :
    effect (.exitStraight p code) s = s.readerMessage p fun u => u.takeExitStraight p code := rfl

theorem effect_selfThrow (p : PortIx) (code : BitVec 5) (s : State) :
    effect (.selfThrow p code) s = s.roleMessage p .delegated fun u => u.takeSelfThrow p code := rfl

theorem effect_ready (p : PortIx) (b : Bool) (s : State) :
    effect (.ready p b) s = s.flapMessage p true fun u => u.takeReady p b := rfl

theorem effect_moving (p : PortIx) (s : State) :
    effect (.moving p) s = s.flapMessage p false fun u => u.takeMoving p := rfl

theorem effect_moduleFault (p : PortIx) (code : BitVec 8) (s : State) :
    effect (.moduleFault p code) s = s.flapMessage p true fun u => u.takeModuleFault p code := rfl

theorem effect_identity (p : PortIx) (id : Identity) (s : State) : effect (.identity p id) s =
    s.roleMessage p .bay fun u => if (u.port p).state = .ready then u.takeIdentity p id else u := rfl

theorem effect_portLineError (p : PortIx) (s : State) :
    effect (.portLineError p) s = s.onMessage p fun u => u.portError p := rfl

theorem effect_portMessageBrokenOff (p : PortIx) (s : State) :
    effect (.portMessageBrokenOff p) s = s.onMessage p fun u => u.portError p := rfl

theorem State.readerMessage_of_off {s : State} {p : PortIx} (h : (s.port p).state = .off) (f : State → State) :
    s.readerMessage p f = s := State.onMessage_of_off h _

theorem State.roleMessage_of_off {s : State} {p : PortIx} (h : (s.port p).state = .off) (r : Role) (f : State → State) :
    s.roleMessage p r f = s := State.onMessage_of_off h _

theorem State.flapMessage_of_off {s : State} {p : PortIx} (h : (s.port p).state = .off) (ends : Bool) (f : State → State) :
    s.flapMessage p ends f = s := by
  unfold State.flapMessage
  split
  · exact State.onMessage_of_off h _
  · exact State.roleMessage_of_off h _ _

/-- An OFF port hears none of them (R94). -/
theorem exec_portMessage_of_off {p : PortIx} {c : Instr} {s : State} (h : s.resetHeld = false) (hc : PortMessage p c)
    (ho : (s.port p).state = .off) : exec c s = .next s := by
  cases hc with
  | hello k b => rw [exec_of_effect h rfl rfl, effect_hello, State.onMessage_of_off ho]
  | approach code => rw [exec_of_effect h rfl rfl, effect_approach, State.readerMessage_of_off ho]
  | guard code => rw [exec_of_effect h rfl rfl, effect_guard, State.readerMessage_of_off ho]
  | exitCross code => rw [exec_of_effect h rfl rfl, effect_exitCross, State.readerMessage_of_off ho]
  | exitStraight code => rw [exec_of_effect h rfl rfl, effect_exitStraight, State.readerMessage_of_off ho]
  | selfThrow code => rw [exec_of_effect h rfl rfl, effect_selfThrow, State.roleMessage_of_off ho]
  | ready b => rw [exec_of_effect h rfl rfl, effect_ready, State.flapMessage_of_off ho]
  | moving => rw [exec_of_effect h rfl rfl, effect_moving, State.flapMessage_of_off ho]
  | moduleFault code => rw [exec_of_effect h rfl rfl, effect_moduleFault, State.flapMessage_of_off ho]
  | identity id => rw [exec_of_effect h rfl rfl, effect_identity, State.roleMessage_of_off ho]
  | lineError => rw [exec_of_effect h rfl rfl, effect_portLineError, State.onMessage_of_off ho]
  | brokenOff => rw [exec_of_effect h rfl rfl, effect_portMessageBrokenOff, State.onMessage_of_off ho]

/-- A reader message at a BAY port is a role error (R93). -/
theorem State.readerMessage_of_bay {s : State} {p : PortIx} (ho : (s.port p).state ≠ .off) (hr : (s.port p).role = .bay)
    (f : State → State) : s.readerMessage p f = (s.heard p).portError p := by
  have hr' : ((s.heard p).port p).role = .bay := by rw [State.port_heard]; exact hr
  unfold State.readerMessage
  rw [State.onMessage_of_heard ho, hr']

/-- A message of one role at a port of another is a role error (R93). -/
theorem State.roleMessage_of_other {s : State} {p : PortIx} {role : Role} (ho : (s.port p).state ≠ .off)
    (hr : (s.port p).role ≠ role) (hu : (s.port p).role ≠ .unused) (f : State → State) :
    s.roleMessage p role f = (s.heard p).portError p := by
  have hr' : ((s.heard p).port p).role ≠ role := by rw [State.port_heard]; exact hr
  have hu' : ((s.heard p).port p).role ≠ .unused := by rw [State.port_heard]; exact hu
  unfold State.roleMessage
  rw [State.onMessage_of_heard ho, if_neg hr', if_neg hu']

/-- A flap message at a port of another role than SWITCH is a role error, unless it is a late one (R93, R95, R111). -/
theorem State.flapMessage_of_other {s : State} {p : PortIx} (ho : (s.port p).state ≠ .off)
    (hr : (s.port p).role = .bay ∨ (s.port p).role = .delegated)
    (hl : (s.port p).state = .resetting → (s.port p).lateMotion = false ∧ (s.port p).roleTaken ≠ some s.now) (ends : Bool)
    (f : State → State) : s.flapMessage p ends f = (s.heard p).portError p := by
  have hi : (s.port p).ignoresLateFlap s.now = false := by
    unfold Port.ignoresLateFlap
    by_cases hs : (s.port p).state = .resetting
    · obtain ⟨h1, h2⟩ := hl hs
      rw [h1, decide_eq_false h2, Bool.or_self, Bool.and_false]
    · rw [decide_eq_false hs, Bool.false_and]
  unfold State.flapMessage
  rw [hi]
  refine State.roleMessage_of_other ho ?_ ?_ _ <;> rcases hr with hr | hr <;> rw [hr] <;> decide

/-- A late flap message in RESETTING is ignored (R95, R111; log entry 36). -/
theorem State.flapMessage_of_late {s : State} {p : PortIx} (hs : (s.port p).state = .resetting)
    (hl : (s.port p).lateMotion = true ∨ (s.port p).roleTaken = some s.now) (ends : Bool) (f : State → State) :
    s.flapMessage p ends f = { s with ports := s.ports.set p { s.port p with
      moduleSending := false, lateMotion := (s.port p).lateMotion && !ends } } := by
  have hi : (s.port p).ignoresLateFlap s.now = true := by
    unfold Port.ignoresLateFlap
    rcases hl with hl | hl <;> simp only [hs, hl, decide_true, Bool.true_or, Bool.or_true, Bool.and_self]
  have ho : (s.port p).state ≠ .off := by rw [hs]; decide
  unfold State.flapMessage
  rw [if_pos hi, State.onMessage_of_heard ho, State.modPort_heard]

/-- An error of the line, or a message at a port of another role (R20, R93), where it is not a late report. -/
def State.ErrorAt (s : State) (p : PortIx) (c : Instr) : Prop :=
  (c = .portLineError p ∨ c = .portMessageBrokenOff p) ∨
    (∃ code, (s.port p).role = .bay ∧ (c = .approach p code ∨ c = .guard p code ∨ c = .exitCross p code ∨
      c = .exitStraight p code)) ∨
    (∃ b code, ((s.port p).role = .bay ∨ (s.port p).role = .delegated) ∧
      ((s.port p).state = .resetting → (s.port p).lateMotion = false ∧ (s.port p).roleTaken ≠ some s.now) ∧
      (c = .ready p b ∨ c = .moving p ∨ c = .moduleFault p code)) ∨
    (∃ code, ((s.port p).role = .switch ∨ (s.port p).role = .bay) ∧ c = .selfThrow p code) ∨
    ∃ id, ((s.port p).role = .switch ∨ (s.port p).role = .delegated) ∧ c = .identity p id

theorem State.ErrorAt.portMessage {s : State} {p : PortIx} {c : Instr} (h : s.ErrorAt p c) : PortMessage p c := by
  rcases h with (rfl | rfl) | ⟨code, -, rfl | rfl | rfl | rfl⟩ | ⟨b, code, -, -, rfl | rfl | rfl⟩ | ⟨code, -, rfl⟩ |
    ⟨id, -, rfl⟩
  exacts [.lineError, .brokenOff, .approach code, .guard code, .exitCross code, .exitStraight code, .ready b, .moving,
    .moduleFault code, .selfThrow code, .identity id]

/-- Such a message raises the port's error count and sets PORT_ERRORS. -/
theorem State.ErrorAt.exec_eq {s : State} {p : PortIx} {c : Instr} (hc : s.ErrorAt p c) (h : s.resetHeld = false)
    (ho : (s.port p).state ≠ .off) : exec c s = .next ((s.heard p).portError p) := by
  rcases hc with (rfl | rfl) | ⟨code, hr, rfl | rfl | rfl | rfl⟩ | ⟨b, code, hr, hl, rfl | rfl | rfl⟩ | ⟨code, hr, rfl⟩ |
    ⟨id, hr, rfl⟩
  · rw [exec_of_effect h rfl rfl, effect_portLineError, State.onMessage_of_heard ho]
  · rw [exec_of_effect h rfl rfl, effect_portMessageBrokenOff, State.onMessage_of_heard ho]
  · rw [exec_of_effect h rfl rfl, effect_approach, State.readerMessage_of_bay ho hr]
  · rw [exec_of_effect h rfl rfl, effect_guard, State.readerMessage_of_bay ho hr]
  · rw [exec_of_effect h rfl rfl, effect_exitCross, State.readerMessage_of_bay ho hr]
  · rw [exec_of_effect h rfl rfl, effect_exitStraight, State.readerMessage_of_bay ho hr]
  · rw [exec_of_effect h rfl rfl, effect_ready, State.flapMessage_of_other ho hr hl]
  · rw [exec_of_effect h rfl rfl, effect_moving, State.flapMessage_of_other ho hr hl]
  · rw [exec_of_effect h rfl rfl, effect_moduleFault, State.flapMessage_of_other ho hr hl]
  · rw [exec_of_effect h rfl rfl, effect_selfThrow, State.roleMessage_of_other ho] <;>
      rcases hr with hr | hr <;> rw [hr] <;> decide
  · rw [exec_of_effect h rfl rfl, effect_identity, State.roleMessage_of_other ho] <;>
      rcases hr with hr | hr <;> rw [hr] <;> decide

/-- Settles O43: each of these messages is the completion of a module message, which an OFF port does not hear; what its handling
then is follows from the role. -/
theorem lineAndRoleErrorsAreCounted : Obligations.LineAndRoleErrorsAreCounted := by
  unfold Obligations.LineAndRoleErrorsAreCounted
  intro p c s h
  refine ⟨fun hc => ⟨fun ho => ?_, fun ho => ?_⟩, fun ho hc => ?_, fun hs hl => ⟨fun hc => ?_, fun hc => ?_⟩,
    fun code hc hr ho => ?_⟩
  · exact exec_portMessage_of_off h (State.ErrorAt.portMessage hc) ho
  · rw [State.ErrorAt.exec_eq hc h ho, State.portError_heard]
  · refine exec_portMessage_of_off h ?_ ho
    rcases hc with ⟨k, b, rfl⟩ | ⟨code, rfl | rfl | rfl | rfl | rfl⟩ | ⟨b, code, rfl | rfl | rfl⟩ | ⟨id, rfl⟩
    exacts [.hello k b, .approach code, .guard code, .exitCross code, .exitStraight code, .selfThrow code, .ready b, .moving,
      .moduleFault code, .identity id]
  · subst hc
    rw [exec_of_effect h rfl rfl, effect_moving, State.flapMessage_of_late hs hl, Bool.not_false, Bool.and_true]
    rfl
  · rcases hc with ⟨b, code, rfl | rfl⟩
    · rw [exec_of_effect h rfl rfl, effect_ready, State.flapMessage_of_late hs hl, Bool.not_true, Bool.and_false]
    · rw [exec_of_effect h rfl rfl, effect_moduleFault, State.flapMessage_of_late hs hl, Bool.not_true, Bool.and_false]
  · subst hc
    have hr' : ((s.heard p).port p).role = .delegated := by rw [State.port_heard]; exact hr
    rw [exec_of_effect h rfl rfl, effect_approach, State.readerMessage, State.onMessage_of_heard ho, hr']
    rfl

end Sys2Proof.Machine

/-! The values of a hard reset (R148), the layouts of the frames (section 1.1, R1, R2) and of the port messages (section 1.7, R20,
R21); O5, O7 and O8. -/

namespace Sys2Proof.Machine

/-! ### The hard reset -/

theorem exec_internalResetRelease (high : Bool) (s : State) :
    exec (.internalResetRelease high) s = .next (s.releaseReset high) := rfl

/-- The release that follows a power-on gives the state right after reset (R149; log entries 5, 6, 8 and 16). -/
theorem releaseReset_powerOn {s : State} (hp : s.pending = []) (hf : s.free = 0) :
    (s.holdReset ⟨true, false, false, false⟩).releaseReset false = State.reset := by
  have h : (s.holdReset ⟨true, false, false, false⟩).releaseReset false =
      { State.hardReset false ⟨true, false, false, false⟩ s.pending with free := s.free } := by
    unfold State.releaseReset State.holdReset
    rfl
  rw [h, hp, hf]
  rfl

theorem State.slot_releaseReset (s : State) (high : Bool) (g : SlotIx) : (s.releaseReset high).slot g = Slot.reset := by
  simp [State.releaseReset, State.hardReset]

theorem State.car_releaseReset (s : State) (high : Bool) (a : CarIx) : (s.releaseReset high).car a = Car.reset := by
  simp [State.releaseReset, State.hardReset]

theorem State.session_releaseReset (s : State) (high : Bool) (p : PortIx) : (s.releaseReset high).session p = none := by
  simp [State.releaseReset, State.hardReset]

theorem State.port_releaseReset (s : State) (high : Bool) (p : PortIx) : (s.releaseReset high).port p = Port.reset p := by
  simp [State.releaseReset, State.hardReset]

theorem State.zone_releaseReset (s : State) (high : Bool) (z : ZoneIx) : (s.releaseReset high).zone z = Zone.reset := by
  simp [State.releaseReset, State.hardReset]

theorem State.curves_releaseReset (s : State) (high : Bool) (c : Fin 4) : (s.releaseReset high).curves[c] = linearCurve := by
  simp [State.releaseReset, State.hardReset]

/-- Settles O5: the release writes the record of the hard reset, whose tables hold the reset records of their blocks. -/
theorem releaseGivesTheHardResetValues : Obligations.ReleaseGivesTheHardResetValues := by
  unfold Obligations.ReleaseGivesTheHardResetValues
  refine ⟨fun s hp hf => ⟨_, rfl, ?_⟩, fun high s => ⟨_, exec_internalResetRelease high s,
    ⟨rfl, rfl, rfl, rfl, rfl, rfl, rfl, rfl, rfl, rfl, rfl, rfl, rfl⟩, ⟨rfl, rfl, rfl, rfl, rfl, rfl, rfl, rfl⟩,
    s.slot_releaseReset high, s.car_releaseReset high, fun c => ?_, rfl, s.session_releaseReset high, rfl, fun p => ?_,
    s.zone_releaseReset high, rfl, rfl, rfl, rfl, rfl, rfl, rfl, rfl, rfl, rfl⟩⟩
  · rw [exec_internalResetRelease, releaseReset_powerOn hp hf]
  · rw [s.curves_releaseReset high c]
    decide
  · rw [s.port_releaseReset high p]
    exact ⟨rfl, rfl, rfl, rfl, rfl, rfl, rfl, rfl, rfl, rfl, rfl, rfl, rfl, rfl, rfl, rfl, rfl, rfl, rfl, rfl, rfl⟩

/-! ### Words and their fields -/

/-- What lies above the low field of a word, read. -/
theorem extract_above {m n : Nat} (x : BitVec m) (y : BitVec n) (i k : Nat) :
    (x ++ y).extractLsb' (n + i) k = x.extractLsb' i k := by
  rw [BitVec.extractLsb'_append_eq_of_le (Nat.le_add_right n i), Nat.add_sub_cancel_left]

/-- A bit above the low field of a word. -/
theorem getLsbD_above {m n : Nat} (x : BitVec m) (y : BitVec n) (i : Nat) : (x ++ y).getLsbD (n + i) = x.getLsbD i := by
  rw [BitVec.getLsbD_append, if_neg (by omega), Nat.add_sub_cancel_left]

/-- A flag as the lowest bit of a word. -/
theorem getLsbD_flag {m : Nat} (x : BitVec m) (b : Bool) : (x ++ BitVec.ofBool b).getLsbD 0 = b := by
  rw [BitVec.getLsbD_append]
  cases b <;> rfl

/-- What lies within the middle field of three, read. -/
theorem extract_middle {l m n : Nat} (x : BitVec l) (y : BitVec m) (z : BitVec n) {i k : Nat} (h : i + k ≤ m) :
    (x ++ y ++ z).extractLsb' (n + i) k = y.extractLsb' i k :=
  (extract_above (x ++ y) z i k).trans (BitVec.extractLsb'_append_eq_of_add_le h)

/-- The highest field of three, read back. -/
theorem extract_highest {l m n : Nat} (x : BitVec l) (y : BitVec m) (z : BitVec n) :
    (x ++ y ++ z).extractLsb' (n + m) l = x :=
  (extract_above (x ++ y) z m l).trans (Laws.RequestSpelling.extract_high x y)

/-- A bit of a word is its field of one bit. -/
theorem ofBool_getLsbD {n : Nat} (w : BitVec n) (i : Nat) : BitVec.ofBool (w.getLsbD i) = w.extractLsb' i 1 := by
  ext j hj
  obtain rfl : j = 0 := by omega
  simp

/-- A word of 24 bits is its kind, its body and its check. -/
theorem frame_split (w : Word24) : (w.extractLsb' 20 4 ++ w.extractLsb' 4 16 ++ w.extractLsb' 0 4 : Word24) = w := by
  have h1 : w.extractLsb' 20 4 ++ w.extractLsb' 4 16 = w.extractLsb' 4 20 :=
    BitVec.extractLsb'_append_extractLsb'_eq_extractLsb' rfl
  have h2 : w.extractLsb' 4 20 ++ w.extractLsb' 0 4 = w.extractLsb' 0 24 :=
    BitVec.extractLsb'_append_extractLsb'_eq_extractLsb' rfl
  rw [h1]
  exact h2.trans BitVec.extractLsb'_eq_self

/-! ### Sound frames -/

/-- The fields of a frame, read back. -/
theorem frame_fields (kind : BitVec 4) (body : Word16) (check : BitVec 4) :
    (kind ++ body ++ check : Word24).extractLsb' 20 4 = kind ∧ (kind ++ body ++ check : Word24).extractLsb' 4 16 = body ∧
    (kind ++ body ++ check : Word24).extractLsb' 0 4 = check ∧ ∀ i, i + 4 ≤ 16 →
      (kind ++ body ++ check : Word24).extractLsb' (4 + i) 4 = body.extractLsb' i 4 :=
  ⟨extract_highest kind body check, (extract_middle (i := 0) (k := 16) kind body check (by decide)).trans
    BitVec.extractLsb'_eq_self, Laws.RequestSpelling.extract_low (kind ++ body) check,
    fun _ h => extract_middle kind body check h⟩

/-- A frame is sound when its check is the one that R1 gives. -/
theorem sound_append (kind : BitVec 4) (body : Word16) (check : BitVec 4) :
    sound (kind ++ body ++ check) = true ↔ check = checkNibble kind body := by
  obtain ⟨hk, -, hc, hn⟩ := frame_fields kind body check
  have h : sound (kind ++ body ++ check) = true ↔ kind + body.extractLsb' 12 4 + body.extractLsb' 8 4 +
      body.extractLsb' 4 4 + body.extractLsb' 0 4 + check = 15#4 := by
    rw [sound, hk, hn 12 (by decide), hn 8 (by decide), hn 4 (by decide), hn 0 (by decide), hc, beq_iff_eq]
  rw [h, checkNibble, BitVec.eq_sub_iff_add_eq, BitVec.add_comm check]
  rfl

theorem sound_frameOf (kind : BitVec 4) (body : Word16) : sound (frameOf kind body) = true :=
  (sound_append kind body _).2 rfl

/-- A sound frame is the frame of its kind and its body. -/
theorem frameOf_of_sound {w : Word24} (h : sound w = true) : frameOf (w.extractLsb' 20 4) (w.extractLsb' 4 16) = w := by
  have h1 := frame_split w
  have h2 : sound (w.extractLsb' 20 4 ++ w.extractLsb' 4 16 ++ w.extractLsb' 0 4) = true := by rw [h1]; exact h
  rw [sound_append] at h2
  unfold frameOf
  rw [← h2]
  exact h1

theorem ReturnFrame.sound_word (f : ReturnFrame) : sound f.word = true := by
  cases f <;> exact sound_frameOf _ _

/-! ### The command of a sound frame -/

/-- The command of a sound frame by its kind and its body (R2). -/
def kindCommand (kind : BitVec 4) (body : Word16) : Instr :=
  if kind = 0 then .fillFrame
  else if kind = 1 then
    .cycleFrame (RaceState.ofBits (body.extractLsb' 14 2)) (body.getLsbD 13) (body.extractLsb' 0 13)
  else if kind = 2 then
    if (body.extractLsb' 11 5).toNat < 24 then
      .driveFrame (body.extractLsb' 11 5) (body.extractLsb' 5 6) (body.getLsbD 4) (body.getLsbD 3) (body.getLsbD 2)
    else .frameError
  else if kind = 3 then .headFrame (body.extractLsb' 10 6) (body.extractLsb' 8 2) (body.extractLsb' 0 8)
  else if kind = 4 then .dataFrame body
  else if kind = 0xC then .auxFrame 0 body
  else if kind = 0xD then .auxFrame 1 body
  else if kind = 0xE then .auxFrame 2 body
  else .kindError

theorem upstreamCommand_of_sound {w : Word24} (h : sound w = true) :
    upstreamCommand w = kindCommand (w.extractLsb' 20 4) (w.extractLsb' 4 16) := by
  unfold upstreamCommand
  rw [h]
  rfl

theorem upstreamCommand_of_unsound {w : Word24} (h : sound w = false) : upstreamCommand w = .frameError := by
  unfold upstreamCommand
  rw [h]
  rfl

theorem upstreamCommand_frameOf (kind : BitVec 4) (body : Word16) :
    upstreamCommand (frameOf kind body) = kindCommand kind body := by
  obtain ⟨hk, hb, -⟩ := frame_fields kind body (checkNibble kind body)
  rw [upstreamCommand_of_sound (sound_frameOf kind body)]
  unfold frameOf
  rw [hk, hb]

/-! ### The layouts of the bodies -/

theorem RaceState.bits_ofBits : ∀ x : BitVec 2, RaceState.bits (RaceState.ofBits x) = x := by decide

theorem RaceState.ofBits_bits (r : RaceState) : RaceState.ofBits (RaceState.bits r) = r := by cases r <;> rfl

/-- The fields of a CYCLE frame's body, read back. -/
theorem cycleBody_fields (r : RaceState) (e : Bool) (b : BitVec 13) :
    (cycleBody r e b).extractLsb' 14 2 = RaceState.bits r ∧ (cycleBody r e b).getLsbD 13 = e ∧
      (cycleBody r e b).extractLsb' 0 13 = b :=
  ⟨extract_highest (RaceState.bits r) (BitVec.ofBool e) b,
    (getLsbD_above (RaceState.bits r ++ BitVec.ofBool e) b 0).trans (getLsbD_flag _ e),
    Laws.RequestSpelling.extract_low (RaceState.bits r ++ BitVec.ofBool e) b⟩

/-- A CYCLE frame's body is the body of its fields. -/
theorem cycleBody_read (body : Word16) :
    cycleBody (RaceState.ofBits (body.extractLsb' 14 2)) (body.getLsbD 13) (body.extractLsb' 0 13) = body := by
  have h1 : body.extractLsb' 14 2 ++ body.extractLsb' 13 1 = body.extractLsb' 13 3 :=
    BitVec.extractLsb'_append_extractLsb'_eq_extractLsb' rfl
  have h2 : body.extractLsb' 13 3 ++ body.extractLsb' 0 13 = body.extractLsb' 0 16 :=
    BitVec.extractLsb'_append_extractLsb'_eq_extractLsb' rfl
  unfold cycleBody
  rw [RaceState.bits_ofBits, ofBool_getLsbD, h1]
  exact h2.trans BitVec.extractLsb'_eq_self

/-- The body of a DRIVE frame (section 1.1). -/
def driveBody (slot : BitVec 5) (throttle : BitVec 6) (brake lane pair : Bool) (spare : BitVec 2) : Word16 :=
  slot ++ throttle ++ BitVec.ofBool brake ++ BitVec.ofBool lane ++ BitVec.ofBool pair ++ spare

/-- The fields of a DRIVE frame's body, read back. -/
theorem driveBody_fields (slot : BitVec 5) (throttle : BitVec 6) (brake lane pair : Bool) (spare : BitVec 2) :
    (driveBody slot throttle brake lane pair spare).extractLsb' 11 5 = slot ∧
      (driveBody slot throttle brake lane pair spare).extractLsb' 5 6 = throttle ∧
      (driveBody slot throttle brake lane pair spare).getLsbD 4 = brake ∧
      (driveBody slot throttle brake lane pair spare).getLsbD 3 = lane ∧
      (driveBody slot throttle brake lane pair spare).getLsbD 2 = pair := by
  have hup : ∀ i k, (driveBody slot throttle brake lane pair spare).extractLsb' (2 + (1 + (1 + (1 + i)))) k =
      (slot ++ throttle).extractLsb' i k := fun i k =>
    (extract_above _ spare _ k).trans <| (extract_above _ (BitVec.ofBool pair) _ k).trans <|
      (extract_above _ (BitVec.ofBool lane) _ k).trans (extract_above _ (BitVec.ofBool brake) i k)
  refine ⟨(hup 6 5).trans (Laws.RequestSpelling.extract_high slot throttle),
    (hup 0 6).trans (Laws.RequestSpelling.extract_low slot throttle), ?_, ?_, ?_⟩
  · exact (getLsbD_above _ spare 2).trans ((getLsbD_above _ (BitVec.ofBool pair) 1).trans
      ((getLsbD_above _ (BitVec.ofBool lane) 0).trans (getLsbD_flag _ brake)))
  · exact (getLsbD_above _ spare 1).trans ((getLsbD_above _ (BitVec.ofBool pair) 0).trans (getLsbD_flag _ lane))
  · exact (getLsbD_above _ spare 0).trans (getLsbD_flag _ pair)

theorem kindCommand_drive (slot : BitVec 5) (throttle : BitVec 6) (brake lane pair : Bool) (spare : BitVec 2) :
    kindCommand 2 (driveBody slot throttle brake lane pair spare) =
      if slot.toNat < 24 then .driveFrame slot throttle brake lane pair else .frameError := by
  obtain ⟨h1, h2, h3, h4, h5⟩ := driveBody_fields slot throttle brake lane pair spare
  have h : ∀ body, kindCommand 2 body = if (body.extractLsb' 11 5).toNat < 24 then
      .driveFrame (body.extractLsb' 11 5) (body.extractLsb' 5 6) (body.getLsbD 4) (body.getLsbD 3) (body.getLsbD 2)
      else .frameError := fun _ => rfl
  rw [h, h1, h2, h3, h4, h5]

theorem kindCommand_cycle (r : RaceState) (e : Bool) (b : BitVec 13) :
    kindCommand 1 (cycleBody r e b) = .cycleFrame r e b := by
  obtain ⟨h1, h2, h3⟩ := cycleBody_fields r e b
  have h : ∀ body, kindCommand 1 body =
      .cycleFrame (RaceState.ofBits (body.extractLsb' 14 2)) (body.getLsbD 13) (body.extractLsb' 0 13) := fun _ => rfl
  rw [h, h1, h2, h3, RaceState.ofBits_bits]

theorem kindCommand_head (code : BitVec 6) (count : BitVec 2) (arg : BitVec 8) :
    kindCommand 3 (code ++ count ++ arg) = .headFrame code count arg := by
  have h1 : (code ++ count ++ arg : Word16).extractLsb' 10 6 = code := extract_highest code count arg
  have h2 : (code ++ count ++ arg : Word16).extractLsb' 8 2 = count :=
    (extract_middle (i := 0) (k := 2) code count arg (by decide)).trans BitVec.extractLsb'_eq_self
  have h3 : (code ++ count ++ arg : Word16).extractLsb' 0 8 = arg :=
    Laws.RequestSpelling.extract_low (code ++ count) arg
  have h : ∀ body : Word16, kindCommand 3 body =
      .headFrame (body.extractLsb' 10 6) (body.extractLsb' 8 2) (body.extractLsb' 0 8) := fun _ => rfl
  rw [h, h1, h2, h3]

theorem kindCommand_aux (k : Fin 3) (body : Word16) : kindCommand (BitVec.ofNat 4 (12 + k.val)) body = .auxFrame k body := by
  fin_cases k <;> rfl

/-- The kinds 0x5 to 0xB and 0xF are no upstream frame's (R2). -/
theorem kindCommand_kindError : ∀ kind : BitVec 4, (5 ≤ kind.toNat ∧ kind.toNat ≤ 11) ∨ kind = 15 →
    kind ≠ 0 ∧ kind ≠ 1 ∧ kind ≠ 2 ∧ kind ≠ 3 ∧ kind ≠ 4 ∧ kind ≠ 0xC ∧ kind ≠ 0xD ∧ kind ≠ 0xE := by decide

/-- Only a CYCLE frame is a CYCLE_FRAME (R2). -/
theorem kindCommand_eq_cycle {kind : BitVec 4} {body : Word16} {r : RaceState} {e : Bool} {b : BitVec 13}
    (h : kindCommand kind body = .cycleFrame r e b) : kind = 1 ∧ cycleBody r e b = body := by
  unfold kindCommand at h
  split_ifs at h with _ h1
  cases h
  exact ⟨h1, cycleBody_read body⟩

/-- Only an AUX frame is an AUX_FRAME (R2). -/
theorem kindCommand_eq_aux {kind : BitVec 4} {body b : Word16} {k : Fin 3} (h : kindCommand kind body = .auxFrame k b) :
    kind = BitVec.ofNat 4 (12 + k.val) ∧ b = body := by
  unfold kindCommand at h
  split_ifs at h with _ _ _ _ _ _ h1 h1 h1
  all_goals
    cases h
    exact ⟨h1, rfl⟩

/-- Settles O7: a sound frame is the frame of its kind and body, and its command is read off these two; one equation for each
kind. -/
theorem framesAreCheckedAndClassified : Obligations.FramesAreCheckedAndClassified := by
  unfold Obligations.FramesAreCheckedAndClassified
  refine ⟨fun kind body => ⟨sound_frameOf kind body, fun check h => ?_⟩, fun w => upstreamCommand_of_unsound,
    fun f => sound_frameOf _ _, fun f => f.sound_word, fun w r e b h => ?_, fun w k b h => ?_, by decide, by decide, rfl,
    fun a step brake lamp _ => rfl, fun a => rfl, fun k b => rfl, fun code status count _ => rfl, rfl, fun w => rfl,
    fun flags => rfl, fun f => rfl, fun kind body h => ?_, fun body => upstreamCommand_frameOf 0 body, fun r e b => ?_,
    fun slot throttle brake lane pair spare => ?_, fun code count arg => ?_, fun w => upstreamCommand_frameOf 4 w,
    fun k b => ?_⟩
  · rw [(sound_append kind body check).1 h]
    rfl
  · cases hs : sound w with
    | false => rw [upstreamCommand_of_unsound hs] at h; cases h
    | true =>
      rw [upstreamCommand_of_sound hs] at h
      obtain ⟨h1, h2⟩ := kindCommand_eq_cycle h
      rw [← frameOf_of_sound hs, h1, ← h2]
      rfl
  · cases hs : sound w with
    | false => rw [upstreamCommand_of_unsound hs] at h; cases h
    | true =>
      rw [upstreamCommand_of_sound hs] at h
      obtain ⟨h1, h2⟩ := kindCommand_eq_aux h
      rw [← frameOf_of_sound hs, h1, ← h2]
      rfl
  · obtain ⟨h0, h1, h2, h3, h4, h5, h6, h7⟩ := kindCommand_kindError kind h
    rw [upstreamCommand_frameOf, kindCommand, if_neg h0, if_neg h1, if_neg h2, if_neg h3, if_neg h4, if_neg h5, if_neg h6,
      if_neg h7]
  · rw [upstreamCommand_frameOf, kindCommand_cycle]
  · exact (upstreamCommand_frameOf 2 (driveBody slot throttle brake lane pair spare)).trans
      (kindCommand_drive slot throttle brake lane pair spare)
  · rw [upstreamCommand_frameOf, kindCommand_head]
  · rw [upstreamCommand_frameOf, kindCommand_aux]

end Sys2Proof.Machine

/-! The layouts of the port messages and the commands they are (section 1.7, R20, R21); O8. -/

namespace Sys2Proof.Machine

/-- The check nibble of a short message (R21). -/
def shortCheck (type : BitVec 4) (arg : BitVec 8) : BitVec 4 :=
  15 - (type + arg.extractLsb' 4 4 + arg.extractLsb' 0 4)

theorem shortMessage_eq (type : BitVec 4) (arg : BitVec 8) : shortMessage type arg = type ++ arg ++ shortCheck type arg := rfl

/-- The four nibbles of a short message sum to 15 (R21). -/
theorem shortCheck_sum (type : BitVec 4) (arg : BitVec 8) :
    type + arg.extractLsb' 4 4 + arg.extractLsb' 0 4 + shortCheck type arg = 15#4 := by
  rw [BitVec.add_comm _ (shortCheck type arg)]
  exact BitVec.sub_add_cancel _ _

/-- The fields of a short message, read back. -/
theorem shortMessage_fields (type : BitVec 4) (arg : BitVec 8) :
    (shortMessage type arg).extractLsb' 12 4 = type ∧ (shortMessage type arg).extractLsb' 0 4 = shortCheck type arg ∧
      (∀ i k, i + k ≤ 8 → (shortMessage type arg).extractLsb' (4 + i) k = arg.extractLsb' i k) ∧
      (shortMessage type arg).getLsbD 4 = arg.getLsbD 0 := by
  refine ⟨extract_highest type arg _, Laws.RequestSpelling.extract_low (type ++ arg) (shortCheck type arg),
    fun i k h => extract_middle type arg _ h, (getLsbD_above (type ++ arg) (shortCheck type arg) 0).trans ?_⟩
  rw [BitVec.getLsbD_append, if_pos (by decide)]

/-- The command of a short message by its type and its argument (R20). -/
def typeCommand (p : PortIx) (type : BitVec 4) (arg : BitVec 8) : Instr :=
  if type = 1 then
    if arg.extractLsb' 6 2 = 1#2 then .hello p .switch (arg.getLsbD 0)
    else if arg.extractLsb' 6 2 = 2#2 then .hello p .bay (arg.getLsbD 0)
    else if arg.extractLsb' 6 2 = 3#2 then .hello p .external (arg.getLsbD 0)
    else .portLineError p
  else if type = 2 then .approach p (arg.extractLsb' 0 5)
  else if type = 3 then .guard p (arg.extractLsb' 0 5)
  else if type = 4 then .exitCross p (arg.extractLsb' 0 5)
  else if type = 5 then .exitStraight p (arg.extractLsb' 0 5)
  else if type = 6 then .ready p (arg.getLsbD 0)
  else if type = 7 then .moving p
  else if type = 8 then .moduleFault p arg
  else if type = 9 then .selfThrow p (arg.extractLsb' 0 5)
  else .portLineError p

theorem shortCommand_shortMessage (p : PortIx) (type : BitVec 4) (arg : BitVec 8) :
    shortCommand p (shortMessage type arg) = typeCommand p type arg := by
  obtain ⟨ht, hc, hm, hb⟩ := shortMessage_fields type arg
  have h8 := hm 4 4 (by decide)
  have h4 := hm 0 4 (by decide)
  have hcode := hm 0 5 (by decide)
  have hkind := hm 6 2 (by decide)
  have hfault := (hm 0 8 (by decide)).trans BitVec.extractLsb'_eq_self
  unfold shortCommand typeCommand
  rw [ht, h8, h4, hc, hcode, hkind, hfault, hb, if_neg (not_not.2 (shortCheck_sum type arg))]

/-- A short message whose nibbles do not sum to 15 is a line error (R20). -/
theorem shortCommand_of_bad_sum (p : PortIx) {w : Word16}
    (h : w.extractLsb' 12 4 + w.extractLsb' 8 4 + w.extractLsb' 4 4 + w.extractLsb' 0 4 ≠ 15#4) :
    shortCommand p w = .portLineError p := by
  unfold shortCommand
  rw [if_pos h]

/-- The types 0 and 0xB to 0xF are no short message's (R20). -/
theorem undefined_type : ∀ type : BitVec 4, type = 0 ∨ 11 ≤ type.toNat → type ≠ 1 ∧ type ≠ 2 ∧ type ≠ 3 ∧ type ≠ 4 ∧
    type ≠ 5 ∧ type ≠ 6 ∧ type ≠ 7 ∧ type ≠ 8 ∧ type ≠ 9 := by decide

theorem typeCommand_of_undefined (p : PortIx) {type : BitVec 4} (h : type = 0 ∨ 11 ≤ type.toNat) (arg : BitVec 8) :
    typeCommand p type arg = .portLineError p := by
  obtain ⟨h1, h2, h3, h4, h5, h6, h7, h8, h9⟩ := undefined_type type h
  rw [typeCommand, if_neg h1, if_neg h2, if_neg h3, if_neg h4, if_neg h5, if_neg h6, if_neg h7, if_neg h8, if_neg h9]

/-- A HELLO by its kind field (section 1.7). -/
theorem typeCommand_hello (p : PortIx) (kind : BitVec 2) (spare : BitVec 5) (thrown : Bool) :
    typeCommand p 1 (kind ++ spare ++ BitVec.ofBool thrown) =
      if kind = 0 then .portLineError p
      else .hello p (if kind = 1 then .switch else if kind = 2 then .bay else .external) thrown := by
  have hk : (kind ++ spare ++ BitVec.ofBool thrown : BitVec 8).extractLsb' 6 2 = kind :=
    extract_highest kind spare (BitVec.ofBool thrown)
  have hb : (kind ++ spare ++ BitVec.ofBool thrown : BitVec 8).getLsbD 0 = thrown := getLsbD_flag (kind ++ spare) thrown
  have hcases : ∀ x : BitVec 2, x = 0 ∨ x = 1 ∨ x = 2 ∨ x = 3 := by decide
  rw [typeCommand, hk, hb]
  rcases hcases kind with rfl | rfl | rfl | rfl <;> rfl

/-- 255 minus a byte as a number. -/
theorem toNat_255_sub (s : BitVec 8) : (255 - s).toNat = 255 - s.toNat := by
  have h := s.isLt
  rw [BitVec.toNat_sub]
  show (2 ^ 8 - s.toNat + 255) % 2 ^ 8 = 255 - s.toNat
  omega

/-- The check byte of an identity as a number (R20). -/
theorem identityCheck_toNat (id : Identity) : (identityCheck id).toNat = 255 -
    (((List.range 8).map fun k => (id.extractLsb' (8 * k) 8).toNat).sum % 256) := by
  have hr : ((List.range 8).map fun k => (id.extractLsb' (8 * k) 8).toNat) =
      [(id.extractLsb' 0 8).toNat, (id.extractLsb' 8 8).toNat, (id.extractLsb' 16 8).toNat, (id.extractLsb' 24 8).toNat,
        (id.extractLsb' 32 8).toNat, (id.extractLsb' 40 8).toNat, (id.extractLsb' 48 8).toNat,
        (id.extractLsb' 56 8).toNat] := rfl
  rw [hr]
  unfold identityCheck
  generalize id.extractLsb' 0 8 = b0, id.extractLsb' 8 8 = b1, id.extractLsb' 16 8 = b2, id.extractLsb' 24 8 = b3,
    id.extractLsb' 32 8 = b4, id.extractLsb' 40 8 = b5, id.extractLsb' 48 8 = b6, id.extractLsb' 56 8 = b7
  rw [toNat_255_sub]
  simp only [BitVec.toNat_add, Nat.mod_add_mod, List.sum_cons, List.sum_nil]
  omega

/-- The identity and the check byte of a long message, read back. -/
theorem longMessage_fields (type spare : BitVec 4) (id : Identity) (check : BitVec 8) :
    (type ++ id ++ check ++ spare : BitVec 80).extractLsb' 12 64 = id ∧
      (type ++ id ++ check ++ spare : BitVec 80).extractLsb' 4 8 = check :=
  ⟨(extract_above (type ++ id ++ check) spare 8 64).trans <| (extract_above (type ++ id) check 0 64).trans
      (Laws.RequestSpelling.extract_low type id),
    (extract_above (type ++ id ++ check) spare 0 8).trans (Laws.RequestSpelling.extract_low (type ++ id) check)⟩

/-- Settles O8: a short message is its type, its argument and its check, and its command is read off the first two; a long
message carries an identity and its check byte. -/
theorem portMessagesAreClassified : Obligations.PortMessagesAreClassified := by
  unfold Obligations.PortMessagesAreClassified
  refine ⟨fun type arg => ⟨shortCheck type arg, shortMessage_eq type arg, shortCheck_sum type arg⟩,
    ⟨rfl, rfl, rfl, rfl, rfl, rfl, rfl, rfl, rfl⟩, fun p => ⟨fun w => shortCommand_of_bad_sum p, fun type arg h => ?_,
    fun kind spare thrown => ?_, fun spare code => ?_, fun spare thrown => ?_,
    fun arg => ⟨shortCommand_shortMessage p 7 arg, shortCommand_shortMessage p 8 arg⟩, identityCheck_toNat,
    fun type spare id check => ?_⟩⟩
  · rw [shortCommand_shortMessage, typeCommand_of_undefined p h]
  · rw [shortCommand_shortMessage, typeCommand_hello]
  · have hc : (spare ++ code : BitVec 8).extractLsb' 0 5 = code := Laws.RequestSpelling.extract_low spare code
    have h : ∀ type (f : BitVec 5 → Instr), (∀ arg, typeCommand p type arg = f (arg.extractLsb' 0 5)) →
        shortCommand p (shortMessage type (spare ++ code)) = f code := fun type f hf => by
      rw [shortCommand_shortMessage, hf, hc]
    exact ⟨h 2 (.approach p) fun _ => rfl, h 3 (.guard p) fun _ => rfl, h 4 (.exitCross p) fun _ => rfl,
      h 5 (.exitStraight p) fun _ => rfl, h 9 (.selfThrow p) fun _ => rfl⟩
  · have hb : (spare ++ BitVec.ofBool thrown : BitVec 8).getLsbD 0 = thrown := getLsbD_flag spare thrown
    have h : ∀ arg, typeCommand p 6 arg = .ready p (arg.getLsbD 0) := fun _ => rfl
    rw [shortCommand_shortMessage, h, hb]
  · obtain ⟨h1, h2⟩ := longMessage_fields type spare id check
    rw [longCommand, h1, h2]

end Sys2Proof.Machine

/-! Resolution and driving slots (R26, R27), and the car that one slot drives; O23. -/

namespace Sys2Proof.Machine

/-- A bound slot resolves to its binding (R26). -/
theorem State.resolve_of_bound {s : State} {h : SlotIx} {a : CarIx} (hb : (s.slot h).binding = some a) :
    s.resolve h = some a := by
  unfold State.resolve; rw [hb]

/-- A slot with no binding resolves to its direct-path car while the fallback is on and that car is free (R26). -/
theorem State.resolve_of_unbound {s : State} {h : SlotIx} (hb : (s.slot h).binding = none) : s.resolve h =
    if s.directFallback ∧ (s.car h).holder = none ∧ (s.car h).reservation = none then some h else none := by
  unfold State.resolve; rw [hb]

/-- A held car is driven by its holder (R27). -/
theorem State.drivingSlot_of_held {s : State} {a : CarIx} {h : SlotIx} (hh : (s.car a).holder = some h) :
    s.drivingSlot a = some h := by
  unfold State.drivingSlot; rw [hh]

/-- A car with no holder is driven by its direct-path slot while the fallback is on, the car unreserved and the slot unbound
(R27). -/
theorem State.drivingSlot_of_unheld {s : State} {a : CarIx} (hh : (s.car a).holder = none) : s.drivingSlot a =
    if s.directFallback ∧ (s.car a).reservation = none ∧ (s.slot a).binding = none then some a else none := by
  unfold State.drivingSlot; rw [hh]

/-- What a slot resolves to: its binding, or its direct-path car (R26). -/
theorem State.resolve_eq_some (s : State) (h : SlotIx) (a : CarIx) : s.resolve h = some a ↔
    (s.slot h).binding = some a ∨ (h = a ∧ (s.slot h).binding = none ∧ s.directFallback = true ∧
      (s.car a).holder = none ∧ (s.car a).reservation = none) := by
  cases hb : (s.slot h).binding with
  | some b => simp [State.resolve_of_bound hb]
  | none =>
    rw [State.resolve_of_unbound hb, Option.ite_none_right_eq_some]
    constructor
    · rintro ⟨⟨hf, hh, hr⟩, he⟩
      obtain rfl := Option.some.inj he
      exact .inr ⟨rfl, rfl, hf, hh, hr⟩
    · rintro (he | ⟨rfl, -, hf, hh, hr⟩)
      · cases he
      · exact ⟨⟨hf, hh, hr⟩, rfl⟩

/-- Which slot drives a car: its holder, or the slot of its direct path (R27). -/
theorem State.drivingSlot_eq_some (s : State) (a : CarIx) (h : SlotIx) : s.drivingSlot a = some h ↔
    (s.car a).holder = some h ∨ (h = a ∧ (s.slot h).binding = none ∧ s.directFallback = true ∧
      (s.car a).holder = none ∧ (s.car a).reservation = none) := by
  cases hh : (s.car a).holder with
  | some g => simp [State.drivingSlot_of_held hh]
  | none =>
    rw [State.drivingSlot_of_unheld hh, Option.ite_none_right_eq_some]
    constructor
    · rintro ⟨⟨hf, hr, hb⟩, he⟩
      obtain rfl := Option.some.inj he
      exact .inr ⟨rfl, hb, hf, rfl, hr⟩
    · rintro (he | ⟨rfl, hb, hf, -, hr⟩)
      · cases he
      · exact ⟨⟨hf, hr, hb⟩, rfl⟩

/-- The mirror of R24 makes resolution and driving slots agree. -/
theorem State.Mirrored.resolve_iff {s : State} (hm : s.Mirrored) (h : SlotIx) (a : CarIx) :
    s.resolve h = some a ↔ s.drivingSlot a = some h := by
  rw [State.resolve_eq_some, State.drivingSlot_eq_some, hm a h]

theorem State.driven_iff (s : State) (a : CarIx) : s.driven a = true ↔ ∃ h, s.drivingSlot a = some h :=
  Option.isSome_iff_exists

/-- A car that a slot resolves to is driven. -/
theorem State.Mirrored.driven_of_resolve {s : State} (hm : s.Mirrored) {h : SlotIx} {a : CarIx}
    (hr : s.resolve h = some a) : s.driven a = true :=
  (s.driven_iff a).2 ⟨h, (hm.resolve_iff h a).1 hr⟩

/-- Settles O23: a slot resolves to a car exactly where that car's driving slot is the slot, and a car has one driving slot. -/
theorem aCarsDrivingSlotIsTheOneThatResolvesToIt : Obligations.ACarsDrivingSlotIsTheOneThatResolvesToIt := by
  unfold Obligations.ACarsDrivingSlotIsTheOneThatResolvesToIt
  intro s hm
  refine ⟨fun h a => State.resolve_of_bound, fun h => State.resolve_of_unbound, hm.resolve_iff, fun a => ?_,
    fun a g h hg hh => ?_⟩
  · simp only [State.driven_iff, hm.resolve_iff]
  · rw [hm.resolve_iff] at hg hh
    exact Option.some.inj (hg.symm.trans hh)

end Sys2Proof.Machine

/-! What a command can do to bindings, identities and latches: one inversion for every command, and the three laws of the slot and
car tables that follow from it (R24, R31, R33, R36, R42); O52 to O54. -/

namespace Sys2Proof.Machine

/-! ### Rebinding changes holders alone -/

theorem State.dropBinding_onlyHolder (s : State) (h : SlotIx) (b : CarIx) :
    (s.dropBinding h).car b = { s.car b with holder := ((s.dropBinding h).car b).holder } := by
  unfold State.dropBinding
  split
  · rfl
  · rw [State.car_modCar]
    split
    · rename_i e; rw [← e]; rfl
    · rfl

theorem State.dropHolder_onlyHolder (s : State) (a b : CarIx) :
    (s.dropHolder a).car b = { s.car b with holder := ((s.dropHolder a).car b).holder } := by
  rw [State.dropHolder_car]

/-- Whatever the bindings were, BIND changes no field of a car but the holder (R37). -/
theorem State.bindTo_onlyHolder (s : State) (h : SlotIx) (a b : CarIx) :
    (s.bindTo h a).car b = { s.car b with holder := ((s.bindTo h a).car b).holder } := by
  obtain ⟨s1, s2, e1, e2, e3⟩ := State.bind_steps s h a
  have h1 : s1.car b = { s.car b with holder := (s1.car b).holder } := by
    rw [e1]; split
    · rfl
    · exact s.dropBinding_onlyHolder h b
  have h2 : s2.car b = { s1.car b with holder := (s2.car b).holder } := by
    rw [e2]; split
    · rfl
    · exact s1.dropHolder_onlyHolder a b
  have h3 : (s.bindTo h a).car b = { s2.car b with holder := ((s.bindTo h a).car b).holder } := by
    rw [e3, State.car_modCar]
    split
    · rename_i e; rw [← e]; rfl
    · rfl
  rw [h3, h2, h1]

/-! ### Latches that only fall -/

/-- The race record and the part state in which a latch can stand (R31, R33). -/
def State.Standing (s : State) : Prop :=
  s.laneOpen = true ∧ (s.part = .run ∨ s.part = .rest ∨ s.part = .waking)

/-- What the law of the latches asks of one ARMED car (R31, R33, R118). -/
def State.MayArm (s : State) (a : CarIx) : Prop :=
  s.driven a = true ∧ (s.car a).reservation = none ∧ (s.car a).link ≠ .lost ∧ s.Standing

/-- No latch is set from `s` to `t`, and a latch that stays loses nothing that the law asks of it. -/
def State.LatchesFall (s t : State) : Prop :=
  ∀ a, (t.car a).armed = true → (s.car a).armed = true ∧ (s.MayArm a → t.MayArm a)

theorem State.ArmedLawful.of_fall {s t : State} (hs : s.ArmedLawful) (h : s.LatchesFall t) : t.ArmedLawful :=
  fun a ha => (h a ha).2 (hs a (h a ha).1)

theorem State.LatchesFall.of_unarmed (s : State) {t : State} (h : ∀ a, (t.car a).armed = false) : s.LatchesFall t :=
  fun a ha => absurd ha (by rw [h a]; exact Bool.false_ne_true)

/-- The latch of a car record is not set, and while it stands no reservation comes and the link is not LOST. -/
def Car.Falls (c d : Car) : Prop :=
  d.armed = true → c.armed = true ∧ (c.reservation = none → d.reservation = none) ∧ (c.link ≠ .lost → d.link ≠ .lost)

theorem Car.Falls.refl (c : Car) : c.Falls c := fun h => ⟨h, id, id⟩

theorem Car.Falls.of_unarmed (c : Car) {d : Car} (h : d.armed = false) : c.Falls d :=
  fun hd => absurd hd (by rw [h]; exact Bool.false_ne_true)

/-- R36: where the latches of the cars whose holder or driving slot moved are cleared, none is set. -/
theorem State.LatchesFall.disarmMoved {s t : State} (ht : ∀ a, (s.car a).Falls (t.car a)) (hs : s.Standing → t.Standing) :
    s.LatchesFall (State.disarmMoved s t) := by
  intro a ha
  have hc := State.disarmMoved_car s t a
  rw [hc] at ha
  obtain ⟨⟨hh, hd⟩, hat⟩ : ((t.car a).holder = (s.car a).holder ∧ t.drivingSlot a = s.drivingSlot a) ∧
      (t.car a).armed = true := by simpa only [Bool.and_eq_true, decide_eq_true_eq] using ha
  obtain ⟨harm, hres, hlink⟩ := ht a hat
  refine ⟨harm, fun ⟨m1, m2, m3, m4⟩ => ⟨?_, ?_, ?_, ?_⟩⟩
  · unfold State.driven; rw [State.disarmMoved_drivingSlot, hd]; exact m1
  · rw [hc]; exact hres m2
  · rw [hc]; exact hlink m3
  · obtain ⟨h1, h2⟩ := hs m4
    exact ⟨by simpa [State.laneOpen] using h1, by simpa using h2⟩

/-! ### Changes that move no binding -/

/-- From `s` to `t` no binding, no holder and no identity changes, and no latch is set. -/
structure State.Quiet (s t : State) : Prop where
  binding : ∀ g, (t.slot g).binding = (s.slot g).binding
  holder : ∀ a, (t.car a).holder = (s.car a).holder
  identity : ∀ a, (t.car a).identity = (s.car a).identity
  latches : s.LatchesFall t

/-- A car record of which neither holder nor identity changes, and no latch is set. -/
structure Car.Keeps (c d : Car) : Prop where
  holder : d.holder = c.holder
  identity : d.identity = c.identity
  falls : c.Falls d

theorem Car.Keeps.refl (c : Car) : c.Keeps c := ⟨rfl, rfl, .refl c⟩

/-- Where each car keeps its standing, its reservation too, no binding and no fallback changes, and the regime of the latches is not left. -/
theorem State.Quiet.of_cars {s t : State} (hc : ∀ a, (s.car a).Keeps (t.car a))
    (hr : ∀ a, (t.car a).reservation = (s.car a).reservation)
    (hb : ∀ g, (t.slot g).binding = (s.slot g).binding) (hf : t.directFallback = s.directFallback)
    (hs : s.Standing → t.Standing) : s.Quiet t := by
  refine ⟨hb, fun a => (hc a).holder, fun a => (hc a).identity, fun a ha => ?_⟩
  obtain ⟨h1, -, h2⟩ := (hc a).falls ha
  refine ⟨h1, fun ⟨m1, m2, m3, m4⟩ => ⟨?_, (hr a).trans m2, h2 m3, hs m4⟩⟩
  unfold State.driven
  rw [State.drivingSlot_congr a (hc a).holder (hr a) (hb a) hf]
  exact m1

/-- The same where R36 clears the latches of the cars that have moved: reservations and fallback may change. -/
theorem State.Quiet.disarmMoved {s t : State} (hc : ∀ a, (s.car a).Keeps (t.car a)) (hb : t.slots = s.slots)
    (hs : s.Standing → t.Standing) : s.Quiet (State.disarmMoved s t) :=
  ⟨fun g => by simp [hb], fun a => by rw [State.disarmMoved_car]; exact (hc a).holder,
    fun a => by rw [State.disarmMoved_car]; exact (hc a).identity, .disarmMoved (fun a => (hc a).falls) hs⟩

theorem State.Standing.congr {s t : State} (h : s.Standing)
    (hr : t.part = s.part ∧ t.race = s.race ∧ t.laneEnable = s.laneEnable) : t.Standing := by
  obtain ⟨h1, h2, h3⟩ := hr
  unfold State.Standing State.laneOpen at h ⊢
  rw [h1, h2, h3]
  exact h

/-! ### What a command can do -/

/-- One change of bindings, identities and latches (R31, R36 to R39, R42, R148). -/
inductive State.Move (s : State) : State → Prop
  | quiet {t : State} (h : s.Quiet t) : s.Move t
  | edge (g : SlotIx) (a : CarIx) (hg : s.resolve g = some a) (ha : s.laneEdgeTaken a = true) :
      s.Move (s.modCar a fun c => { c with armed := !c.armed })
  | bind (h : SlotIx) (a : CarIx) : s.Move (s.bindCar h a)
  | unbind (h : SlotIx) : s.Move (s.unbindSlot h)
  | forget (a : CarIx) : s.Move (s.forgetCar a)
  | commit (h : SlotIx) (a : CarIx) (id : Identity) : s.Move (s.commit h a id)
  | reset (high : Bool) : s.Move (s.releaseReset high)

/-- Any number of such changes, one after the other. -/
abbrev State.Moves : State → State → Prop := Relation.ReflTransGen State.Move

theorem State.Moves.refl (s : State) : s.Moves s := Relation.ReflTransGen.refl

theorem State.Moves.trans {s t u : State} (h : s.Moves t) (k : t.Moves u) : s.Moves u := Relation.ReflTransGen.trans h k

theorem State.Move.moves {s t : State} (h : s.Move t) : s.Moves t := Relation.ReflTransGen.single h

theorem State.Quiet.moves {s t : State} (h : s.Quiet t) : s.Moves t := (State.Move.quiet h).moves

/-- What every single change keeps, any number of them keep. -/
theorem State.Moves.keeps {P : State → Prop} (hp : ∀ s t, s.Move t → P s → P t) {s t : State} (h : s.Moves t) (hs : P s) :
    P t := by
  induction h with
  | refl => exact hs
  | tail _ h ih => exact hp _ _ h ih

/-- An operation that leaves both tables, the fallback, the race record and the part state as they are. -/
theorem State.Moves.untouched {s t : State} (hc : t.cars = s.cars := by simp) (hb : t.slots = s.slots := by simp)
    (hf : t.directFallback = s.directFallback := by simp)
    (hr : t.part = s.part ∧ t.race = s.race ∧ t.laneEnable = s.laneEnable := by simp) : s.Moves t :=
  (State.Quiet.of_cars (fun a => by simpa [hc] using Car.Keeps.refl _) (by simp [hc]) (by simp [hb]) hf fun h => h.congr hr).moves

/-- A law of each car before and after one car is written. -/
theorem State.modCar_forall {s : State} {a : CarIx} {f : Car → Car} {R : Car → Car → Prop} (hr : ∀ c, R c c)
    (hf : R (s.car a) (f (s.car a))) (b : CarIx) : R (s.car b) ((s.modCar a f).car b) := by
  rw [State.car_modCar]
  split
  · rename_i e; rw [← e]; exact hf
  · exact hr _

/-- One car is written, its standing kept. -/
theorem State.Moves.modCar (s : State) {a : CarIx} {f : Car → Car} (hf : (s.car a).Keeps (f (s.car a)))
    (hr : (f (s.car a)).reservation = (s.car a).reservation) : s.Moves (s.modCar a f) :=
  (State.Quiet.of_cars (State.modCar_forall .refl hf)
    (State.modCar_forall (R := fun c d => d.reservation = c.reservation) (fun _ => rfl) hr) (by simp) (by simp)
    fun h => h.congr (by simp)).moves

/-- One slot is written, its binding kept. -/
theorem State.Moves.modSlot (s : State) {g : SlotIx} {f : Slot → Slot} (hf : (f (s.slot g)).binding = (s.slot g).binding) :
    s.Moves (s.modSlot g f) := by
  refine (State.Quiet.of_cars (s := s) (t := s.modSlot g f) (fun b => .refl _) (fun b => rfl) (fun h => ?_) rfl fun h => h).moves
  rw [State.slot_modSlot]
  split
  · rename_i e; rw [← e]; exact hf
  · rfl

/-! ### Each change keeps the laws -/

/-- The mirror of R24 in a state that has the slots of one and the cars of another. -/
theorem State.Mirrored.congr {s t : State} (h : s.Mirrored) (hb : ∀ g, (t.slot g).binding = (s.slot g).binding)
    (hh : ∀ a, (t.car a).holder = (s.car a).holder) : t.Mirrored := by
  intro a g
  rw [hb, hh]
  exact h a g

/-- Taking one value away leaves the others. -/
theorem ite_none_eq_some_iff {α : Type} [DecidableEq α] (x : Option α) {g h : α} (hg : g ≠ h) :
    (if x = some h then none else x) = some g ↔ x = some g := by
  split
  · rename_i hx
    simp [hx, Ne.symm hg]
  · exact Iff.rfl

theorem ite_none_ne_some {α : Type} [DecidableEq α] (x : Option α) (h : α) : (if x = some h then none else x) ≠ some h := by
  split
  · simp
  · assumption

theorem State.Mirrored.bindTo {s : State} (hm : s.Mirrored) (h : SlotIx) (a : CarIx) : (s.bindTo h a).Mirrored := by
  intro b g
  rw [State.bindTo_car hm, State.bindTo_slot hm]
  by_cases eb : b = a <;> by_cases eg : g = h
  · simp only [eb, eg, if_true]
  · simp only [eb, eg, if_true, if_false, Option.some.injEq, Ne.symm eg, false_iff]
    exact ite_none_ne_some _ _
  · simp only [eb, eg, if_true, if_false, Option.some.injEq, Ne.symm eb, iff_false]
    exact ite_none_ne_some _ _
  · simp only [eb, eg, if_false]
    rw [ite_none_eq_some_iff _ eb, ite_none_eq_some_iff _ eg]
    exact hm b g

theorem State.Mirrored.dropHolder {s : State} (hm : s.Mirrored) (a : CarIx) : (s.dropHolder a).Mirrored := by
  intro b g
  rw [State.dropHolder_slot hm, State.dropHolder_car]
  by_cases eb : b = a
  · simp only [eb, if_true, reduceCtorEq, false_iff]
    exact ite_none_ne_some _ _
  · simp only [eb, if_false]
    rw [ite_none_eq_some_iff _ eb]
    exact hm b g

theorem State.Mirrored.disarmMoved {t : State} (h : t.Mirrored) (s : State) : (State.disarmMoved s t).Mirrored :=
  h.congr (fun g => by rw [State.disarmMoved_slot]) fun a => by rw [State.disarmMoved_car]

end Sys2Proof.Machine

/-! Each change that a command can make keeps the mirror of holders and bindings, the identities distinct and the latches lawful
(R24, R31, R33, R36, R42). -/

namespace Sys2Proof.Machine

/-! ### The slots and cars after each operation, whatever the bindings were -/

theorem State.disarmMoved_identity (s t : State) (b : CarIx) :
    ((State.disarmMoved s t).car b).identity = (t.car b).identity := by rw [State.disarmMoved_car]

theorem State.bindTo_identity (s : State) (h : SlotIx) (a b : CarIx) :
    ((s.bindTo h a).car b).identity = (s.car b).identity := by rw [State.bindTo_onlyHolder]

/-- The identities after a pairing commit (R42): that of the car is written, and no other car holds it. -/
theorem State.commit_identity (s : State) (h : SlotIx) (a b : CarIx) (id : Identity) :
    ((s.commit h a id).car b).identity =
      if a = b then some id else if (s.car b).identity = some id then none else (s.car b).identity := by
  unfold State.commit
  rw [State.disarmMoved_identity, State.car_modCar]
  split
  · rfl
  · rename_i e
    unfold State.clearIdentity
    rw [State.car_mapCars]
    simp only [ne_eq, Ne.symm e, not_false_eq_true, true_and, State.bindTo_identity]
    split
    · rfl
    · exact State.bindTo_identity s h a b

/-! ### The mirror of R24 -/

theorem State.Mirrored.modCar {s : State} (hm : s.Mirrored) {a : CarIx} {f : Car → Car}
    (hf : (f (s.car a)).holder = (s.car a).holder) : (s.modCar a f).Mirrored :=
  hm.congr (fun g => by rw [State.slot_modCar])
    (State.modCar_forall (R := fun c d => d.holder = c.holder) (fun _ => rfl) hf)

theorem State.Move.mirrored {s t : State} (h : s.Move t) (hm : s.Mirrored) : t.Mirrored := by
  cases h with
  | quiet h => exact hm.congr h.binding h.holder
  | edge g a _ _ => exact hm.modCar rfl
  | bind h a => exact (hm.bindTo h a).disarmMoved s
  | unbind h => exact (State.dropBinding_mirrored hm h).disarmMoved s
  | forget a =>
    unfold State.forgetCar
    split
    · exact hm
    · exact ((hm.dropHolder a).modCar rfl).disarmMoved s
  | commit h a id =>
    refine (hm.bindTo h a).congr (fun g => ?_) fun b => ?_
    · rw [State.commit_slot hm, State.bindTo_slot hm]
    · by_cases e : b = a
      · rw [e, State.commit_car hm, State.bindTo_car hm, if_pos rfl]
      · rw [(State.commit_other hm h a b id e).2, State.bindTo_car hm]
        simp only [e, if_false]
  | reset high =>
    intro a g
    rw [State.car_releaseReset, State.slot_releaseReset]
    simp [Car.reset, Slot.reset]

/-! ### The identities of R42 -/

/-- Identities that are only taken away stay distinct. -/
theorem State.IdentitiesDistinct.of_fewer {s t : State} (hd : s.IdentitiesDistinct)
    (h : ∀ a id, (t.car a).identity = some id → (s.car a).identity = some id) : t.IdentitiesDistinct :=
  fun a b id ha hb => hd a b id (h a id ha) (h b id hb)

theorem State.Move.identitiesDistinct {s t : State} (h : s.Move t) (hd : s.IdentitiesDistinct) : t.IdentitiesDistinct := by
  cases h with
  | quiet h => exact hd.of_fewer fun a id ha => by rwa [h.identity] at ha
  | edge g a _ _ =>
    refine hd.of_fewer fun b id hb => ?_
    rw [State.car_modCar] at hb
    split at hb
    · rename_i e; rw [← e]; exact hb
    · exact hb
  | bind h a =>
    refine hd.of_fewer fun b id hb => ?_
    rwa [State.bindCar, State.disarmMoved_identity, State.bindTo_identity] at hb
  | unbind h =>
    refine hd.of_fewer fun b id hb => ?_
    rwa [State.unbindSlot, State.disarmMoved_identity, State.dropBinding_onlyHolder] at hb
  | forget a =>
    refine hd.of_fewer fun b id hb => ?_
    unfold State.forgetCar at hb
    split at hb
    · exact hb
    · rw [State.disarmMoved_identity, State.car_modCar] at hb
      split at hb
      · cases hb
      · rwa [State.dropHolder_onlyHolder] at hb
  | commit h a id =>
    have key : ∀ b i, a ≠ b → ((s.commit h a id).car b).identity = some i → i ≠ id ∧ (s.car b).identity = some i :=
      fun b i e hb => by
        rw [State.commit_identity, if_neg e] at hb
        split at hb
        · cases hb
        · rename_i hne
          exact ⟨by rintro rfl; exact hne hb, hb⟩
    have ha : ((s.commit h a id).car a).identity = some id := by rw [State.commit_identity, if_pos rfl]
    intro b c i hb hc
    by_cases eb : a = b <;> by_cases ec : a = c
    · exact eb.symm.trans ec
    · rw [← eb, ha] at hb
      exact absurd (Option.some.inj hb).symm (key c i ec hc).1
    · rw [← ec, ha] at hc
      exact absurd (Option.some.inj hc).symm (key b i eb hb).1
    · exact hd b c i (key b i eb hb).2 (key c i ec hc).2
  | reset high =>
    intro a b id ha
    rw [State.car_releaseReset] at ha
    cases ha

/-! ### The latches of R31, R33 and R36 -/

/-- A lane edge is acted on where the latch can stand (R31). -/
theorem State.laneEdgeTaken_iff (s : State) (a : CarIx) : s.laneEdgeTaken a = true ↔
    (s.car a).reservation = none ∧ (s.car a).link ≠ .lost ∧ s.part = .run ∧ s.laneOpen = true := by
  simp only [State.laneEdgeTaken, Bool.and_eq_true, decide_eq_true_eq, and_assoc]

theorem State.LatchesFall.bindCar (s : State) (h : SlotIx) (a : CarIx) : s.LatchesFall (s.bindCar h a) :=
  .disarmMoved (fun b => by rw [State.bindTo_onlyHolder]; exact .refl _) fun hs => hs.congr (by simp)

theorem State.LatchesFall.unbindSlot (s : State) (h : SlotIx) : s.LatchesFall (s.unbindSlot h) :=
  .disarmMoved (fun b => by rw [State.dropBinding_onlyHolder]; exact .refl _) fun hs => hs.congr (by simp)

theorem State.LatchesFall.refl (s : State) : s.LatchesFall s := fun _ h => ⟨h, id⟩

theorem State.LatchesFall.forgetCar (s : State) (a : CarIx) : s.LatchesFall (s.forgetCar a) := by
  unfold State.forgetCar
  split
  · exact .refl s
  · refine .disarmMoved (fun b => ?_) fun hs => hs.congr (by simp)
    rw [State.car_modCar]
    split
    · exact .of_unarmed _ rfl
    · rw [State.dropHolder_onlyHolder]; exact .refl _

/-- A car after the identity of another is taken from it. -/
theorem State.clearIdentity_car (s : State) (a b : CarIx) (id : Identity) : (s.clearIdentity a id).car b =
    { s.car b with identity := ((s.clearIdentity a id).car b).identity } := by
  unfold State.clearIdentity
  rw [State.car_mapCars]
  split <;> rfl

theorem State.LatchesFall.commit (s : State) (h : SlotIx) (a : CarIx) (id : Identity) :
    s.LatchesFall (s.commit h a id) := by
  have hu : ∀ b, ((s.bindTo h a).clearIdentity a id).car b = { s.car b with
      holder := (((s.bindTo h a).clearIdentity a id).car b).holder
      identity := (((s.bindTo h a).clearIdentity a id).car b).identity } := fun b => by
    rw [State.clearIdentity_car, State.bindTo_onlyHolder]
  have hr : s.Standing → ((s.bindTo h a).clearIdentity a id).Standing := fun hs => hs.congr (by simp)
  unfold State.commit
  generalize (s.bindTo h a).clearIdentity a id = u at hu hr
  refine .disarmMoved (fun b => ?_) fun hs => (hr hs).congr (by simp)
  rw [State.car_modCar]
  split
  · exact .of_unarmed _ rfl
  · rw [hu]; exact .refl _

/-- A change of one car that leaves holder, reservation and link changes nothing that the law asks of an ARMED car. -/
theorem State.MayArm.modCar {s : State} {b : CarIx} (h : s.MayArm b) (a : CarIx) {f : Car → Car}
    (hf : ∀ c, (f c).holder = c.holder ∧ (f c).reservation = c.reservation ∧ (f c).link = c.link) :
    (s.modCar a f).MayArm b := by
  obtain ⟨m1, m2, m3, m4⟩ := h
  obtain ⟨hh, hr, hl⟩ : ((s.modCar a f).car b).holder = (s.car b).holder ∧
      ((s.modCar a f).car b).reservation = (s.car b).reservation ∧ ((s.modCar a f).car b).link = (s.car b).link :=
    State.modCar_forall (R := fun c d => d.holder = c.holder ∧ d.reservation = c.reservation ∧ d.link = c.link)
      (fun _ => ⟨rfl, rfl, rfl⟩) (hf _) b
  refine ⟨?_, hr.trans m2, by rw [hl]; exact m3, m4⟩
  unfold State.driven
  rw [State.drivingSlot_congr (s := s) (t := s.modCar a f) b hh hr rfl rfl]
  exact m1

theorem State.Move.armedLawful {s t : State} (h : s.Move t) (hm : s.Mirrored) (hs : s.ArmedLawful) : t.ArmedLawful := by
  cases h with
  | quiet h => exact hs.of_fall h.latches
  | edge g a hg ha =>
    obtain ⟨hr, hl, hp, ho⟩ := (s.laneEdgeTaken_iff a).1 ha
    intro b hb
    refine State.MayArm.modCar ?_ a fun c => ⟨rfl, rfl, rfl⟩
    rw [State.car_modCar] at hb
    split at hb
    · rename_i e
      rw [← e]
      exact ⟨hm.driven_of_resolve hg, hr, hl, ho, .inl hp⟩
    · exact hs b hb
  | bind h a => exact hs.of_fall (.bindCar s h a)
  | unbind h => exact hs.of_fall (.unbindSlot s h)
  | forget a => exact hs.of_fall (.forgetCar s a)
  | commit h a id => exact hs.of_fall (.commit s h a id)
  | reset high =>
    intro a ha
    rw [State.car_releaseReset] at ha
    cases ha

end Sys2Proof.Machine

/-! What each operation of the blocks, each request and each other command does to bindings, identities and latches; O52 to O54. -/

namespace Sys2Proof.Machine

/-! ### The Slot Map and the Link Monitor -/

theorem State.Moves.disarm (s : State) (a : CarIx) : s.Moves (s.disarm a) :=
  .modCar s ⟨rfl, rfl, .of_unarmed _ rfl⟩ rfl

/-- Where every latch is cleared and no binding changes, the part state and the race record may. -/
theorem State.Moves.of_disarmed {s t : State} (hc : ∀ a, (t.car a).holder = (s.car a).holder ∧
    (t.car a).identity = (s.car a).identity ∧ (t.car a).armed = false)
    (hb : ∀ g, (t.slot g).binding = (s.slot g).binding) : s.Moves t :=
  (State.Quiet.mk hb (fun a => (hc a).1) (fun a => (hc a).2.1) (.of_unarmed s fun a => (hc a).2.2)).moves

theorem State.Moves.claimSlot (s : State) (h : Option SlotIx) (c : Option PortIx) : s.Moves (s.claimSlot h c) := by
  unfold State.claimSlot
  split
  · exact .refl s
  · exact .modSlot s rfl

theorem State.Moves.reserve (s : State) (a : CarIx) (p : PortIx) : s.Moves (s.reserve a p) :=
  (State.Quiet.disarmMoved (State.modCar_forall .refl ⟨rfl, rfl, .of_unarmed _ rfl⟩) (by simp)
    fun h => h.congr (by simp)).moves

theorem State.Moves.release (s : State) (a : CarIx) : s.Moves (s.release a) :=
  (State.Quiet.disarmMoved (State.modCar_forall .refl ⟨rfl, rfl, fun h => ⟨h, fun _ => rfl, id⟩⟩) (by simp)
    fun h => h.congr (by simp)).moves

theorem State.Moves.setFallback (s : State) (on : Bool) : s.Moves (s.setFallback on) :=
  (State.Quiet.disarmMoved (s := s) (t := { s with directFallback := on }) (fun _ => .refl _) rfl id).moves

theorem State.Moves.laneEdge (s : State) (g : SlotIx) (lane : Bool) : s.Moves (s.laneEdge g (s.resolve g) lane) := by
  unfold State.laneEdge
  split
  · exact .refl s
  · rename_i a hg
    split
    · rename_i h
      obtain ⟨-, -, ha⟩ := h
      exact (State.Move.edge g a hg ha).moves
    · exact .refl s

/-- A car of which only the link fields change, and not to LOST. -/
theorem Car.Keeps.of_link {c d : Car} (h : d = { c with link := d.link, faults := d.faults, streak := d.streak })
    (hl : c.link ≠ .lost → d.link ≠ .lost) : c.Keeps d := by
  rw [h]
  exact ⟨rfl, rfl, fun ha => ⟨ha, id, hl⟩⟩

theorem linkOf_ne_lost (n : Nat) : linkOf n ≠ .lost := by
  unfold linkOf
  split
  · simp
  · split <;> simp

/-- A car whose link is reset (R61, R62). -/
theorem State.Moves.linkReset (s : State) (a : CarIx) : s.Moves (s.modCar a Car.linkReset) :=
  .modCar s (.of_link rfl fun _ => by simp [Car.linkReset]) rfl

theorem State.Moves.notifyCar (s : State) (n : Notice) (a : CarIx) : s.Moves (s.notifyCar n a) := .untouched

theorem State.Moves.loseLink (s : State) (a : CarIx) : s.Moves (s.loseLink a) := by
  have h : s.Moves (s.modCar a fun c => { c with link := .lost, faults := 255, streak := 0, armed := false }) :=
    .modCar s ⟨rfl, rfl, .of_unarmed _ rfl⟩ rfl
  exact h.trans (.notifyCar _ _ _)

theorem State.Moves.setFaults (s : State) (a : CarIx) (n : Nat) : s.Moves (s.setFaults a n) := by
  have h : s.Moves (s.modCar a fun c => { c with faults := n, link := linkOf n }) :=
    .modCar s (.of_link rfl fun _ => linkOf_ne_lost n) rfl
  unfold State.setFaults
  dsimp only
  split
  · exact h.trans .untouched
  · exact h

theorem State.Moves.lostResult (s : State) (a : CarIx) (answered : Bool) : s.Moves (s.lostResult a answered) := by
  unfold State.lostResult
  split
  · split
    · exact (State.Moves.linkReset s a).trans (.notifyCar _ _ _)
    · exact .modCar s (.of_link rfl id) rfl
  · exact .modCar s (.of_link rfl id) rfl

theorem State.Moves.linkResult (s : State) (a : CarIx) (answered : Bool) : s.Moves (s.linkResult a answered) := by
  unfold State.linkResult
  split
  · exact .lostResult s a answered
  · split
    · exact .setFaults s a _
    · split
      · exact .loseLink s a
      · exact .setFaults s a _

/-! ### The sessions -/

theorem State.Moves.releaseSession (s : State) (p : PortIx) (x : Session) : s.Moves (s.releaseSession p x) := by
  have h : s.Moves ((s.removeSequence p).abandonWindows p) := .untouched
  unfold State.releaseSession
  dsimp only
  generalize (s.removeSequence p).abandonWindows p = u at h
  split
  · exact h.trans (.claimSlot _ _ _)
  · split
    · exact (h.trans (.release u _)).trans (.claimSlot _ _ _)
    · exact h.trans (.claimSlot _ _ _)

theorem State.Moves.failSession (s : State) (p : PortIx) (x : Session) (why : SessionOutcome) :
    s.Moves (s.failSession p x why) := by
  have h := State.Moves.releaseSession s p x
  unfold State.failSession
  generalize s.releaseSession p x = u at h
  exact h.trans .untouched

theorem State.Moves.abortSession (s : State) (p : PortIx) : s.Moves (s.abortSession p) := by
  unfold State.abortSession
  split
  · exact .refl s
  · rename_i x _
    split
    · have h := State.Moves.releaseSession s p x
      generalize s.releaseSession p x = u at h
      exact h.trans .untouched
    · exact .untouched

theorem State.Moves.openSession (s : State) (p : PortIx) (old : SessionState) (h : Option SlotIx) (ms : Nat) :
    s.Moves (s.openSession p old h ms) := by
  have k := State.Moves.claimSlot s h (some p)
  unfold State.openSession
  generalize s.claimSlot h (some p) = u at k
  exact k.trans .untouched

theorem State.Moves.fillSession (s : State) (p : PortIx) (x : Session) : s.Moves (s.fillSession p x) := by
  have h : s.Moves (s.setSession p (some x)) := .untouched
  unfold State.fillSession State.lookup
  dsimp only
  generalize s.setSession p (some x) = u at h
  have hf : ∀ why, s.Moves (u.failSession p x why) := fun why => h.trans (.failSession u p x why)
  have hr : ∀ a, s.Moves (u.reserveFor p x a) := fun a => by
    have k := h.trans (.reserve u a p)
    unfold State.reserveFor
    generalize u.reserve a p = v at k
    exact k.trans .untouched
  split
  · split
    · exact hf _
    · split
      · split
        · exact hf _
        · exact hr _
      · split
        · exact hf _
        · exact hr _
  · exact h

theorem State.Moves.takeIdentity (s : State) (p : PortIx) (id : Identity) : s.Moves (s.takeIdentity p id) := by
  unfold State.takeIdentity
  split
  · exact .refl s
  · split
    · exact .fillSession s p _
    · exact .refl s

theorem State.Moves.gesture (s : State) (h : SlotIx) : s.Moves (s.gesture h) := by
  unfold State.gesture
  split
  · exact .refl s
  · split
    · unfold State.joinSession
      split
      · exact .refl s
      · exact (State.Moves.claimSlot s _ _).trans (.fillSession _ _ _)
    · unfold State.openDefault
      split
      · exact .refl s
      · split
        · exact .refl s
        · split
          · exact .refl s
          · exact .openSession s _ _ _ _

theorem State.Moves.pairEdge (s : State) (h : SlotIx) (pair : Bool) : s.Moves (s.pairEdge h pair) := by
  unfold State.pairEdge
  split
  · exact .gesture s h
  · exact .refl s

theorem State.Moves.commitSession (s : State) (p : PortIx) (x : Session) (h : SlotIx) (a : CarIx) (id : Identity) :
    s.Moves (s.commitSession p x h a id) := by
  have k := (State.Move.commit (s := s) h a id).moves.trans (.claimSlot _ (some h) none)
  unfold State.commitSession
  generalize (s.commit h a id).claimSlot (some h) none = u at k
  exact k.trans .untouched

theorem State.Moves.assignResult (s : State) (p : PortIx) (answered : Bool) : s.Moves (s.assignResult p answered) := by
  unfold State.assignResult
  split
  · exact .refl s
  · split
    · split
      · split
        · exact .commitSession s _ _ _ _ _
        · exact .refl s
      · unfold State.silentAttempt
        dsimp only
        split
        · exact .untouched
        · exact .failSession s _ _ _
    · exact .refl s

/-! ### The requests -/

theorem reqStatus_moves (s : State) (b : Bool) : s.Moves (reqStatus b s).1 := by
  cases b
  · exact .refl s
  · exact .untouched rfl rfl rfl ⟨rfl, rfl, rfl⟩

theorem reqPortRole_moves (s : State) (port : BitVec 8) (role : BitVec 4) : s.Moves (reqPortRole port role s).1 := by
  unfold reqPortRole
  split
  · rename_i p r _ _
    split
    · exact .refl s
    · split
      · exact .refl s
      · have h : s.Moves (s.abandon p) := .untouched
        have k := h.trans (.abortSession _ p)
        show s.Moves (s.writeRole p r)
        unfold State.writeRole
        dsimp only
        generalize (s.abandon p).abortSession p = u at k
        exact k.trans .untouched
  · exact .refl s

theorem reqPortMask_moves (s : State) (port : BitVec 8) (m : Bool) : s.Moves (reqPortMask port m s).1 := by
  unfold reqPortMask
  split
  · exact .refl s
  · split <;> exact .untouched

theorem reqSectionWrite_moves (s : State) (port zone : BitVec 4) (cap hold g f : BitVec 8) (th : Word16) :
    s.Moves (reqSectionWrite port zone cap hold g f th s).1 := by
  unfold reqSectionWrite
  split
  · dsimp only
    split <;> exact .untouched
  · exact .refl s

theorem reqSectionRead_moves (s : State) (port : BitVec 8) : s.Moves (reqSectionRead port s).1 := by
  unfold reqSectionRead
  split <;> exact .refl s

theorem reqSectionCounts_moves (s : State) (port : BitVec 8) (page : BitVec 2) (e : Bool) :
    s.Moves (reqSectionCounts port page e s).1 := by
  unfold reqSectionCounts
  split
  · exact .refl s
  · split
    · exact .refl s
    · cases e <;> exact .untouched

theorem reqSectionClear_moves (s : State) (port : BitVec 8) : s.Moves (reqSectionClear port s).1 := by
  unfold reqSectionClear
  split
  · exact .refl s
  · split
    · exact .refl s
    · split <;> exact .untouched

theorem reqZoneWrite_moves (s : State) (zone capacity : BitVec 8) : s.Moves (reqZoneWrite zone capacity s).1 := by
  unfold reqZoneWrite
  split <;> exact .untouched

theorem reqZoneRead_moves (s : State) (zone : BitVec 8) (page : BitVec 2) : s.Moves (reqZoneRead zone page s).1 := by
  unfold reqZoneRead
  split
  · exact .refl s
  · split <;> exact .refl s

theorem reqCurveWrite_moves (s : State) (curve point : BitVec 4) (v : BitVec 8) :
    s.Moves (reqCurveWrite curve point v s).1 := by
  unfold reqCurveWrite
  split
  · exact .untouched rfl rfl rfl ⟨rfl, rfl, rfl⟩
  · exact .refl s

theorem reqCurveRead_moves (s : State) (curve half : BitVec 4) : s.Moves (reqCurveRead curve half s).1 := by
  unfold reqCurveRead
  split
  · exact .refl s
  · split <;> exact .refl s

theorem reqCarWrite_moves (s : State) (addr limit : BitVec 8) (curve : BitVec 4) (up down : BitVec 8) :
    s.Moves (reqCarWrite addr limit curve up down s).1 := by
  unfold reqCarWrite
  split
  · exact .modCar s ⟨rfl, rfl, fun h => ⟨h, id, id⟩⟩ rfl
  · exact .refl s

theorem reqCarRead_moves (s : State) (addr : BitVec 8) : s.Moves (reqCarRead addr s).1 := by
  unfold reqCarRead
  split <;> exact .refl s

theorem reqCarIdentity_moves (s : State) (addr : BitVec 8) : s.Moves (reqCarIdentity addr s).1 := by
  unfold reqCarIdentity
  split
  · exact .refl s
  · split <;> exact .refl s

theorem reqBind_moves (s : State) (slot addr : BitVec 8) : s.Moves (reqBind slot addr s).1 := by
  unfold reqBind
  split
  · rename_i h a _ _
    split
    · exact .refl s
    · exact (State.Move.bind h a).moves
  · exact .refl s

theorem reqUnbind_moves (s : State) (slot : BitVec 8) : s.Moves (reqUnbind slot s).1 := by
  unfold reqUnbind
  split
  · exact .refl s
  · rename_i h _
    split
    · exact .refl s
    · exact (State.Move.unbind h).moves

theorem reqForget_moves (s : State) (addr : BitVec 8) : s.Moves (reqForget addr s).1 := by
  unfold reqForget
  split
  · exact .refl s
  · rename_i a _
    split
    · exact .refl s
    · exact (State.Move.forget a).moves

theorem reqPairOpen_moves (s : State) (port slot window : BitVec 8) : s.Moves (reqPairOpen port slot window s).1 := by
  unfold reqPairOpen
  split
  · split
    · exact .refl s
    · split
      · exact .refl s
      · split
        · exact .refl s
        · split
          · exact .refl s
          · exact .openSession s _ _ _ _
  · exact .refl s

theorem reqPairCancel_moves (s : State) (port : BitVec 8) : s.Moves (reqPairCancel port s).1 := by
  unfold reqPairCancel
  split
  · exact .refl s
  · split
    · exact .refl s
    · split
      · exact .failSession s _ _ _
      · exact .refl s

theorem reqPairRead_moves (s : State) (port : BitVec 8) (page : BitVec 2) : s.Moves (reqPairRead port page s).1 := by
  unfold reqPairRead
  split
  · exact .refl s
  · split
    · exact .refl s
    · split
      · exact .refl s
      · split
        · exact .refl s
        · split <;> exact .refl s

theorem reqRevive_moves (s : State) (addr : BitVec 8) : s.Moves (reqRevive addr s).1 := by
  unfold reqRevive
  split
  · exact .refl s
  · exact .linkReset s _

theorem reqMode_moves (s : State) (w v on : Bool) (bay : BitVec 8) : s.Moves (reqMode w v on bay s).1 := by
  have hm : ∀ b, s.Moves (s.writeMode w v on b) := fun b => by
    have h : s.Moves (if w then s.setFallback on else s) := by
      split
      · exact .setFallback s on
      · exact .refl s
    unfold State.writeMode
    dsimp only
    generalize (if w then s.setFallback on else s) = u at h
    split
    · exact h.trans (.untouched rfl rfl rfl ⟨rfl, rfl, rfl⟩)
    · exact h
  unfold reqMode
  split
  · exact .refl s
  · split
    · exact .refl s
    · exact hm _

/-- REST may be taken in RUN alone, and a latch can stand on through it (R118, R145). -/
theorem State.Moves.enterRest (s : State) : s.Moves s.enterRest := by
  have hc : ∀ a, s.enterRest.car a = { s.car a with fine := 0 } := fun a => by
    show ((s.mapPorts Port.rest).zeroFine).car a = _
    unfold State.zeroFine
    rw [State.car_mapCars]
    simp
  refine (State.Quiet.of_cars (fun a => ?_) (fun a => by rw [hc]) (by simp) (by simp) fun h => ?_).moves
  · rw [hc]; exact ⟨rfl, rfl, .refl _⟩
  · exact ⟨by simpa [State.laneOpen] using h.1, .inr (.inl rfl)⟩

theorem State.Moves.beginWake (s : State) : s.Moves s.beginWake :=
  (State.Quiet.of_cars (fun a => by simpa using Car.Keeps.refl _) (by simp) (by simp) (by simp) fun h =>
    ⟨by simpa [State.laneOpen] using h.1, .inr (.inr rfl)⟩).moves

theorem reqRest_moves (s : State) : s.Moves (reqRest s).1 := by
  unfold reqRest
  split
  · exact .enterRest s
  · exact .refl s

theorem reqWake_moves (s : State) : s.Moves (reqWake s).1 := by
  unfold reqWake
  dsimp only
  split
  · exact .beginWake s
  · exact .refl s

theorem State.slot_softReset (s : State) (g : SlotIx) : s.softReset.slot g = { s.slot g with claim := none } := by
  simp [State.softReset, State.softResetTables]

/-- A soft reset clears every latch and keeps bindings and identities (R43, R150). -/
theorem State.Moves.softReset (s : State) : s.Moves s.softReset :=
  .of_disarmed (fun a => by rw [State.softReset_car]; exact ⟨rfl, rfl, rfl⟩) fun g => by rw [State.slot_softReset]

/-- Every request (R157). -/
theorem requestBody_moves (s : State) (code : Nat) (arg : BitVec 8) (d1 d2 d3 : Word16) :
    s.Moves (requestBody code arg d1 d2 d3 s).1 := by
  unfold requestBody
  split
  · exact .refl s
  · exact reqStatus_moves s _
  · exact .untouched rfl rfl rfl ⟨rfl, rfl, rfl⟩
  · exact .untouched rfl rfl rfl ⟨rfl, rfl, rfl⟩
  · exact reqPortRole_moves s _ _
  · exact reqPortMask_moves s _ _
  · exact reqSectionWrite_moves s _ _ _ _ _ _ _
  · exact reqSectionRead_moves s _
  · exact reqSectionCounts_moves s _ _ _
  · exact reqSectionClear_moves s _
  · exact reqZoneWrite_moves s _ _
  · exact reqZoneRead_moves s _ _
  · exact reqCurveWrite_moves s _ _ _
  · exact reqCurveRead_moves s _ _
  · exact reqCarWrite_moves s _ _ _ _ _
  · exact reqCarRead_moves s _
  · exact reqCarIdentity_moves s _
  · exact reqBind_moves s _ _
  · exact reqUnbind_moves s _
  · exact reqForget_moves s _
  · exact reqPairOpen_moves s _ _ _
  · exact reqPairCancel_moves s _
  · exact reqPairRead_moves s _ _
  · exact reqRevive_moves s _
  · exact .untouched rfl rfl rfl ⟨rfl, rfl, rfl⟩
  · exact reqMode_moves s _ _ _ _
  · exact reqRest_moves s
  · exact reqWake_moves s
  · exact .softReset s
  · exact .refl s

end Sys2Proof.Machine

/-! What each upstream frame, module message, expiry and reset does to bindings, identities and latches, and the three laws that
every step keeps; O52 to O54. -/

namespace Sys2Proof.Machine

/-! ### The Management Unit and the upstream frames -/

theorem State.Moves.respond (s : State) (code : BitVec 6) {f : State → Answer} (hf : s.Moves (f s).1) :
    s.Moves (s.respond code f) := by
  unfold State.respond
  split
  · exact .untouched
  · exact hf.trans .untouched

theorem State.Moves.complete (s : State) (r : Assembly) : s.Moves (s.complete r) := by
  unfold State.complete
  split
  · exact .untouched
  · split
    · exact .untouched
    · split
      · exact .untouched
      · exact .respond s _ (requestBody_moves s _ _ _ _ _)

theorem State.Moves.freePosition (s : State) : s.Moves s.freePosition := .untouched

theorem State.Moves.completeAtPosition (s : State) (r : Assembly) : s.Moves (s.completeAtPosition r) := by
  have h1 : s.Moves { s with free := s.free + 1 } := .untouched rfl rfl rfl ⟨rfl, rfl, rfl⟩
  unfold State.completeAtPosition
  split
  · exact (State.Moves.freePosition s).trans (.complete _ r)
  · dsimp only
    split
    · exact (h1.trans (.complete _ r)).trans (.freePosition _)
    · exact (h1.trans (.freePosition _)).trans (.complete _ r)

theorem State.Moves.arriveOther (s : State) : s.Moves s.arriveOther := .untouched

theorem State.Moves.discardFrame (s : State) : s.Moves s.discardFrame :=
  (State.Moves.arriveOther s).trans (.freePosition _)

theorem State.Moves.frameError (s : State) : s.Moves s.frameError := by
  have h : s.Moves (State.notify { s with frameErrors := raise16 s.frameErrors } .frameErrors) :=
    .untouched rfl rfl rfl ⟨rfl, rfl, rfl⟩
  exact h.trans (.discardFrame _)

theorem State.Moves.kindError (s : State) : s.Moves s.kindError := by
  have h : s.Moves (State.notify { s with kindErrors := raise16 s.kindErrors } .frameErrors) :=
    .untouched rfl rfl rfl ⟨rfl, rfl, rfl⟩
  exact h.trans (.discardFrame _)

/-- A race record that does not read GREEN with lane changes enabled clears every latch (R33, R140). -/
theorem State.Moves.writeRace (s : State) (race : RaceState) (e : Bool) : s.Moves (s.writeRace race e) := by
  unfold State.writeRace
  dsimp only
  split
  · rename_i ho
    exact (State.Quiet.of_cars (s := s) (t := { s with race := race, laneEnable := e }) (fun _ => .refl _) (fun _ => rfl)
      (fun _ => rfl) rfl fun hs => ⟨ho, hs.2⟩).moves
  · exact .of_disarmed (fun a => by rw [State.disarmAll, State.car_mapCars]; exact ⟨rfl, rfl, rfl⟩) fun g => by simp

/-- The part states that a CYCLE frame leaves can be left with a latch that stands only for such ones (R118, R142, R147). -/
theorem State.Moves.cycleRun (s : State) : s.Moves s.cycleRun := by
  unfold State.cycleRun
  split
  · exact .untouched
  · rename_i hp
    exact (State.Quiet.of_cars (fun a => by simpa using Car.Keeps.refl _) (by simp) (by simp) (by simp) fun hs => by
      simp [State.Standing, hp] at hs).moves
  · exact .beginWake s
  · exact .refl s
  · exact .refl s

theorem State.Moves.cycleFrame (s : State) (race : RaceState) (e : Bool) (b : BitVec 13) :
    s.Moves (s.cycleFrame race e b) := by
  have h : s.Moves (s.arrive.cycleWindow.position (.frame (.cycle race e b))) := .untouched
  exact (h.trans (.writeRace _ race e)).trans (.cycleRun _)

theorem State.Moves.writeFlags (s : State) (h : SlotIx) (lane pair : Bool) : s.Moves (s.writeFlags h lane pair) :=
  .modSlot s rfl

theorem State.Moves.driveOut (s : State) (a : Option CarIx) (t : Nat) (brake : Bool) : s.Moves (s.driveOut a t brake) := by
  unfold State.driveOut
  split
  · exact .untouched
  · rename_i a
    have h : s.Moves (s.shape a t brake) := .modCar s ⟨rfl, rfl, .refl _⟩ rfl
    exact h.trans .untouched

theorem State.Moves.driveFrame (s : State) (slot : BitVec 5) (t : BitVec 6) (b l p : Bool) :
    s.Moves (s.driveFrame slot t b l p) := by
  unfold State.driveFrame
  split
  · exact .frameError s
  · rename_i h _
    split
    · exact .arriveOther s
    · exact ((((State.Moves.arriveOther s).trans (.laneEdge _ h l)).trans (.pairEdge _ h p)).trans
        (.writeFlags _ h l p)).trans (.driveOut _ _ _ b)

theorem State.Moves.withAssembly (s : State) (r : Option Assembly) : s.Moves { s with assembly := r } :=
  .untouched rfl rfl rfl ⟨rfl, rfl, rfl⟩

theorem State.Moves.beginRequest (s : State) (r : Assembly) : s.Moves (s.beginRequest r) := by
  unfold State.beginRequest
  split
  · exact .completeAtPosition s r
  · exact (State.Moves.withAssembly s _).trans (.freePosition _)

theorem State.Moves.dataFrame (s : State) (w : Word16) : s.Moves (s.dataFrame w) := by
  unfold State.dataFrame
  split
  · exact .freePosition s
  · dsimp only
    split
    · exact (State.Moves.withAssembly s _).trans (.completeAtPosition _ _)
    · exact (State.Moves.withAssembly s _).trans (.freePosition _)

/-! ### The answer windows -/

theorem State.Moves.closeWindow {s t : State} {f : AnswerWindow → Bool} {w : AnswerWindow}
    (h : s.closeWindow f = some (w, t)) : s.Moves t := by
  obtain ⟨-, -, ht⟩ := State.closeWindow_eq_some h
  exact .untouched (by rw [ht]) (by rw [ht]) (by rw [ht]) (by rw [ht]; exact ⟨rfl, rfl, rfl⟩)

theorem State.Moves.closeCarAddress (s : State) (address : BitVec 5) (answered : Bool) :
    s.Moves (s.closeCarAddress address answered) := by
  unfold State.closeCarAddress State.closeCarWindow
  split
  · exact .refl s
  · split
    · exact .refl s
    · rename_i h
      exact (State.Moves.closeWindow h).trans (.linkResult _ _ _)

theorem State.Moves.closeAssignWindow (s : State) (p : PortIx) (answered : Bool) :
    s.Moves (s.closeAssignWindow p answered) := by
  unfold State.closeAssignWindow
  split
  · exact .refl s
  · rename_i h
    split
    · exact (State.Moves.closeWindow h).trans (.assignResult _ _ _)
    · exact .closeWindow h

/-! ### The module messages -/

theorem State.Moves.onMessage (s : State) (p : PortIx) {f : State → State} (hf : ∀ u : State, u.Moves (f u)) :
    s.Moves (s.onMessage p f) := by
  have h : s.Moves (s.modPort p fun q => { q with moduleSending := false }) := .untouched
  unfold State.onMessage
  split
  · exact .refl s
  · exact h.trans (hf _)

theorem State.Moves.portError (s : State) (p : PortIx) : s.Moves (s.portError p) := .untouched

theorem State.Moves.readerMessage (s : State) (p : PortIx) {f : State → State} (hf : ∀ u : State, u.Moves (f u)) :
    s.Moves (s.readerMessage p f) :=
  .onMessage s p fun u => by
    split
    · exact hf u
    · exact hf u
    · exact .portError u p
    · exact .refl u

theorem State.Moves.roleMessage (s : State) (p : PortIx) (role : Role) {f : State → State}
    (hf : ∀ u : State, u.Moves (f u)) : s.Moves (s.roleMessage p role f) :=
  .onMessage s p fun u => by
    split
    · exact hf u
    · split
      · exact .refl u
      · exact .portError u p

theorem State.Moves.flapMessage (s : State) (p : PortIx) (ends : Bool) {f : State → State}
    (hf : ∀ u : State, u.Moves (f u)) : s.Moves (s.flapMessage p ends f) := by
  unfold State.flapMessage
  split
  · exact .onMessage s p fun u => .untouched
  · refine .roleMessage s p .switch fun u => ?_
    split
    · exact hf u
    · exact .refl u

theorem State.Moves.approach (s : State) (p : PortIx) (code : BitVec 5) : s.Moves (s.approach p code) := by
  unfold State.approach
  split
  · rename_i a _ _
    have h := State.Moves.disarm s a
    unfold State.grantCar
    dsimp only
    generalize s.disarm a = u at h
    exact h.trans .untouched
  · exact .refl s
  · exact .untouched
  · exact .untouched

theorem State.Moves.takeSelfThrow (s : State) (p : PortIx) (code : BitVec 5) : s.Moves (s.takeSelfThrow p code) := by
  have h0 : s.Moves (s.countThrow p) := .untouched
  have h1 : ∀ (u : State) c, u.Moves (u.selfThrowCar p c) := fun u c => by
    unfold State.selfThrowCar
    split
    · exact .refl u
    · rename_i a
      have h : u.Moves (u.supersede a p) := .untouched
      split
      · exact h.trans (.disarm _ a)
      · exact h
  have h := h0.trans (h1 _ (carOf code.toNat))
  unfold State.takeSelfThrow
  dsimp only
  generalize (s.countThrow p).selfThrowCar p (carOf code.toNat) = u at h
  exact h.trans .untouched

/-! ### The expiries and the resets -/

theorem State.Moves.expire (s : State) (due : Option Nat) {f : State → State} (hf : s.Moves (f s)) :
    s.Moves (s.expire due f) :=
  State.expire_induct (P := fun t => s.Moves t) (.refl s) fun _ _ _ => hf

/-- The part enters RUN: a latch that stands goes on to do so. -/
theorem State.Moves.enterRun {s t : State} (hc : t.cars = s.cars) (hb : t.slots = s.slots)
    (hf : t.directFallback = s.directFallback) (hr : t.race = s.race ∧ t.laneEnable = s.laneEnable) : s.Moves t.enterRun :=
  (State.Quiet.of_cars (fun a => by simpa [hc] using Car.Keeps.refl _) (by simp [hc]) (by simp [hb]) (by simp [hf]) fun hs =>
    ⟨by simpa [State.laneOpen, hr] using hs.1, .inl rfl⟩).moves

theorem State.Moves.enterHalt (s : State) : s.Moves s.enterHalt := by
  have hc : ∀ a, s.enterHalt.car a = { s.car a with armed := false, fine := 0 } := fun a => by
    simp [State.enterHalt, State.disarmAll, State.zeroFine]
  exact .of_disarmed (fun a => by rw [hc]; exact ⟨rfl, rfl, rfl⟩) fun g => by simp

theorem State.Moves.startUpSettled (s : State) : s.Moves (s.startUpSettled) := by
  unfold State.startUpSettled
  refine .expire s _ ?_
  split
  · exact .enterRun rfl rfl rfl ⟨rfl, rfl⟩
  · exact .refl s

theorem State.Moves.wakeSettled (s : State) : s.Moves (s.wakeSettled) := by
  unfold State.wakeSettled
  refine .expire s _ ?_
  split
  · exact .enterRun rfl rfl rfl ⟨rfl, rfl⟩
  · exact .refl s

theorem State.Moves.silenceExpires (s : State) : s.Moves (s.silenceExpires) := by
  unfold State.silenceExpires
  refine .expire s _ ?_
  split
  · exact .enterHalt s
  · exact .refl s

theorem State.Moves.ownCycleExpires (s : State) : s.Moves (s.ownCycleExpires) := by
  unfold State.ownCycleExpires
  refine .expire s _ ?_
  split
  · have h : s.Moves { s with ownCycleDue := s.ownCycleDue.map (· + 20) } := .untouched rfl rfl rfl ⟨rfl, rfl, rfl⟩
    exact h.trans .untouched
  · exact .refl s

theorem State.Moves.resetExpires (s : State) (p : PortIx) : s.Moves (s.resetExpires p) := by
  unfold State.resetExpires
  refine .expire s _ ?_
  split
  · exact .untouched
  · exact .refl s

theorem State.Moves.flapExpires (s : State) (p : PortIx) : s.Moves (s.flapExpires p) := by
  unfold State.flapExpires
  refine .expire s _ ?_
  split
  · exact .untouched
  · exact .refl s

theorem State.Moves.windowExpires (s : State) (p : PortIx) : s.Moves (s.windowExpires p) := by
  unfold State.windowExpires
  split
  · exact .refl s
  · refine .expire s _ ?_
    split
    · exact .failSession s _ _ _
    · exact .refl s

theorem State.Moves.showExpires (s : State) (p : PortIx) : s.Moves (s.showExpires p) := by
  unfold State.showExpires
  split
  · exact .refl s
  · refine .expire s _ ?_
    split
    · exact .untouched
    · exact .refl s

theorem State.Moves.entryExpires (s : State) (z : ZoneIx) (k : Nat) : s.Moves (s.entryExpires z k) := by
  unfold State.entryExpires
  split
  · exact .refl s
  · exact .expire s _ .untouched

theorem State.Moves.guardExpires (s : State) (z : ZoneIx) : s.Moves (s.guardExpires z) := by
  unfold State.guardExpires
  split
  · exact .refl s
  · exact .expire s _ .untouched

theorem State.Moves.holdReset (s : State) (cause : Cause) : s.Moves (s.holdReset cause) :=
  .untouched (by simp [State.holdReset]) (by simp [State.holdReset]) (by simp [State.holdReset]) (by simp [State.holdReset])

theorem State.Moves.idle (s : State) : s.Moves s.idle := by
  unfold State.idle
  split
  · exact .refl s
  · rw [s.tick_same]
    exact .untouched rfl rfl rfl ⟨rfl, rfl, rfl⟩

/-- What every effect does. -/
theorem effect_moves (c : Instr) (s : State) : s.Moves (effect c s) := by
  cases c with
  | cycleFrame race e b => exact .cycleFrame s race e b
  | driveFrame slot t b l p => exact .driveFrame s slot t b l p
  | headFrame code count arg => exact (State.Moves.arriveOther s).trans (.beginRequest _ _)
  | dataFrame w =>
    have h : s.Moves s.arrive := .untouched
    exact h.trans (.dataFrame _ w)
  | fillFrame =>
    show s.Moves s.arriveOther.freePosition
    exact .untouched
  | auxFrame k b =>
    show s.Moves (s.arriveOther.position (.frame (.aux k b)))
    exact .untouched
  | frameError => exact .frameError s
  | kindError => exact .kindError s
  | frameBrokenOff => exact .frameError s
  | carAnswerWindowClose address answered => exact .closeCarAddress s address answered
  | assignAnswerWindowClose p answered => exact .closeAssignWindow s p answered
  | railOutputFree =>
    show s.Moves s.railFree
    exact .untouched
  | insertionQueuePlace =>
    show s.Moves s.queuePlace
    exact .untouched
  | hello p k b =>
    show s.Moves (s.onMessage p fun u => u.takeHello p k b)
    exact .onMessage s p fun u => .untouched
  | approach p code =>
    refine .readerMessage s p fun u => ?_
    split
    · exact .approach u p code
    · exact .refl u
  | guard p code => exact .readerMessage s p fun u => .untouched
  | exitCross p code => exact .readerMessage s p fun u => .untouched
  | exitStraight p code => exact .readerMessage s p fun u => .untouched
  | ready p b => exact .flapMessage s p true fun u => .untouched
  | moving p => exact .flapMessage s p false fun u => .untouched
  | moduleFault p code => exact .flapMessage s p true fun u => .untouched
  | selfThrow p code => exact .roleMessage s p .delegated fun u => .takeSelfThrow u p code
  | identity p id =>
    refine .roleMessage s p .bay fun u => ?_
    split
    · exact .takeIdentity u p id
    · exact .refl u
  | portLineError p => exact .onMessage s p fun u => .portError u p
  | portMessageBrokenOff p => exact .onMessage s p fun u => .portError u p
  | portLineFree p =>
    show s.Moves (s.modPort p fun q => q.lineFree (s.after q.config.flapTimeout))
    exact .untouched
  | flapCommandLeft p =>
    show s.Moves (s.modPort p fun q => q.flapCommandLeft (s.after q.config.flapTimeout))
    exact .untouched
  | startUpSettleExpiry => exact .startUpSettled s
  | wakeSettleExpiry => exact .wakeSettled s
  | silenceDeadlineExpiry => exact .silenceExpires s
  | ownCycleTimerExpiry => exact .ownCycleExpires s
  | resetDeadlineExpiry p => exact .resetExpires s p
  | flapDeadlineExpiry p => exact .flapExpires s p
  | windowDeadlineExpiry p => exact .windowExpires s p
  | showDeadlineExpiry p => exact .showExpires s p
  | entryExpiry z k => exact .entryExpires s z _
  | guardExpiry z => exact .guardExpires s z
  | _ => exact .refl s

/-- What every step does to bindings, identities and latches. -/
theorem step_moves {s t : State} (h : step s = .next t) : s.Moves t :=
  step_keeps (P := fun u => s.Moves u) (fun _ _ hu => hu.trans (.untouched rfl rfl rfl ⟨rfl, rfl, rfl⟩))
    (fun u hu => hu.trans (.idle u))
    (fun _ _ _ hu hx => exec_keeps (P := fun u => s.Moves u) (fun c u _ _ _ hu => hu.trans (effect_moves c u))
      (fun u code n arg d1 d2 d3 _ hu => hu.trans (.respond u code (requestBody_moves u n arg d1 d2 d3)))
      (fun u cause hu => hu.trans (.holdReset u cause)) (fun _ high hu => hu.trans (State.Move.reset high).moves) hu hx)
    h (.refl s)

/-- Settles O52: each change that a command can make keeps the mirror, so every step does. -/
theorem stepsKeepHoldersAndBindingsMirrored : Obligations.StepsKeepHoldersAndBindingsMirrored := by
  unfold Obligations.StepsKeepHoldersAndBindingsMirrored
  intro s t h hm
  exact (step_moves h).keeps (fun _ _ hc => hc.mirrored) hm

/-- Settles O53: an identity is written by the pairing commit alone, which takes it from every other car first. -/
theorem stepsKeepIdentitiesDistinct : Obligations.StepsKeepIdentitiesDistinct := by
  unfold Obligations.StepsKeepIdentitiesDistinct
  intro s t h hd
  exact (step_moves h).keeps (fun _ _ hc => hc.identitiesDistinct) hd

/-- Settles O54: a latch is set by a lane edge alone, of a frame that resolves to the car; the mirror of R24, kept along with the
law, makes that car driven. Every other change clears the latches that the law no longer allows. -/
theorem stepsArmOnlyDrivenCars : Obligations.StepsArmOnlyDrivenCars := by
  unfold Obligations.StepsArmOnlyDrivenCars
  intro s t h hm hs
  have hboth : t.Mirrored ∧ t.ArmedLawful :=
    (step_moves h).keeps (P := fun u => u.Mirrored ∧ u.ArmedLawful)
      (fun _ _ hc hu => ⟨hc.mirrored hu.1, hc.armedLawful hu.1 hu.2⟩) ⟨hm, hs⟩
  exact hboth.2

end Sys2Proof.Machine

/-! What BIND, UNBIND and FORGET make of slots, cars and replies (R36 to R39, R165); O32 and O33. -/

namespace Sys2Proof.Machine

/-! ### A request where requests are taken -/

/-- A request that completes where requests are taken is executed and replies (R153). -/
theorem exec_answered {c : Instr} {code : BitVec 6} {f : State → Answer} {s u : State} {st : Status} {words : List Word16}
    (h : s.TakesRequests) (hc : exec c s = taken s fun s => s.respond code f) (hf : f s = (u, st, words)) :
    exec c s = .next (u.replied code st words) := by
  obtain ⟨h0, hl⟩ := h
  rw [hc, taken_eq_of_free h0, State.respond, if_neg (Nat.not_le.2 hl), hf]
  rfl

theorem slotOf_slotArg (h : SlotIx) : slotOf (slotArg h).toNat = some h := by revert h; decide

theorem carOf_carArg (a : CarIx) : carOf (carArg a).toNat = some a := by revert a; decide

/-! ### The tables alone -/

/-- Two states that differ in the tables alone are the same where the tables are. -/
theorem State.eq_of_tables {s t : State} (h : t = { s with slots := t.slots, cars := t.cars })
    (hs : ∀ g, t.slot g = s.slot g) (hc : ∀ a, t.car a = s.car a) : t = s := by
  have h1 : t.slots = s.slots := Vector.ext fun i hi => by simpa using hs ⟨i, hi⟩
  have h2 : t.cars = s.cars := Vector.ext fun i hi => by simpa using hc ⟨i, hi⟩
  rw [h, h1, h2]

theorem State.bindCar_tables (s : State) (h : SlotIx) (a : CarIx) : s.bindCar h a =
    { s with slots := (s.bindCar h a).slots, cars := (s.bindCar h a).cars } := by
  apply State.ext <;> simp

theorem State.unbindSlot_tables (s : State) (h : SlotIx) : s.unbindSlot h =
    { s with slots := (s.unbindSlot h).slots, cars := (s.unbindSlot h).cars } := by
  apply State.ext <;> simp

theorem State.forgetCar_tables (s : State) (a : CarIx) : s.forgetCar a =
    { s with slots := (s.forgetCar a).slots, cars := (s.forgetCar a).cars } := by
  apply State.ext <;> simp

/-! ### The latches of R36 -/

/-- After R36 the latch of a car that the change before it left alone follows holder and driving slot. -/
theorem State.latchFollows_disarmMoved {s t : State} {b : CarIx} (h : (t.car b).armed = (s.car b).armed) :
    s.LatchFollows (State.disarmMoved s t) b := by
  unfold State.LatchFollows
  rw [State.disarmMoved_drivingSlot, State.disarmMoved_car]
  dsimp only
  rw [h]

/-- What R36 leaves of a car. -/
theorem State.disarmMoved_onlyLatch (s t : State) (b : CarIx) : (State.disarmMoved s t).car b =
    { t.car b with armed := ((State.disarmMoved s t).car b).armed } := by rw [State.disarmMoved_car]

/-- R36 clears no latch where no holder and no driving slot moves. -/
theorem State.disarmMoved_of_unmoved {s t : State} {b : CarIx} (hh : (t.car b).holder = (s.car b).holder)
    (hd : t.drivingSlot b = s.drivingSlot b) : (State.disarmMoved s t).car b = t.car b := by
  rw [State.disarmMoved_car, hh, hd]
  simp [-State.car_eq, ← hh]

/-! ### BIND -/

theorem State.bindCar_slot {s : State} (hm : s.Mirrored) (h g : SlotIx) (a : CarIx) : (s.bindCar h a).slot g =
    { s.slot g with
      binding := if g = h then some a else if (s.slot g).binding = some a then none else (s.slot g).binding } := by
  rw [State.bindCar, State.disarmMoved_slot, State.bindTo_slot hm]

theorem State.bindCar_car {s : State} (hm : s.Mirrored) (h : SlotIx) (a b : CarIx) :
    s.LatchFollows (s.bindCar h a) b ∧ (s.bindCar h a).car b = { s.car b with
      armed := ((s.bindCar h a).car b).armed
      holder := if b = a then some h else if (s.car b).holder = some h then none else (s.car b).holder } := by
  refine ⟨State.latchFollows_disarmMoved (by rw [State.bindTo_onlyHolder]), ?_⟩
  rw [State.bindCar, State.disarmMoved_onlyLatch, State.bindTo_car hm]

/-- The binding that stands already is not changed, nor any latch (R37). -/
theorem State.bindCar_of_bound {s : State} (hm : s.Mirrored) {h : SlotIx} {a : CarIx}
    (hb : (s.slot h).binding = some a) : s.bindCar h a = s := by
  have hh : (s.car a).holder = some h := (hm a h).2 hb
  have hs : ∀ g, (s.bindTo h a).slot g = s.slot g := fun g => by
    rw [State.bindTo_slot hm]
    split
    · rename_i e; rw [e, ← hb]
    · rename_i e
      rw [if_neg (fun k => e (Option.some.inj (((hm a g).2 k).symm.trans hh)))]
  have hc : ∀ b, (s.bindTo h a).car b = s.car b := fun b => by
    rw [State.bindTo_car hm]
    split
    · rename_i e; rw [e, ← hh]
    · rename_i e
      rw [if_neg (fun k => e (Option.some.inj (((hm b h).1 k).symm.trans hb)))]
  refine State.eq_of_tables (s.bindCar_tables h a) (fun g => (State.disarmMoved_slot ..).trans (hs g)) fun b => ?_
  rw [State.bindCar, State.disarmMoved_of_unmoved, hc]
  · rw [hc]
  · exact State.drivingSlot_congr b (by rw [hc]) (by rw [hc]) (by rw [hs]) (by simp)

theorem reqBind_of_unreserved {s : State} (h : SlotIx) {a : CarIx} (hr : (s.car a).reservation = none) :
    reqBind (slotArg h) (carArg a) s = accept (s.bindCar h a) [] := by
  rw [reqBind, slotOf_slotArg, carOf_carArg]
  dsimp only
  rw [if_neg (by rw [hr]; exact Bool.false_ne_true)]

theorem reqBind_of_reserved {s : State} (h : SlotIx) {a : CarIx} (hr : (s.car a).reservation ≠ none) :
    reqBind (slotArg h) (carArg a) s = refuse s .busy := by
  rw [reqBind, slotOf_slotArg, carOf_carArg]
  dsimp only
  rw [if_pos (Option.isSome_iff_ne_none.2 hr)]

/-- Settles O32: an accepted BIND binds slot and car, both lose earlier partners, and R36 decides the latches. -/
theorem bindMovesTheBinding : Obligations.BindMovesTheBinding := by
  unfold Obligations.BindMovesTheBinding
  intro h a s ht hm
  refine ⟨fun hr => exec_answered ht rfl (reqBind_of_reserved h hr), fun hr => ?_⟩
  have hx : exec (.bind (slotArg h) (carArg a)) s = .next ((s.bindCar h a).replied 0x12 .ok []) :=
    exec_answered ht rfl (reqBind_of_unreserved h hr)
  have htab := s.bindCar_tables h a
  have hslot := fun g => State.bindCar_slot hm h g a
  have hcar := State.bindCar_car hm h a
  have hsame := fun hb : (s.slot h).binding = some a => State.bindCar_of_bound hm hb
  generalize s.bindCar h a = t at hx htab hslot hcar hsame
  refine ⟨t.replied 0x12 .ok [], hx, ?_, hslot, hcar, fun hb => by rw [hsame hb]⟩
  conv_lhs => rw [htab]
  rfl

/-! ### UNBIND -/

/-- The cars after a bound slot has lost its binding (R38). -/
theorem State.unbindSlot_car {s : State} (hm : s.Mirrored) {h : SlotIx} {a : CarIx} (hb : (s.slot h).binding = some a)
    (b : CarIx) : s.LatchFollows (s.unbindSlot h) b ∧ (s.unbindSlot h).car b = { s.car b with
      armed := ((s.unbindSlot h).car b).armed, holder := if b = a then none else (s.car b).holder } := by
  refine ⟨State.latchFollows_disarmMoved (by rw [State.dropBinding_onlyHolder]), ?_⟩
  have hab : (s.car b).holder = some h ↔ b = a := by
    rw [hm b h, hb, Option.some.injEq, eq_comm]
  rw [State.unbindSlot, State.disarmMoved_onlyLatch, State.dropBinding_car hm]
  simp only [hab]

/-! ### FORGET -/

/-- Whether a car stands in an entry of any crossing list (R39, R131). -/
theorem State.crossing_iff (s : State) (a : CarIx) :
    s.crossing a = true ↔ ∃ z, ∃ e ∈ (s.zone z).entries, e.car = some a := by
  simp [State.crossing, List.any_eq_true]

theorem State.forgetCar_of_free {s : State} {a : CarIx} (h : (s.car a).tenure = .free) : s.forgetCar a = s :=
  if_pos h

theorem State.forgetCar_of_not_free {s : State} {a : CarIx} (h : (s.car a).tenure ≠ .free) : s.forgetCar a =
    s.disarmMoved ((s.dropHolder a).modCar a fun c => { c with identity := none, armed := false }) :=
  if_neg h

/-- The slots after a car that is not FREE is forgotten (R39). -/
theorem State.forgetCar_slot {s : State} (hm : s.Mirrored) {a : CarIx} (h : (s.car a).tenure ≠ .free) (g : SlotIx) :
    (s.forgetCar a).slot g = { s.slot g with
      binding := if (s.slot g).binding = some a then none else (s.slot g).binding } := by
  rw [State.forgetCar_of_not_free h, State.disarmMoved_slot, State.slot_modCar, State.dropHolder_slot hm]

/-- The forgotten car (R39). -/
theorem State.forgetCar_car {s : State} {a : CarIx} (h : (s.car a).tenure ≠ .free) :
    (s.forgetCar a).car a = { s.car a with holder := none, identity := none, armed := false } := by
  rw [State.forgetCar_of_not_free h, State.disarmMoved_car, State.car_modCar, if_pos rfl, State.dropHolder_car, if_pos rfl]
  simp

/-- The other cars after a car is forgotten (R36, R39). -/
theorem State.forgetCar_other {s : State} {a b : CarIx} (h : (s.car a).tenure ≠ .free) (hb : b ≠ a) :
    s.LatchFollows (s.forgetCar a) b ∧ (s.forgetCar a).car b = { s.car b with armed := ((s.forgetCar a).car b).armed } := by
  have hu : ((s.dropHolder a).modCar a fun c => { c with identity := none, armed := false }).car b = s.car b := by
    rw [State.car_modCar, if_neg (Ne.symm hb), State.dropHolder_car, if_neg hb]
  rw [State.forgetCar_of_not_free h]
  refine ⟨State.latchFollows_disarmMoved (by rw [hu]), ?_⟩
  rw [State.disarmMoved_onlyLatch, hu]

theorem reqUnbind_of_unbound {s : State} {h : SlotIx} (hb : (s.slot h).binding = none) :
    reqUnbind (slotArg h) s = refuse s .notFound := by
  rw [reqUnbind, slotOf_slotArg]
  dsimp only
  rw [if_pos (Option.isNone_iff_eq_none.2 hb)]

theorem reqUnbind_of_bound {s : State} {h : SlotIx} {a : CarIx} (hb : (s.slot h).binding = some a) :
    reqUnbind (slotArg h) s = accept (s.unbindSlot h) [] := by
  rw [reqUnbind, slotOf_slotArg]
  dsimp only
  rw [if_neg (by rw [hb]; exact Bool.false_ne_true)]

/-- A reserved car, or one that crosses, is not forgotten (R39). -/
theorem reqForget_of_busy {s : State} {a : CarIx}
    (h : (s.car a).reservation ≠ none ∨ ∃ z, ∃ e ∈ (s.zone z).entries, e.car = some a) :
    reqForget (carArg a) s = refuse s .busy := by
  rw [reqForget, carOf_carArg]
  dsimp only
  rw [if_pos (h.imp Option.isSome_iff_ne_none.2 (s.crossing_iff a).2)]

theorem reqForget_of_free {s : State} {a : CarIx} (hr : (s.car a).reservation = none)
    (hc : ∀ z, ∀ e ∈ (s.zone z).entries, e.car ≠ some a) : reqForget (carArg a) s = accept (s.forgetCar a) [] := by
  rw [reqForget, carOf_carArg]
  dsimp only
  rw [if_neg]
  rintro (h | h)
  · rw [hr] at h; cases h
  · obtain ⟨z, e, he, hea⟩ := (s.crossing_iff a).1 h
    exact hc z e he hea

/-- An accepted UNBIND (R38). -/
theorem exec_unbind_of_bound {s : State} (ht : s.TakesRequests) (hm : s.Mirrored) {h : SlotIx} {a : CarIx}
    (hb : (s.slot h).binding = some a) : ∃ t, exec (.unbind (slotArg h)) s = .next t ∧
      t = { s.replied 0x13 .ok [] with slots := t.slots, cars := t.cars } ∧
      (∀ g, t.slot g = { s.slot g with binding := if g = h then none else (s.slot g).binding }) ∧
      ∀ b, s.LatchFollows t b ∧ t.car b = { s.car b with
        armed := (t.car b).armed, holder := if b = a then none else (s.car b).holder } := by
  have hx : exec (.unbind (slotArg h)) s = .next ((s.unbindSlot h).replied 0x13 .ok []) :=
    exec_answered ht rfl (reqUnbind_of_bound hb)
  have htab := s.unbindSlot_tables h
  have hslot : ∀ g, (s.unbindSlot h).slot g = _ := fun g => (State.disarmMoved_slot ..).trans (State.dropBinding_slot s h g)
  have hcar := State.unbindSlot_car hm hb
  generalize s.unbindSlot h = t at hx htab hslot hcar
  refine ⟨t.replied 0x13 .ok [], hx, ?_, hslot, hcar⟩
  conv_lhs => rw [htab]
  rfl

/-- An accepted FORGET of a car that is not FREE (R39). -/
theorem exec_forget_of_not_free {s : State} (ht : s.TakesRequests) (hm : s.Mirrored) {a : CarIx}
    (hr : (s.car a).reservation = none) (hc : ∀ z, ∀ e ∈ (s.zone z).entries, e.car ≠ some a)
    (hf : (s.car a).tenure ≠ .free) : ∃ t, exec (.forget (carArg a)) s = .next t ∧
      t = { s.replied 0x14 .ok [] with slots := t.slots, cars := t.cars } ∧
      (∀ g, t.slot g = { s.slot g with
        binding := if (s.slot g).binding = some a then none else (s.slot g).binding }) ∧
      t.car a = { s.car a with holder := none, identity := none, armed := false } ∧
      ∀ b, b ≠ a → s.LatchFollows t b ∧ t.car b = { s.car b with armed := (t.car b).armed } := by
  have hx : exec (.forget (carArg a)) s = .next ((s.forgetCar a).replied 0x14 .ok []) :=
    exec_answered ht rfl (reqForget_of_free hr hc)
  have htab := s.forgetCar_tables a
  have hslot := State.forgetCar_slot hm hf
  have hcar := State.forgetCar_car hf
  have hother := fun b hb => State.forgetCar_other (b := b) hf hb
  generalize s.forgetCar a = t at hx htab hslot hcar hother
  refine ⟨t.replied 0x14 .ok [], hx, ?_, hslot, hcar, hother⟩
  conv_lhs => rw [htab]
  rfl

/-- Settles O33: UNBIND removes the binding from slot and car, FORGET the holder and the identity of a car that is not FREE, and
R36 decides the other latches. -/
theorem unbindAndForgetRemoveTheBinding : Obligations.UnbindAndForgetRemoveTheBinding := by
  unfold Obligations.UnbindAndForgetRemoveTheBinding
  intro s ht hm
  refine ⟨fun h hb => exec_answered ht rfl (reqUnbind_of_unbound hb), fun h a => exec_unbind_of_bound ht hm,
    fun a ha => exec_answered ht rfl (reqForget_of_busy ha),
    fun a hr hc => ⟨fun hf => ?_, exec_forget_of_not_free ht hm hr hc⟩⟩
  have h := exec_answered (c := .forget (carArg a)) ht rfl (reqForget_of_free hr hc)
  rwa [State.forgetCar_of_free hf] at h

end Sys2Proof.Machine

/-! The requests about one car, the speed settings and MODE, with the words of their replies (section 9.4, R25, R28, R44, R45, R62,
R72, R142, R163, R164, R167); O34 and O35. -/

namespace Sys2Proof.Machine

/-! ### Reply words as fields one after the other -/

/-- Two fields side by side, as one number. -/
theorem ofNat_append (m n x y : Nat) :
    BitVec.ofNat m x ++ BitVec.ofNat n y = BitVec.ofNat (m + n) (x * 2 ^ n + y % 2 ^ n) := by
  apply BitVec.eq_of_toNat_eq
  have hy : y % 2 ^ n < 2 ^ n := Nat.mod_lt _ (Nat.two_pow_pos n)
  rw [BitVec.toNat_append, BitVec.toNat_ofNat, BitVec.toNat_ofNat, BitVec.toNat_ofNat, ← Nat.shiftLeft_add_eq_or_of_lt hy,
    Nat.shiftLeft_eq, Nat.add_comm m n, Nat.pow_add, Nat.mod_mul, Nat.mul_comm x]
  rw [Nat.mul_add_mod, Nat.mod_mod, Nat.mul_add_div (Nat.two_pow_pos n), Nat.div_eq_of_lt hy, Nat.add_zero]
  rw [Nat.mul_comm, Nat.add_comm]

theorem ofBool_eq_ofNat (b : Bool) : BitVec.ofBool b = BitVec.ofNat 1 b.toNat := by cases b <;> rfl

theorem word16_eq_ofNat {fields : List Field} {n : Nat}
    (h : (fields.map fun f => f.value % 2 ^ (f.hi - f.lo + 1) * 2 ^ f.lo).sum % 65536 = n % 65536) :
    word16 fields = BitVec.ofNat 16 n := BitVec.eq_of_toNat_eq <| by rw [word16, BitVec.toNat_ofNat, BitVec.toNat_ofNat]; exact h

/-- A reply word of two bytes is the one after the other. -/
theorem bytes_eq (x y : Nat) : bytes x y = BitVec.ofNat 8 x ++ BitVec.ofNat 8 y := by
  rw [ofNat_append]
  exact word16_eq_ofNat (by simp; omega)

theorem ofNat_toNat_byte (v : BitVec 8) : BitVec.ofNat 8 v.toNat = v := BitVec.eq_of_toNat_eq (by simp)

/-- The first word of CAR_WRITE's echo (R164). -/
theorem paramWord_eq (limit : BitVec 8) (k : Fin 4) :
    word16 [⟨15, 8, limit.toNat⟩, ⟨3, 0, k.val⟩] = limit ++ BitVec.ofNat 8 k.val := by
  have hk := k.isLt
  conv_rhs => rw [← ofNat_toNat_byte limit, ofNat_append]
  exact word16_eq_ofNat (by simp; omega)

/-- The first word of CAR_READ (R164). -/
theorem standingWord_eq (tenure held holder reserved port armed curve : Nat) :
    word16 [⟨15, 14, tenure⟩, ⟨13, 13, held⟩, ⟨12, 8, holder⟩, ⟨7, 7, reserved⟩, ⟨6, 3, port⟩, ⟨2, 2, armed⟩, ⟨1, 0, curve⟩] =
      BitVec.ofNat 2 tenure ++ BitVec.ofNat 1 held ++ BitVec.ofNat 5 holder ++ BitVec.ofNat 1 reserved ++
        BitVec.ofNat 4 port ++ BitVec.ofNat 1 armed ++ BitVec.ofNat 2 curve := by
  simp only [ofNat_append]
  exact word16_eq_ofNat (by simp; omega)

/-- The last word of CAR_READ (R164), whose bit 13 no packing names (log entry 33). -/
theorem linkWord_eq (link streak faults : Nat) : word16 [⟨15, 14, link⟩, ⟨12, 8, streak⟩, ⟨7, 0, faults⟩] =
    BitVec.ofNat 2 link ++ BitVec.ofNat 1 0 ++ BitVec.ofNat 5 streak ++ BitVec.ofNat 8 faults := by
  simp only [ofNat_append]
  exact word16_eq_ofNat (by simp; omega)

/-- The words of CAR_READ (R164). -/
theorem Car.readWords_eq (c : Car) : c.readWords =
    [BitVec.ofNat 2 c.tenure.code ++ BitVec.ofBool c.holder.isSome ++ BitVec.ofNat 5 ((c.holder.map Fin.val).getD 0) ++
        BitVec.ofBool c.reservation.isSome ++ BitVec.ofNat 4 ((c.reservation.map Fin.val).getD 0) ++
        BitVec.ofBool c.armed ++ BitVec.ofNat 2 c.curve.val,
      BitVec.ofNat 8 c.limit ++ BitVec.ofNat 8 c.fine, BitVec.ofNat 8 c.up ++ BitVec.ofNat 8 c.down,
      BitVec.ofNat 2 c.link.code ++ (0 : BitVec 1) ++ BitVec.ofNat 5 c.streak ++ BitVec.ofNat 8 c.faults] := by
  rw [Car.readWords, standingWord_eq, linkWord_eq, bytes_eq, bytes_eq, ofBool_eq_ofNat, ofBool_eq_ofNat, ofBool_eq_ofNat]
  rfl

/-- The word of MODE's echo (R167), whose bits 14..8 no packing names (log entry 33). -/
theorem modeWord_eq (on : Bool) (bay : Nat) : word16 [⟨15, 15, on.toNat⟩, ⟨7, 0, bay⟩] =
    BitVec.ofBool on ++ (0 : BitVec 7) ++ BitVec.ofNat 8 bay := by
  rw [ofBool_eq_ofNat, show (0 : BitVec 7) = BitVec.ofNat 7 0 from rfl, ofNat_append, ofNat_append]
  exact word16_eq_ofNat (by simp; omega)

/-! ### Cars, curves and limits -/

theorem curveOf_arg (c : Fin 4) : curveOf (BitVec.ofNat 4 c.val).toNat = some c := by revert c; decide

theorem pointOf_arg (k : Fin 9) : pointOf (BitVec.ofNat 4 k.val).toNat = some k := by revert k; decide

theorem reqCarWrite_accepted (s : State) (a : CarIx) (limit up down : BitVec 8) (k : Fin 4) :
    reqCarWrite (carArg a) limit (BitVec.ofNat 4 k.val) up down s = accept
      { s with cars := s.cars.set a { s.car a with
          curve := k, limit := limit.toNat, up := max 1 up.toNat, down := max 1 down.toNat } }
      [limit ++ BitVec.ofNat 8 k.val, BitVec.ofNat 8 (max 1 up.toNat) ++ BitVec.ofNat 8 (max 1 down.toNat)] := by
  have hc : (s.modCar a (Car.setParams limit.toNat k up.toNat down.toNat)).car a =
      Car.setParams limit.toNat k up.toNat down.toNat (s.car a) := by rw [State.car_modCar, if_pos rfl]
  rw [reqCarWrite, carOf_carArg, curveOf_arg]
  dsimp only
  rw [hc, Car.paramWords]
  dsimp only [Car.setParams]
  rw [paramWord_eq, bytes_eq]
  rfl

theorem reqCarRead_accepted (s : State) (a : CarIx) : reqCarRead (carArg a) s = accept s (s.car a).readWords := by
  rw [reqCarRead, carOf_carArg]

theorem reqCarIdentity_known {s : State} {a : CarIx} {id : Identity} (h : (s.car a).identity = some id) :
    reqCarIdentity (carArg a) s = accept s (identityWords id) := by
  rw [reqCarIdentity, carOf_carArg]
  dsimp only
  rw [h]

theorem reqCarIdentity_unknown {s : State} {a : CarIx} (h : (s.car a).identity = none) :
    reqCarIdentity (carArg a) s = refuse s .notFound := by
  rw [reqCarIdentity, carOf_carArg]
  dsimp only
  rw [h]

theorem reqRevive_accepted (s : State) (a : CarIx) : reqRevive (carArg a) s = accept (s.modCar a Car.linkReset) [] := by
  rw [reqRevive, carOf_carArg]

theorem reqCurveWrite_accepted (s : State) (c : Fin 4) (k : Fin 9) (v : BitVec 8) :
    reqCurveWrite (BitVec.ofNat 4 c.val) (BitVec.ofNat 4 k.val) v s = accept (s.writePoint c k v.toNat) [] := by
  rw [reqCurveWrite, curveOf_arg, pointOf_arg]

theorem reqCurveRead_accepted (s : State) (c : Fin 4) (half : BitVec 4) (h : half.toNat < 2) :
    reqCurveRead (BitVec.ofNat 4 c.val) half s = accept s (halfWords s.curves[c] half.toNat) := by
  rw [reqCurveRead, curveOf_arg]
  dsimp only
  rw [if_neg (Nat.not_le.2 h)]

/-- Point `k` of a curve as a byte (R44, R163); 0 where a curve has no such point. -/
def pointByte (v : Vector Nat 9) (k : Nat) : BitVec 8 := BitVec.ofNat 8 (if h : k < 9 then v[k] else 0)

theorem pointByte_fin (v : Vector Nat 9) (k : Fin 9) : pointByte v k.val = BitVec.ofNat 8 v[k] := by
  rw [pointByte, dif_pos k.isLt]; rfl

/-- The two halves of a curve as CURVE_READ reports them (R163). -/
theorem halfWords_eq (v : Vector Nat 9) :
    halfWords v 0 = [pointByte v 0 ++ pointByte v 1, pointByte v 2 ++ pointByte v 3, pointByte v 4 ++ pointByte v 5,
      pointByte v 6 ++ pointByte v 7] ∧ halfWords v 1 = [(0 : BitVec 8) ++ pointByte v 8] := by
  constructor
  · rw [halfWords, if_pos rfl, bytes_eq, bytes_eq, bytes_eq, bytes_eq]; rfl
  · rw [halfWords, if_neg (by decide), bytes_eq]; rfl

/-- LIMITS writes what its bits select, the timeout clamped to 50..1000 ms (R45, R142, R163). -/
theorem reqLimits_accepted (s : State) (writeCap writeTimeout : Bool) (cap timeout : BitVec 8) :
    ∃ k n : Nat, k = (if writeCap then cap.toNat else s.cautionCap) ∧
      n = (if writeTimeout then 10 * max 5 (min 100 timeout.toNat) else s.silenceTimeout) ∧
      reqLimits writeCap writeTimeout cap timeout s = accept { s with cautionCap := k, silenceTimeout := n }
        [BitVec.ofNat 8 k ++ BitVec.ofNat 8 (n / 10)] := by
  refine ⟨_, _, rfl, rfl, ?_⟩
  rw [reqLimits]
  dsimp only [State.limitWords, clamp]
  rw [bytes_eq, Nat.mul_comm 10]

/-- Settles O34: each of these requests is accepted with the words of its packing, and writes what it names alone. -/
theorem carAndSpeedSettingsAreWrittenAndRead : Obligations.CarAndSpeedSettingsAreWrittenAndRead := by
  unfold Obligations.CarAndSpeedSettingsAreWrittenAndRead
  refine ⟨rfl, rfl, fun s ht => ⟨fun a limit up down k => exec_answered ht rfl (reqCarWrite_accepted s a limit up down k),
    fun a => ?_, fun a id h => exec_answered ht rfl (reqCarIdentity_known h),
    fun a h => exec_answered ht rfl (reqCarIdentity_unknown h), fun a => exec_answered ht rfl (reqRevive_accepted s a),
    fun c k v => exec_answered ht rfl (reqCurveWrite_accepted s c k v), fun c => ?_, fun wc wt cap timeout => ?_⟩⟩
  · rw [← Car.readWords_eq]
    exact exec_answered ht rfl (reqCarRead_accepted s a)
  · obtain ⟨h0, h1⟩ := halfWords_eq s.curves[c]
    refine ⟨pointByte s.curves[c], pointByte_fin _, ?_, ?_⟩
    · rw [← h0]; exact exec_answered ht rfl (reqCurveRead_accepted s c 0 (by decide))
    · rw [← h1]; exact exec_answered ht rfl (reqCurveRead_accepted s c 1 (by decide))
  · obtain ⟨k, n, hk, hn, hr⟩ := reqLimits_accepted s wc wt cap timeout
    exact ⟨k, n, hk, hn, exec_answered ht rfl hr⟩

/-! ### MODE -/

theorem baySetting_portArg (p : PortIx) : baySetting (portArg p).toNat = some (some p) := by revert p; decide

theorem baySetting_out {bay : BitVec 8} (h1 : 16 ≤ bay.toNat) (h2 : bay ≠ 255) : baySetting bay.toNat = none := by
  have h3 : bay.toNat ≠ 255 := fun e => h2 (BitVec.eq_of_toNat_eq e)
  rw [baySetting, if_neg h3, portOf, dif_neg (Nat.not_lt.2 h1)]
  rfl

theorem baySetting_isSome {bay : BitVec 8} (h : bay.toNat < 16 ∨ bay = 255) : (baySetting bay.toNat).isSome := by
  rcases h with h | rfl
  · have h3 : bay.toNat ≠ 255 := by omega
    rw [baySetting, if_neg h3, portOf, dif_pos h]
    rfl
  · rfl

theorem reqMode_badArg {writeBay : Bool} {bay : BitVec 8} (hw : writeBay = true) (h1 : 16 ≤ bay.toNat) (h2 : bay ≠ 255)
    (writeFallback fallback : Bool) (s : State) :
    reqMode writeFallback writeBay fallback bay s = refuse s .badArg := by
  rw [reqMode, if_pos ⟨hw, by rw [baySetting_out h1 h2]; rfl⟩]

/-- The first check of MODE passes (R167). -/
theorem mode_bay_passes {writeBay : Bool} {bay : BitVec 8} (h : writeBay = false ∨ bay.toNat < 16 ∨ bay = 255) :
    ¬(writeBay = true ∧ (baySetting bay.toNat).isNone = true) := by
  rintro ⟨hw, hn⟩
  rcases h with h | h
  · rw [hw] at h; cases h
  · have hs := baySetting_isSome h
    rw [Option.isNone_iff_eq_none.1 hn] at hs
    cases hs

theorem reqMode_fixed {writeFallback writeBay fallback : Bool} {bay : BitVec 8} {s : State}
    (hb : writeBay = false ∨ bay.toNat < 16 ∨ bay = 255) (hw : writeFallback = true) (hf : fallback = false)
    (hs : s.strap = true) : reqMode writeFallback writeBay fallback bay s = refuse s .fixed := by
  rw [reqMode, if_neg (mode_bay_passes hb), if_pos ⟨hw, hf, hs⟩]

/-- The word of an accepted MODE's echo is that of the state it leaves (R167). -/
theorem reqMode_accepted {writeFallback writeBay fallback : Bool} {bay : BitVec 8} {s : State}
    (hb : writeBay = false ∨ bay.toNat < 16 ∨ bay = 255) (hs : writeFallback = false ∨ fallback = true ∨ s.strap = false) :
    reqMode writeFallback writeBay fallback bay s =
      accept (s.writeMode writeFallback writeBay fallback ((baySetting bay.toNat).getD none))
        (s.writeMode writeFallback writeBay fallback ((baySetting bay.toNat).getD none)).modeWords := by
  rw [reqMode, if_neg (mode_bay_passes hb), if_neg]
  rintro ⟨h1, h2, h3⟩
  rcases hs with h | h | h
  · rw [h1] at h; cases h
  · rw [h2] at h; cases h
  · rw [h3] at h; cases h

/-- The settings after an accepted MODE (R29, R72); besides them, latches alone change. -/
theorem State.writeMode_eq (s : State) (w v on : Bool) (bay : Option PortIx) : s.writeMode w v on bay = { s with
    cars := (s.writeMode w v on bay).cars, directFallback := if w then on else s.directFallback
    defaultBay := if v then bay else s.defaultBay } := by
  have hf : (s.setFallback on).directFallback = on := rfl
  cases w <;> cases v <;> apply State.ext <;> simp [State.writeMode, hf]

/-- A state whose latches follow from itself. -/
theorem State.latchFollows_self (s : State) (b : CarIx) : s.LatchFollows s b := by
  unfold State.LatchFollows
  rw [decide_eq_true rfl, decide_eq_true rfl, Bool.true_and, Bool.true_and]

/-- A change of the fallback moves driving slots, and R36 decides the latches (R29). -/
theorem State.writeMode_car (s : State) (w v on : Bool) (bay : Option PortIx) (b : CarIx) :
    s.LatchFollows (s.writeMode w v on bay) b ∧
      (s.writeMode w v on bay).car b = { s.car b with armed := ((s.writeMode w v on bay).car b).armed } := by
  have h : ∀ u : State, s.LatchFollows u b ∧ u.car b = { s.car b with armed := (u.car b).armed } →
      s.LatchFollows (if v then { u with defaultBay := bay } else u) b ∧
        (if v then { u with defaultBay := bay } else u).car b =
          { s.car b with armed := ((if v then { u with defaultBay := bay } else u).car b).armed } := fun u hu => by
    cases v <;> exact hu
  refine h _ ?_
  cases w
  · exact ⟨s.latchFollows_self b, rfl⟩
  · exact ⟨State.latchFollows_disarmMoved rfl, State.disarmMoved_onlyLatch ..⟩

/-- The default bay as MODE echoes it (R167): 255 when absent. -/
def bayByte (bay : Option PortIx) : BitVec 8 := BitVec.ofNat 8 ((bay.map Fin.val).getD 255)

theorem State.modeWords_eq (s : State) :
    s.modeWords = [BitVec.ofBool s.directFallback ++ (0 : BitVec 7) ++ bayByte s.defaultBay] := by
  rw [State.modeWords, modeWord_eq]
  rfl

/-- Settles O35: the checks of R167 in order, then the selected settings written and both echoed. -/
theorem modeWritesTheSelectedSettings : Obligations.ModeWritesTheSelectedSettings := by
  unfold Obligations.ModeWritesTheSelectedSettings
  intro wf wb on bay s ht
  refine ⟨fun hw h1 h2 => exec_answered ht rfl (reqMode_badArg hw h1 h2 wf on s),
    fun hb hw hf hs => exec_answered ht rfl (reqMode_fixed hb hw hf hs), fun hb hs => ?_⟩
  have hx := exec_answered (c := .mode wf wb on bay) ht rfl (reqMode_accepted hb hs)
  have heq := s.writeMode_eq wf wb on ((baySetting bay.toNat).getD none)
  have hcar := s.writeMode_car wf wb on ((baySetting bay.toNat).getD none)
  rw [State.modeWords_eq] at hx
  generalize s.writeMode wf wb on ((baySetting bay.toNat).getD none) = u at hx heq hcar
  have hbay : u.defaultBay = if wb then (baySetting bay.toNat).getD none else s.defaultBay := by rw [heq]
  have hrep : u.replies = s.replies := by rw [heq]
  refine ⟨_, bayByte u.defaultBay, hx, ?_, fun h => ?_, fun h h1 => ?_, fun p h h1 => ?_, fun h => ?_, fun p h => ?_, ?_, hcar⟩
  · generalize [BitVec.ofBool u.directFallback ++ (0 : BitVec 7) ++ bayByte u.defaultBay] = words
    conv_lhs => rw [heq, ← hbay, ← hrep]
    rfl
  · show u.defaultBay = _
    rw [hbay, h]; rfl
  · show u.defaultBay = _
    rw [hbay, h, h1]; rfl
  · show u.defaultBay = _
    rw [hbay, h, h1, baySetting_portArg]; rfl
  · rw [show u.defaultBay = none from h]; rfl
  · rw [show u.defaultBay = some p from h]; rfl
  · show u.replies ++ _ = _
    rw [hrep]; rfl

end Sys2Proof.Machine

/-! What an ANSWER to an ASSIGN frame commits (R42, R79, R70); O20. -/

namespace Sys2Proof.Machine

theorem AnswerWindow.tagged_iff (p : PortIx) (w : AnswerWindow) :
    AnswerWindow.tagged p w = true ↔ AnswerWindow.OfPort p w := by
  simp [AnswerWindow.tagged, AnswerWindow.OfPort]

/-- The close finds the oldest owed window of those named, and what it leaves is as `Closes` says (R16, R17). -/
theorem State.Closes.closeWindow {s u : State} {F : AnswerWindow → Prop} {w : AnswerWindow} (h : s.Closes F w u)
    {f : AnswerWindow → Bool} (hf : ∀ v, f v = true ↔ F v) : s.closeWindow f = some (w, u) := by
  have hno : ∀ l : List AnswerWindow, (∀ v ∈ l, ¬F v) → l.find? f = none := fun l hl =>
    List.find?_eq_none.mpr fun v hv hfv => hl v hv ((hf v).mp hfv)
  obtain ⟨hw, ⟨older, newer, hc, ho, rfl⟩ | ⟨ho, hs, rfl⟩⟩ := h
  · have hfind : s.closing.find? f = some w := by
      rw [hc, List.find?_append, hno older ho, Option.none_or, List.find?_cons_of_pos ((hf w).mpr hw)]
    have herase : s.closing.erase w = older ++ newer := by
      rw [hc, List.erase_append_right _ fun hm => ho w hm hw, List.erase_cons_head]
    unfold State.closeWindow
    simp only [hfind, herase]
  · have hopen : s.window.filter f = some w := by rw [hs, Option.filter_some, if_pos ((hf w).mpr hw)]
    unfold State.closeWindow
    simp only [hno s.closing ho, hopen]

/-- The close of a window touches the owed windows and the rail output only. -/
theorem State.Closes.eq {s u : State} {F : AnswerWindow → Prop} {w : AnswerWindow} (h : s.Closes F w u) :
    ∃ closing window railOut, u = { s with closing := closing, window := window, railOut := railOut } := by
  obtain ⟨-, ⟨older, newer, -, -, hu⟩ | ⟨-, -, hu⟩⟩ := h
  · exact ⟨_, _, _, hu⟩
  · exact ⟨_, _, _, hu⟩

/-- The result of a session's own ASSIGN window is handed to the session (R17). -/
theorem exec_assignClose {p : PortIx} {s u : State} (h : s.resetHeld = false)
    (hc : s.Closes (AnswerWindow.OfPort p) (.assign p) u) (answered : Bool) :
    exec (.assignAnswerWindowClose p answered) s = .next (u.assignResult p answered) := by
  have hclose : s.closeAssignWindow p answered = u.assignResult p answered := by
    unfold State.closeAssignWindow
    rw [hc.closeWindow (AnswerWindow.tagged_iff p)]
    exact if_pos rfl
  rw [← hclose]
  exact exec_of_effect h rfl rfl

/-- An ANSWER commits the pairing of a session in SENDING (R79). -/
theorem State.assignResult_answered {s : State} {p : PortIx} {x : Session} {h : SlotIx} {a : CarIx} {id : Identity}
    (hx : s.session p = some x) (hs : x.state = .sending) (hh : x.slot = some h) (ha : x.address = some a)
    (hid : x.identity = some id) : s.assignResult p true = s.commitSession p x h a id := by
  unfold State.assignResult
  simp only [hx, hs, hh, ha, hid, if_true]

@[simp] theorem State.showSession_sessions (s : State) (p : PortIx) (old : SessionState) (x : Session) :
    (s.showSession p old x).sessions = s.sessions.set p (some x) := by
  unfold State.showSession
  split
  · rfl
  · simp

/-- What `LampAsked` says is what `sendLamp` does (R70). -/
theorem State.sendLamp_lampAsked (s : State) (p : PortIx) (v : Lamp) : s.LampAsked (s.sendLamp p v) p v := by
  unfold State.sendLamp
  split
  case isTrue hr =>
    refine ⟨fun q hq => ?_, ?_⟩
    · rw [State.port_modPort, if_neg hq.symm]
    · rw [State.port_modPort, if_pos rfl, if_pos hr]
  case isFalse hr => exact ⟨fun q _ => rfl, (if_neg hr).symm⟩

/-- A session that shows another lamp than before asks for it (R70). -/
theorem State.showSession_lampAsked (s : State) (p : PortIx) {old : SessionState} {x : Session}
    (h : old.lamp ≠ x.state.lamp) : s.LampAsked (s.showSession p old x) p x.state.lamp := by
  unfold State.showSession
  rw [if_neg h]
  exact (s.setSession p (some x)).sendLamp_lampAsked p x.state.lamp

/-! ### The commit of a session -/

section
variable {s : State} {p : PortIx} {x : Session} {h : SlotIx} {a : CarIx} {id : Identity}

/-- The commit of a session is the commit of its pairing, the end of its claim and the show of its success. -/
theorem State.commitSession_eq (s : State) (p : PortIx) (x : Session) (h : SlotIx) (a : CarIx) (id : Identity) :
    s.commitSession p x h a id = { s with
      slots := (s.commitSession p x h a id).slots, cars := (s.commitSession p x h a id).cars
      ports := (s.commitSession p x h a id).ports
      sessions := s.sessions.set p (some { x with
        state := .showDone, outcome := some .done, showDue := some (s.now + 2000) })
      notices := setFlag s.notices .pairDone, lastCar := some a } := by
  apply State.ext <;> simp [State.commitSession, State.after]

theorem State.commitSession_car (s : State) (p : PortIx) (x : Session) (h : SlotIx) (a : CarIx) (id : Identity)
    (b : CarIx) : (s.commitSession p x h a id).car b = (s.commit h a id).car b := by
  have hc : (s.commitSession p x h a id).cars = (s.commit h a id).cars := by simp [State.commitSession]
  unfold State.car
  rw [hc]

theorem State.commitSession_slot (s : State) (p : PortIx) (x : Session) (h : SlotIx) (a : CarIx) (id : Identity)
    (g : SlotIx) : (s.commitSession p x h a id).slot g = { (s.commit h a id).slot g with
      claim := if h = g then none else ((s.commit h a id).slot g).claim } := by
  have hc : (s.commitSession p x h a id).slots = ((s.commit h a id).claimSlot (some h) none).slots := by
    simp [State.commitSession]
  have hs : (s.commitSession p x h a id).slot g = ((s.commit h a id).claimSlot (some h) none).slot g := by
    unfold State.slot
    rw [hc]
  rw [hs]
  unfold State.claimSlot
  rw [State.slot_modSlot]
  split
  case isTrue e => rw [e]
  case isFalse => rfl

/-- R36 decides the other cars' latches, and their bindings give way (R42). -/
theorem State.commitSession_other (hm : s.Mirrored) {b : CarIx} (hb : b ≠ a) :
    s.LatchFollows (s.commitSession p x h a id) b ∧ (s.commitSession p x h a id).car b = { s.car b with
      armed := ((s.commitSession p x h a id).car b).armed
      holder := if (s.car b).holder = some h then none else (s.car b).holder
      identity := if (s.car b).identity = some id then none else (s.car b).identity } := by
  have hd : (s.commitSession p x h a id).drivingSlot b = (s.commit h a id).drivingSlot b :=
    State.drivingSlot_congr b (by rw [State.commitSession_car]) (by rw [State.commitSession_car])
      (by rw [State.commitSession_slot]) (by simp)
  unfold State.LatchFollows
  rw [hd, State.commitSession_car]
  exact State.commit_other hm h a b id hb

theorem State.commitSession_lampAsked (s : State) (p : PortIx) {x : Session} (h : SlotIx) (a : CarIx) (id : Identity)
    (hs : x.state = .sending) : s.LampAsked (s.commitSession p x h a id) p .steady := by
  have hl := ((s.commit h a id).claimSlot (some h) none).showSession_lampAsked p (old := x.state)
    (x := { x with state := .showDone, outcome := some .done, showDue := some (s.after 2000) })
    (by rw [hs]; exact fun e => nomatch e)
  have hp : ((s.commit h a id).claimSlot (some h) none).ports = s.ports := by simp
  unfold State.LampAsked State.port at hl ⊢
  rw [hp] at hl
  exact hl

end

/-- Settles O20: the result goes to the session, which commits its pairing. -/
theorem anAnsweredAssignCommitsThePairing : Obligations.AnAnsweredAssignCommitsThePairing := by
  unfold Obligations.AnAnsweredAssignCommitsThePairing
  intro p x h a id s u hr hm hc hx hs hh ha hid
  have hexec := exec_assignClose hr hc true
  have hsame := hc.eq
  have hmu : u.Mirrored := by obtain ⟨_, _, _, rfl⟩ := hsame; exact hm
  have hxu : u.session p = some x := by obtain ⟨_, _, _, rfl⟩ := hsame; exact hx
  rw [State.assignResult_answered hxu hs hh ha hid] at hexec
  have heq := u.commitSession_eq p x h a id
  have hslot := u.commitSession_slot p x h a id
  have hcar := u.commitSession_car p x h a id a
  have hother := fun b hb => State.commitSession_other (p := p) (x := x) (h := h) (a := a) (id := id) hmu (b := b) hb
  have hlamp := u.commitSession_lampAsked p h a id hs
  simp only [State.commit_slot hmu] at hslot
  rw [State.commit_car hmu] at hcar
  generalize u.commitSession p x h a id = t at hexec heq hslot hcar hother hlamp
  have hbound : t.slot h = { u.slot h with binding := some a, claim := none } := by
    rw [hslot, if_pos rfl, if_pos rfl]
  have hunbound : ∀ g, g ≠ h → t.slot g = { u.slot g with
      binding := if (u.slot g).binding = some a then none else (u.slot g).binding } := by
    intro g hg
    rw [hslot, if_neg hg, if_neg hg.symm]
  obtain ⟨_, _, _, rfl⟩ := hsame
  exact ⟨t, hexec, heq, hbound, hunbound, hcar, hother, hlamp⟩

end Sys2Proof.Machine

/-! How a DRIVE frame is handled (R30, R31, R35, R47 to R53); O24. -/

namespace Sys2Proof.Machine

/-! ### The lane edge (R31) -/

theorem State.laneEdge_eq (s : State) (h : SlotIx) (target : Option CarIx) (lane : Bool) :
    s.laneEdge h target lane = { s with cars := (s.laneEdge h target lane).cars } := by
  unfold State.laneEdge
  split
  · rfl
  · split <;> rfl

theorem State.laneEdge_some (s : State) (h : SlotIx) (a : CarIx) (lane : Bool) : s.laneEdge h (some a) lane =
    if lane && !(s.slot h).lastLane && s.laneEdgeTaken a then s.modCar a fun c => { c with armed := !c.armed } else s := by
  exact if_congr (by simp only [Bool.and_eq_true, Bool.not_eq_true', and_assoc]) rfl rfl

/-- A lane edge toggles the latch of the car that the frame resolved to, under the conditions of R31. -/
theorem State.laneEdge_car (s : State) (h : SlotIx) (target : Option CarIx) (lane : Bool) (b : CarIx) :
    (s.laneEdge h target lane).car b = { s.car b with
      armed := (s.car b).armed ^^ (lane && !(s.slot h).lastLane && decide (target = some b) &&
        decide ((s.car b).reservation = none) && decide ((s.car b).link ≠ .lost) && decide (s.part = .run) &&
        decide (s.race = .green) && s.laneEnable) } := by
  cases target with
  | none => simp [State.laneEdge]
  | some a =>
    have htaken : (lane && !(s.slot h).lastLane && decide (some a = some b) &&
        decide ((s.car b).reservation = none) && decide ((s.car b).link ≠ .lost) && decide (s.part = .run) &&
        decide (s.race = .green) && s.laneEnable) =
        (decide (a = b) && (lane && !(s.slot h).lastLane && s.laneEdgeTaken a)) := by
      by_cases e : a = b
      · simp only [e, State.laneEdgeTaken, State.laneOpen, decide_true, Bool.true_and, Bool.and_true, Bool.and_assoc]
      · simp only [Option.some.injEq, e, decide_false, Bool.and_false, Bool.false_and]
    rw [htaken, State.laneEdge_some]
    generalize (lane && !(s.slot h).lastLane && s.laneEdgeTaken a) = taken
    cases taken with
    | false => rw [Bool.and_false, Bool.xor_false]; rfl
    | true =>
      rw [if_pos rfl, State.car_modCar]
      split
      case isTrue e => rw [← e, decide_eq_true rfl, Bool.and_true, Bool.xor_true]
      case isFalse e => rw [decide_eq_false e, Bool.false_and, Bool.xor_false]

/-! ### The caps on a car (R50, R51) -/

/-- All entries that hold car `a`, in whatever zone, are one entry (R116). -/
def State.OneEntry (s : State) (a : CarIx) : Prop :=
  ∀ z y, ∀ d ∈ (s.zone z).entries, ∀ e ∈ (s.zone y).entries, d.car = some a → e.car = some a → d = e

theorem State.ListsLawful.oneEntry {s : State} (hl : s.ListsLawful) (a : CarIx) : s.OneEntry a := by
  obtain ⟨hzone, hacross⟩ := hl
  intro z y d hd e he hda hea
  obtain rfl : z = y := hacross z y d hd e he (by rw [hda]; rfl) (hda.trans hea.symm)
  obtain ⟨-, -, -, -, hnodup, -⟩ := hzone z
  by_contra hne
  have hsymm : Std.Symm fun d e : Entry => ∀ b, d.car = some b → ∀ c, e.car = some c → b ≠ c :=
    ⟨fun _ _ h b hb c hc => (h c hc b hb).symm⟩
  exact (List.pairwise_filterMap.1 hnodup).forall hd he hne a hda a hea rfl

theorem State.entryOf_mem {s : State} {a : CarIx} {e : Entry} (h : s.entryOf a = some e) :
    ∃ z, e ∈ (s.zone z).entries ∧ e.car = some a := by
  obtain ⟨z, -, hz⟩ := List.exists_of_findSome?_eq_some h
  exact ⟨z, List.mem_of_find?_eq_some hz, by simpa using List.find?_some hz⟩

theorem State.entryOf_isSome {s : State} {a : CarIx} {z : ZoneIx} {e : Entry} (he : e ∈ (s.zone z).entries)
    (hea : e.car = some a) : (s.entryOf a).isSome := by
  rw [State.entryOf, List.findSome?_isSome_iff]
  exact ⟨z, List.mem_finRange z, List.find?_isSome.2 ⟨e, he, by simpa using hea⟩⟩

/-- The cross cap is that of the section of an entry that holds the car. -/
theorem State.crossCap_eq_some {s : State} {a : CarIx} {c : Nat} (h : s.crossCap a = some c) :
    ∃ z, ∃ e ∈ (s.zone z).entries, e.car = some a ∧ c = (s.port e.port).config.cap := by
  obtain ⟨e, he, hc⟩ := Option.map_eq_some_iff.1 h
  obtain ⟨z, hz, hea⟩ := State.entryOf_mem he
  exact ⟨z, e, hz, hea, hc.symm⟩

/-- With one entry at most, the section of any entry that holds the car gives its cross cap. -/
theorem State.OneEntry.crossCap_eq {s : State} {a : CarIx} (h : s.OneEntry a) {z : ZoneIx} {e : Entry}
    (he : e ∈ (s.zone z).entries) (hea : e.car = some a) : s.crossCap a = some (s.port e.port).config.cap := by
  obtain ⟨d, hd⟩ := Option.isSome_iff_exists.1 (State.entryOf_isSome he hea)
  obtain ⟨y, hy, hda⟩ := State.entryOf_mem hd
  rw [State.crossCap, hd, h y z d hy e he hda hea]
  rfl

/-- The ceiling is the least of the limit, the cross cap when present and, under CAUTION, the caution cap (R50). -/
theorem State.le_ceiling_iff (s : State) (a : CarIx) (n : Nat) : n ≤ s.ceiling a ↔
    n ≤ (s.car a).limit ∧ (∀ c, s.crossCap a = some c → n ≤ c) ∧ (s.race = .caution → n ≤ s.cautionCap) := by
  unfold State.ceiling
  cases s.crossCap a <;> by_cases hr : s.race = .caution <;> simp [hr]

/-- The ceiling is one of the caps on the car. -/
theorem State.capsCar_ceiling (s : State) (a : CarIx) : s.CapsCar a (s.ceiling a) := by
  have hq : s.ceiling a = (s.car a).limit ∨ s.crossCap a = some (s.ceiling a) ∨
      (s.race = .caution ∧ s.ceiling a = s.cautionCap) := by
    unfold State.ceiling
    cases s.crossCap a <;> by_cases hr : s.race = .caution <;> simp [hr] <;> omega
  obtain hq | hq | hq := hq
  · exact .inl hq
  · exact .inr (.inr (State.crossCap_eq_some hq))
  · exact .inr (.inl hq)

/-- No cap on the car is below the ceiling. -/
theorem State.OneEntry.ceiling_le {s : State} {a : CarIx} (h : s.OneEntry a) {c : Nat} (hc : s.CapsCar a c) :
    s.ceiling a ≤ c := by
  obtain ⟨hlimit, hcross, hcaution⟩ := (s.le_ceiling_iff a _).1 le_rfl
  obtain rfl | ⟨hr, rfl⟩ | ⟨z, e, he, hea, rfl⟩ := hc
  · exact hlimit
  · exact hcaution hr
  · exact hcross _ (h.crossCap_eq he hea)

/-- The ceiling is the least cap on the car. -/
theorem State.OneEntry.ceiling_eq {s : State} {a : CarIx} (h : s.OneEntry a) {q : Nat} (hq : s.CapsCar a q)
    (hleast : ∀ c, s.CapsCar a c → q ≤ c) : s.ceiling a = q :=
  le_antisymm (h.ceiling_le hq) (hleast _ (s.capsCar_ceiling a))

/-! ### The stages of the shaper (R48 to R53) -/

theorem State.hardZero_iff (s : State) (a : CarIx) : s.hardZero a = true ↔
    (s.car a).link = .lost ∨ (s.car a).reservation ≠ none ∨ s.part = .startup ∨ s.part = .waking ∨ s.part = .halt ∨
      s.race = .grid ∨ s.race = .stop := by
  simp only [State.hardZero, Bool.or_eq_true, decide_eq_true_eq, or_assoc, Option.isSome_iff_ne_none]

/-- Under hard zero the fine speed is 0, and the frame asks for step 0 with the brake (R48, R55). -/
theorem State.shaped_of_hardZero {s : State} {a : CarIx} (h : s.hardZero a = true) (throttle : Nat) (brake : Bool) :
    s.shapedFine a throttle brake = 0 ∧ s.carFrame a throttle brake = .car a 0 true (s.car a).armed := by
  simp [State.shapedFine, State.carFrame, h]

/-- Outside hard zero the frame asks for the step of the new fine speed (R53, R55). -/
theorem State.carFrame_of_run {s : State} {a : CarIx} (h : s.hardZero a = false) (throttle : Nat) (brake : Bool) :
    s.carFrame a throttle brake =
      .car a (min 15 ((s.shapedFine a throttle brake + 8) / 16)) brake (s.car a).armed := by
  simp [State.carFrame, speedStep, h]

theorem State.shapedFine_of_brake (s : State) (a : CarIx) (throttle : Nat) : s.shapedFine a throttle true = 0 := by
  simp [State.shapedFine, slew]

/-- Outside hard zero and without the brake, the fine speed moves toward the target and stays within the ceiling (R50,
R52). -/
theorem State.shapedFine_of_run {s : State} {a : CarIx} (h : s.hardZero a = false) (throttle : Nat) {target : Nat}
    (ht : target = min (curveValue s.curves[(s.car a).curve] throttle).toNat (s.ceiling a)) :
    s.shapedFine a throttle false = min (if (s.car a).fine ≤ target then min target ((s.car a).fine + (s.car a).up)
      else max target ((s.car a).fine - (s.car a).down)) (s.ceiling a) := by
  have htarget : s.target a throttle false = target := ht.symm
  rw [State.shapedFine, if_neg (Bool.eq_false_iff.1 h), htarget]
  rfl

/-! ### The frame -/

/-- A DRIVE frame of a slot reaches the Slot Map outside REST (R11, R30). -/
theorem exec_driveFrame {s : State} (hr : s.resetHeld = false) (ha : s.assembly = none) (hp : s.part ≠ .rest)
    (h : SlotIx) (throttle : BitVec 6) (brake lane pair : Bool) :
    exec (.driveFrame (BitVec.ofNat 5 h.val) throttle brake lane pair) s =
      .next (s.arrive.driveSlot h throttle.toNat brake lane pair) := by
  have hslot : slotOf (BitVec.ofNat 5 h.val).toNat = some h := by revert h; decide
  have heffect : s.driveFrame (BitVec.ofNat 5 h.val) throttle brake lane pair =
      s.arrive.driveSlot h throttle.toNat brake lane pair := by
    simp only [State.driveFrame, hslot, if_neg hp, State.arriveOther_of_none ha]
  rw [← heffect]
  exact exec_of_effect hr rfl rfl

/-- A DRIVE frame resolved to no car is a free position, as a FILL frame is (R6). -/
theorem State.driveSlot_of_unresolved {s : State} {h : SlotIx} (ht : s.resolve h = none) (throttle : Nat)
    (brake lane pair : Bool) : s.driveSlot h throttle brake lane pair =
      (s.driveFlags h (s.resolve h) lane pair).freePosition := by
  rw [State.driveSlot, ht]
  rfl

/-- A DRIVE frame resolved to a car gives it its new fine speed and its CAR frame (R30 step 5, R7). -/
theorem State.driveSlot_of_resolved {s : State} {h : SlotIx} {a : CarIx} (ht : s.resolve h = some a) (throttle : Nat)
    (brake lane pair : Bool) : s.driveSlot h throttle brake lane pair =
      ((s.driveFlags h (s.resolve h) lane pair).shape a throttle brake).position
        (.frame ((s.driveFlags h (s.resolve h) lane pair).carFrame a throttle brake)) := by
  rw [State.driveSlot, ht]
  rfl

/-- That one entry holds a car is a fact about the crossing lists alone. -/
theorem State.OneEntry.of_zones {s t : State} {a : CarIx} (h : s.OneEntry a) (hz : t.zones = s.zones) :
    t.OneEntry a := by
  unfold State.OneEntry State.zone at h ⊢
  rw [hz]
  exact h

/-- Settles O24: the flags in the order of R30, then the shaper or the free position. -/
theorem driveFramesAreHandledInOrder : Obligations.DriveFramesAreHandledInOrder := by
  unfold Obligations.DriveFramesAreHandledInOrder
  intro h throttle brake lane pair s hr ha hp
  have hexec := exec_driveFrame hr ha hp h throttle brake lane pair
  have hslot : (s.arrive.laneEdge h (s.resolve h) lane).slot h = s.slot h := by
    rw [State.laneEdge_eq]
    rfl
  refine ⟨s.arrive.laneEdge h (s.resolve h) lane, (s.arrive.laneEdge h (s.resolve h) lane).pairEdge h pair,
    s.arrive.driveFlags h (s.resolve h) lane pair, s.arrive.laneEdge_eq h (s.resolve h) lane,
    s.arrive.laneEdge_car h (s.resolve h) lane, ?_, rfl, fun hn => ?_, fun a q ht hl hq => ?_⟩
  · rw [State.pairEdge, hslot]
  · have hfill : exec .fillFrame (s.arrive.driveFlags h (s.resolve h) lane pair) =
        .next (s.arrive.driveFlags h (s.resolve h) lane pair).freePosition :=
      exec_fillFrame_of_idle (by simpa using hr) (by simpa using ha) (by simp [State.arrive]) (by simp [State.arrive])
    rw [hexec, hfill, State.driveSlot_of_unresolved (s := s.arrive) hn]
    rfl
  · have hone : (s.arrive.driveFlags h (s.resolve h) lane pair).OneEntry a :=
      (hl.oneEntry a).of_zones (by simp)
    rw [State.driveSlot_of_resolved (s := s.arrive) ht, show s.arrive.resolve h = s.resolve h from rfl] at hexec
    generalize s.arrive.driveFlags h (s.resolve h) lane pair = x at hexec hq hone
    obtain rfl := hone.ceiling_eq hq.1 hq.2
    rw [← State.hardZero_iff]
    refine ⟨x.shapedFine a throttle.toNat brake, x.carFrame a throttle.toNat brake, hexec,
      fun hz => State.shaped_of_hardZero hz _ _, fun hz => ?_⟩
    have hz : x.hardZero a = false := Bool.eq_false_iff.2 hz
    refine ⟨?_, ?_, State.carFrame_of_run hz _ _⟩
    · rintro rfl
      exact x.shapedFine_of_brake a throttle.toNat
    · rintro target rfl htarget
      exact State.shapedFine_of_run hz _ htarget

end Sys2Proof.Machine

/-! The curve value of stage 2 is the point on its segment's line, rounded to the nearest whole number with an exact half upward
(R49); O25. -/

namespace Sys2Proof.Machine

/-- The whole number nearest to `n / w`, an exact half rounded upward. -/
def roundHalfUp (n w : Int) : Int := Int.fdiv (2 * n + w) (2 * w)

theorem roundHalfUp_eq {w : Int} (hw : 0 < w) (n : Int) : roundHalfUp n w = (2 * n + w) / (2 * w) :=
  Int.fdiv_eq_ediv_of_nonneg _ (by omega)

/-- The rounded number lies at most half below the exact one. -/
theorem lt_roundHalfUp {w : Int} (hw : 0 < w) (n : Int) : 2 * n - w < 2 * w * roundHalfUp n w := by
  have h := Int.lt_mul_ediv_self_add (x := 2 * n + w) (show 0 < 2 * w by omega)
  rw [← roundHalfUp_eq hw] at h
  linarith

/-- The rounded number lies at most half above the exact one. -/
theorem roundHalfUp_le {w : Int} (hw : 0 < w) (n : Int) : 2 * w * roundHalfUp n w ≤ 2 * n + w := by
  rw [roundHalfUp_eq hw]
  exact Int.mul_ediv_self_le (by omega)

/-- Rounding does not cross a whole number from above. -/
theorem le_roundHalfUp_of_le {n w m : Int} (hw : 0 < w) (h : w * m ≤ n) : m ≤ roundHalfUp n w := by
  rw [roundHalfUp_eq hw, Int.le_ediv_iff_mul_le (by omega)]
  linarith

/-- Rounding does not cross a whole number from below. -/
theorem roundHalfUp_le_of_le {n w m : Int} (hw : 0 < w) (h : n ≤ w * m) : roundHalfUp n w ≤ m := by
  rw [roundHalfUp_eq hw, ← Int.lt_add_one_iff, Int.ediv_lt_iff_lt_mul (by omega)]
  linarith

/-- Rounding keeps a whole number. -/
theorem roundHalfUp_mul {w : Int} (hw : 0 < w) (m : Int) : roundHalfUp (w * m) w = m :=
  le_antisymm (roundHalfUp_le_of_le hw le_rfl) (le_roundHalfUp_of_le hw le_rfl)

/-- On a segment of width `w` that rises or falls by `d`, the rounded height stays between the segment's two points. -/
theorem roundHalfUp_between {d k w : Int} (hw : 0 < w) (hk : 0 ≤ k) (hkw : k ≤ w) :
    min 0 d ≤ roundHalfUp (d * k) w ∧ roundHalfUp (d * k) w ≤ max 0 d := by
  obtain hd | hd := le_total 0 d
  · rw [min_eq_left hd, max_eq_right hd]
    exact ⟨le_roundHalfUp_of_le hw (by nlinarith), roundHalfUp_le_of_le hw (by nlinarith)⟩
  · rw [min_eq_right hd, max_eq_left hd]
    exact ⟨le_roundHalfUp_of_le hw (by nlinarith), roundHalfUp_le_of_le hw (by nlinarith)⟩

/-- The curve value stands above the segment's lower point by the rounded height of the line (R49). -/
theorem curveValue_eq_roundHalfUp (points : Vector Nat 9) {t i : Nat} (hi : i < 8) {k w d : Int} (hit : i = min (t / 8) 7)
    (hk : k = (t : Int) - 8 * i) (hw : w = if i = 7 then 7 else 8)
    (hd : d = (points[i + 1] : Int) - (points[i] : Int)) :
    curveValue points t = (points[i] : Int) + roundHalfUp (d * k) w := by
  subst hit hk hw hd
  unfold roundHalfUp
  rw [← mul_assoc]
  rfl

/-- A throttle stands in its segment (R49). -/
theorem throttle_in_segment {t i : Nat} {k w : Int} (ht : t < 64) (hi : i = min (t / 8) 7) (hk : k = (t : Int) - 8 * i)
    (hw : w = if i = 7 then 7 else 8) : 0 < w ∧ 0 ≤ k ∧ k ≤ w := by
  split at hw <;> omega

/-- Settles O25: the curve value is a rounded height over the segment's lower point, and rounding keeps whole numbers and
crosses none. -/
theorem curveValuesLieOnTheLine : Obligations.CurveValuesLieOnTheLine := by
  unfold Obligations.CurveValuesLieOnTheLine
  intro points t i hi k w d _ ht hit hk hw hd
  have hvalue := curveValue_eq_roundHalfUp points hi hit hk hw hd
  obtain ⟨hw0, hk0, hkw⟩ := throttle_in_segment ht hit hk hw
  obtain ⟨hmin, hmax⟩ := roundHalfUp_between (d := d) hw0 hk0 hkw
  have hbelow := lt_roundHalfUp hw0 (d * k)
  have habove := roundHalfUp_le hw0 (d * k)
  rw [← mul_assoc] at hbelow habove
  rw [hvalue, add_sub_cancel_left]
  refine ⟨by rw [roundHalfUp, mul_assoc], hbelow, habove, by omega, by omega, ?_, ?_⟩
  · rintro rfl
    rw [mul_zero, ← mul_zero w, roundHalfUp_mul hw0, add_zero]
  · rintro rfl
    obtain rfl : i = 7 := hit
    obtain rfl : k = w := by rw [hk, hw]; rfl
    rw [mul_comm, roundHalfUp_mul hw0, hd, add_sub_cancel]

end Sys2Proof.Machine

/-! No speed step exceeds a cap on its car, and the hard zeroes hold (R48, R50, R53, R55); O26. -/

namespace Sys2Proof.Machine

/-! ### What the flags of a DRIVE frame leave of the car and port records -/

/-- From `s` to `t` the car records change in reservation and latch alone, and no port is configured anew. -/
structure State.KeepsRecords (s t : State) : Prop where
  car : ∀ a, t.car a = { s.car a with reservation := (t.car a).reservation, armed := (t.car a).armed }
  config : ∀ p, (t.port p).config = (s.port p).config

theorem State.KeepsRecords.refl (s : State) : s.KeepsRecords s := ⟨fun _ => rfl, fun _ => rfl⟩

theorem State.KeepsRecords.trans {s t u : State} (h : s.KeepsRecords t) (k : t.KeepsRecords u) : s.KeepsRecords u :=
  ⟨fun a => (k.car a).trans (by rw [h.car a]), fun p => (k.config p).trans (h.config p)⟩

/-- An operation that leaves both tables as they are. -/
theorem State.KeepsRecords.untouched {s t : State} (hc : t.cars = s.cars := by simp) (hp : t.ports = s.ports := by simp) :
    s.KeepsRecords t :=
  ⟨fun a => by rw [show t.car a = s.car a from congrArg (·[a.val]) hc],
    fun p => by rw [show t.port p = s.port p from congrArg (·[p.val]) hp]⟩

theorem State.KeepsRecords.notifyPort (s : State) (n : Notice) (p : PortIx) : s.KeepsRecords (s.notifyPort n p) :=
  .untouched

theorem State.KeepsRecords.claimSlot (s : State) (h : Option SlotIx) (c : Option PortIx) :
    s.KeepsRecords (s.claimSlot h c) :=
  .untouched

theorem State.KeepsRecords.writeFlags (s : State) (h : SlotIx) (lane pair : Bool) :
    s.KeepsRecords (s.writeFlags h lane pair) :=
  .untouched

theorem State.KeepsRecords.setSession (s : State) (p : PortIx) (x : Option Session) : s.KeepsRecords (s.setSession p x) :=
  .untouched

theorem State.KeepsRecords.enqueue (s : State) (p : PortIx) : s.KeepsRecords (s.enqueue p) := .untouched

theorem State.KeepsRecords.modCar (s : State) {a : CarIx} {f : Car → Car}
    (hf : f (s.car a) = { s.car a with reservation := (f (s.car a)).reservation, armed := (f (s.car a)).armed }) :
    s.KeepsRecords (s.modCar a f) where
  car := State.modCar_forall (R := fun c d => d = { c with reservation := d.reservation, armed := d.armed }) (fun _ => rfl) hf
  config := fun p => by simp

/-- R36 clears latches alone. -/
theorem State.KeepsRecords.disarmMoved {s t : State} (h : s.KeepsRecords t) (before : State) :
    s.KeepsRecords (State.disarmMoved before t) :=
  h.trans ⟨fun a => by rw [State.disarmMoved_car], fun p => by simp⟩

theorem State.KeepsRecords.reserve (s : State) (a : CarIx) (p : PortIx) : s.KeepsRecords (s.reserve a p) :=
  (State.KeepsRecords.modCar s rfl).disarmMoved s

theorem State.KeepsRecords.release (s : State) (a : CarIx) : s.KeepsRecords (s.release a) :=
  (State.KeepsRecords.modCar s rfl).disarmMoved s

theorem Port.issue_config (q : Port) (m : HubMsg) : (q.issue m).config = q.config := by
  unfold Port.issue
  split <;> rfl

theorem State.KeepsRecords.sendLamp (s : State) (p : PortIx) (v : Lamp) : s.KeepsRecords (s.sendLamp p v) where
  car := fun a => by simp
  config := fun r => by
    unfold State.sendLamp
    split
    · rw [State.port_modPort]
      split
      case isTrue e => rw [← e, Port.issue_config]
      case isFalse => rfl
    · rfl

theorem State.KeepsRecords.showSession (s : State) (p : PortIx) (old : SessionState) (x : Session) :
    s.KeepsRecords (s.showSession p old x) := by
  unfold State.showSession
  dsimp only
  split
  · exact .setSession s p _
  · exact (State.KeepsRecords.setSession s p _).trans (.sendLamp _ _ _)

theorem State.KeepsRecords.openSession (s : State) (p : PortIx) (old : SessionState) (h : Option SlotIx) (ms : Nat) :
    s.KeepsRecords (s.openSession p old h ms) :=
  (State.KeepsRecords.claimSlot s h (some p)).trans (.showSession _ _ _ _)

theorem State.KeepsRecords.releaseSession (s : State) (p : PortIx) (x : Session) :
    s.KeepsRecords (s.releaseSession p x) := by
  have h : s.KeepsRecords ((s.removeSequence p).abandonWindows p) := .untouched
  unfold State.releaseSession
  dsimp only
  generalize (s.removeSequence p).abandonWindows p = u at h
  split
  · exact h.trans (.claimSlot _ _ _)
  · split
    · exact (h.trans (.release u _)).trans (.claimSlot _ _ _)
    · exact h.trans (.claimSlot _ _ _)

theorem State.KeepsRecords.failSession (s : State) (p : PortIx) (x : Session) (why : SessionOutcome) :
    s.KeepsRecords (s.failSession p x why) :=
  ((State.KeepsRecords.releaseSession s p x).trans (.showSession _ _ _ _)).trans (.notifyPort _ _ _)

theorem State.KeepsRecords.reserveFor (s : State) (p : PortIx) (x : Session) (a : CarIx) :
    s.KeepsRecords (s.reserveFor p x a) :=
  ((State.KeepsRecords.reserve s a p).trans (.setSession _ _ _)).trans (.enqueue _ _)

theorem State.KeepsRecords.lookup (s : State) (p : PortIx) (x : Session) (id : Identity) :
    s.KeepsRecords (s.lookup p x id) := by
  unfold State.lookup
  split
  · exact .failSession s p x _
  · split
    · split
      · exact .failSession s p x _
      · exact .reserveFor s p x _
    · split
      · exact .failSession s p x _
      · exact .reserveFor s p x _

theorem State.KeepsRecords.fillSession (s : State) (p : PortIx) (x : Session) : s.KeepsRecords (s.fillSession p x) := by
  have h := State.KeepsRecords.setSession s p (some x)
  unfold State.fillSession
  dsimp only
  split
  · exact h.trans (.lookup _ _ _ _)
  · exact h

theorem State.KeepsRecords.joinSession (s : State) (p : PortIx) (h : SlotIx) : s.KeepsRecords (s.joinSession p h) := by
  unfold State.joinSession
  split
  · exact .refl s
  · exact (State.KeepsRecords.claimSlot s (some h) (some p)).trans (.fillSession _ _ _)

theorem State.KeepsRecords.openDefault (s : State) (h : SlotIx) : s.KeepsRecords (s.openDefault h) := by
  unfold State.openDefault
  split
  · exact .refl s
  · split
    · exact .refl s
    · split
      · exact .refl s
      · exact .openSession _ _ _ _ _

theorem State.KeepsRecords.gesture (s : State) (h : SlotIx) : s.KeepsRecords (s.gesture h) := by
  unfold State.gesture
  split
  · exact .refl s
  · split
    · exact .joinSession _ _ _
    · exact .openDefault _ _

theorem State.KeepsRecords.pairEdge (s : State) (h : SlotIx) (pair : Bool) : s.KeepsRecords (s.pairEdge h pair) := by
  unfold State.pairEdge
  split
  · exact .gesture s h
  · exact .refl s

theorem State.KeepsRecords.laneEdge (s : State) (h : SlotIx) (target : Option CarIx) (lane : Bool) :
    s.KeepsRecords (s.laneEdge h target lane) :=
  ⟨fun a => by rw [State.laneEdge_car], fun p => by simp⟩

/-- A lane edge and a pair gesture change no limit, no link state and no cross cap (R30, R31, R73). -/
theorem State.KeepsRecords.driveFlags (s : State) (h : SlotIx) (target : Option CarIx) (lane pair : Bool) :
    s.KeepsRecords (s.driveFlags h target lane pair) :=
  ((State.KeepsRecords.laneEdge s h target lane).trans (.pairEdge _ h pair)).trans (.writeFlags _ _ _ _)

theorem State.KeepsRecords.link {s t : State} (h : s.KeepsRecords t) (a : CarIx) : (t.car a).link = (s.car a).link := by
  rw [h.car a]

/-- The caps on a car stand where its record, the configurations, the lists and the caution cap do. -/
theorem State.CapsCar.of_keeps {s t : State} {a : CarIx} {c : Nat} (hcap : s.CapsCar a c) (h : s.KeepsRecords t)
    (hzones : t.zones = s.zones) (hrace : t.race = s.race) (hcaution : t.cautionCap = s.cautionCap) : t.CapsCar a c := by
  unfold State.CapsCar State.zone
  rw [hzones, hrace, hcaution, h.car a]
  simp only [h.config]
  exact hcap

/-! ### The speed step -/

/-- The new fine speed never exceeds the ceiling (R50, R52). -/
theorem State.shapedFine_le_ceiling (s : State) (a : CarIx) (throttle : Nat) (brake : Bool) :
    s.shapedFine a throttle brake ≤ s.ceiling a := by
  unfold State.shapedFine
  split
  · exact Nat.zero_le _
  · exact Nat.min_le_right _ _

/-- The CAR frame asks for the step of the new fine speed, and for the brake when the DRIVE frame or a hard zero does (R53,
R55). -/
theorem State.carFrame_eq (s : State) (a : CarIx) (throttle : Nat) (brake : Bool) : s.carFrame a throttle brake =
    .car a (min 15 ((s.shapedFine a throttle brake + 8) / 16)) (brake || s.hardZero a) (s.car a).armed := by
  cases hz : s.hardZero a with
  | true =>
    obtain ⟨hfine, hframe⟩ := State.shaped_of_hardZero hz throttle brake
    rw [hframe, hfine, Bool.or_true]
    rfl
  | false => rw [State.carFrame_of_run hz, Bool.or_false]

/-- Under the brake, the driver's or that of a hard zero, the new fine speed is 0 (R48, R52). -/
theorem State.shapedFine_of_braked {s : State} {a : CarIx} {throttle : Nat} {brake : Bool}
    (h : (brake || s.hardZero a) = true) : s.shapedFine a throttle brake = 0 := by
  obtain rfl | hz := Bool.or_eq_true_iff.1 h
  · exact s.shapedFine_of_brake a throttle
  · exact (State.shaped_of_hardZero hz throttle brake).1

theorem speedStep_zero : speedStep 0 = 0 := by decide

/-- A shaped car has the new fine speed, and else the record that it had. -/
theorem State.shape_car (s : State) (a : CarIx) (throttle : Nat) (brake : Bool) :
    (s.shape a throttle brake).car a = { s.car a with fine := s.shapedFine a throttle brake } := by
  rw [State.shape, State.car_modCar, if_pos rfl]

/-! ### The frame -/

/-- What the resolution of a slot reads (R26). -/
theorem State.resolve_congr {s t : State} (hslots : t.slots = s.slots) (hcars : t.cars = s.cars)
    (hfallback : t.directFallback = s.directFallback) (h : SlotIx) : t.resolve h = s.resolve h := by
  unfold State.resolve State.slot State.car
  rw [hslots, hcars, hfallback]

/-- The slot field of a DRIVE frame from slot `h` names that slot (R2). -/
theorem slotOf_ofNat (h : SlotIx) : slotOf (BitVec.ofNat 5 h.val).toNat = some h := by
  revert h
  decide

/-- A DRIVE frame resolved to a car, outside REST, interrupts a request under assembly, handles the flags, shapes the car and
sends its CAR frame (R30, R154). -/
theorem exec_driveFrame_of_resolved {s : State} {h : SlotIx} {a : CarIx} (hr : s.resetHeld = false) (hp : s.part ≠ .rest)
    (ht : s.resolve h = some a) (throttle : BitVec 6) (brake lane pair : Bool) :
    exec (.driveFrame (BitVec.ofNat 5 h.val) throttle brake lane pair) s =
      .next (((s.arriveOther.driveFlags h (some a) lane pair).shape a throttle.toNat brake).position
        (.frame ((s.arriveOther.driveFlags h (some a) lane pair).carFrame a throttle.toNat brake))) := by
  have hresolve : s.arriveOther.resolve h = some a :=
    (State.resolve_congr (by simp) (by simp) (by simp) h).trans ht
  have heffect : s.driveFrame (BitVec.ofNat 5 h.val) throttle brake lane pair =
      s.arriveOther.driveSlot h throttle.toNat brake lane pair := by
    simp only [State.driveFrame, slotOf_ofNat, if_neg hp]
  rw [State.driveSlot_of_resolved hresolve, hresolve] at heffect
  rw [← heffect]
  exact exec_of_effect hr rfl rfl

/-- Settles O26: the fine speed stays within the ceiling, which bounds the step by every cap, and the brake comes with a fine
speed of 0. -/
theorem speedStepsObeyEveryCap : Obligations.SpeedStepsObeyEveryCap := by
  unfold Obligations.SpeedStepsObeyEveryCap
  intro h throttle brake lane pair a s hr hp hlists hresolve
  have hexec := exec_driveFrame_of_resolved hr hp hresolve throttle brake lane pair
  have hkeeps : s.KeepsRecords (s.arriveOther.driveFlags h (some a) lane pair) :=
    (State.KeepsRecords.untouched (t := s.arriveOther)).trans (.driveFlags _ _ _ _ _)
  have hzones : (s.arriveOther.driveFlags h (some a) lane pair).zones = s.zones := by simp
  have hrace : (s.arriveOther.driveFlags h (some a) lane pair).race = s.race := by simp
  have hpart : (s.arriveOther.driveFlags h (some a) lane pair).part = s.part := by simp
  have hcaution : (s.arriveOther.driveFlags h (some a) lane pair).cautionCap = s.cautionCap := by simp
  generalize s.arriveOther.driveFlags h (some a) lane pair = x at hexec hkeeps hzones hrace hpart hcaution
  have hzero : (s.race = .grid ∨ s.race = .stop ∨ (s.car a).link = .lost ∨ (x.car a).reservation ≠ none ∨
      s.part = .startup ∨ s.part = .waking ∨ s.part = .halt) ↔ x.hardZero a = true := by
    rw [State.hardZero_iff, hkeeps.link, hrace, hpart]
    tauto
  rw [State.carFrame_eq] at hexec
  refine ⟨x.shape a throttle.toNat brake, _, brake || x.hardZero a, ?_, rfl, ?_⟩
  · rw [State.shape_car]
    exact hexec
  rw [State.shape_car, hzero]
  refine ⟨fun c hc => ?_, fun hz => ?_, fun hz => ?_, fun hb => ?_⟩
  · have hfine : x.shapedFine a throttle.toNat brake ≤ c :=
      (x.shapedFine_le_ceiling a throttle.toNat brake).trans
        (((hlists.oneEntry a).of_zones hzones).ceiling_le (hc.of_keeps hkeeps hzones hrace hcaution))
    exact ⟨hfine, (min_le_right _ _).trans (Nat.div_le_div_right (Nat.add_le_add_right hfine 8))⟩
  · have hb : (brake || x.hardZero a) = true := by rw [hz, Bool.or_true]
    rw [State.shapedFine_of_braked hb]
    exact ⟨rfl, speedStep_zero, hb⟩
  · rw [Bool.eq_false_iff.2 hz, Bool.or_false]
  · rw [State.shapedFine_of_braked hb]
    exact speedStep_zero

end Sys2Proof.Machine

/-! What the result of a CAR frame's answer window does to the link fields of the car that the frame named (R56 to R61, R67); O19. -/

namespace Sys2Proof.Machine

/-! ### The Link Monitor's operations: the car, the notices and their subject -/

theorem State.loseLink_writes (s : State) (a : CarIx) :
    (s.loseLink a).car a = { s.car a with link := .lost, faults := 255, streak := 0, armed := false } ∧
      (s.loseLink a).notices = setFlag s.notices .linkLost ∧ (s.loseLink a).lastCar = some a :=
  ⟨(s.car_modCar a a fun c => { c with link := .lost, faults := 255, streak := 0, armed := false }).trans (if_pos rfl),
    rfl, rfl⟩

theorem State.restoreLink_writes (s : State) (a : CarIx) :
    (s.restoreLink a).car a = { s.car a with link := .active, faults := 0, streak := 0 } ∧
      (s.restoreLink a).notices = setFlag s.notices .linkRestored ∧ (s.restoreLink a).lastCar = some a :=
  ⟨(s.car_modCar a a Car.linkReset).trans (if_pos rfl), rfl, rfl⟩

/-- The new count gives the link state, whatever the change raises (R56). -/
theorem State.setFaults_car (s : State) (a : CarIx) (n : Nat) :
    (s.setFaults a n).car a = { s.car a with faults := n, link := linkOf n } := by
  have h := (s.car_modCar a a fun c => { c with faults := n, link := linkOf n }).trans (if_pos rfl)
  unfold State.setFaults
  dsimp only
  split <;> exact h

/-- The change from ACTIVE to WARN sets LINK_WARN (R60). -/
theorem State.setFaults_warns {s : State} {a : CarIx} {n : Nat} (h : (s.car a).link = .active ∧ linkOf n = .warn) :
    (s.setFaults a n).notices = setFlag s.notices .linkWarn ∧ (s.setFaults a n).lastCar = some a := by
  unfold State.setFaults
  rw [if_pos h]
  exact ⟨rfl, rfl⟩

/-- No other change of the count sets a notice (R60). -/
theorem State.setFaults_silent {s : State} {a : CarIx} {n : Nat} (h : ¬((s.car a).link = .active ∧ linkOf n = .warn)) :
    (s.setFaults a n).notices = s.notices ∧ (s.setFaults a n).lastCar = s.lastCar := by
  unfold State.setFaults
  rw [if_neg h]
  exact ⟨rfl, rfl⟩

theorem State.streak_writes (s : State) (a : CarIx) (n : Nat) :
    (s.modCar a fun c => { c with streak := n }).car a = { s.car a with streak := n } ∧
      (s.modCar a fun c => { c with streak := n }).notices = s.notices ∧
      (s.modCar a fun c => { c with streak := n }).lastCar = s.lastCar :=
  ⟨(s.car_modCar a a fun c => { c with streak := n }).trans (if_pos rfl), rfl, rfl⟩

/-! ### The result by link state, answer and count -/

section
variable {s : State} {a : CarIx}

/-- A silence past 255 loses the link (R58). -/
theorem State.linkResult_of_overflow (hl : (s.car a).link ≠ .lost) (hf : 255 < (s.car a).faults + 8) :
    s.linkResult a false = s.loseLink a := by
  simp [State.linkResult, -State.car_eq, hl, hf]

/-- Any other silence outside LOST adds 8 (R58). -/
theorem State.linkResult_of_silent (hl : (s.car a).link ≠ .lost) (hf : (s.car a).faults + 8 ≤ 255) :
    s.linkResult a false = s.setFaults a ((s.car a).faults + 8) := by
  simp [State.linkResult, -State.car_eq, hl, Nat.not_lt.2 hf]

/-- An answer outside LOST takes 1 away (R59). -/
theorem State.linkResult_of_answer (hl : (s.car a).link ≠ .lost) :
    s.linkResult a true = s.setFaults a ((s.car a).faults - 1) := by
  simp [State.linkResult, -State.car_eq, hl]

/-- An answer in LOST before the 24th in a row raises the streak (R61). -/
theorem State.linkResult_of_streak (hl : (s.car a).link = .lost) (hs : (s.car a).streak < 23) :
    s.linkResult a true = s.modCar a fun c => { c with streak := (s.car a).streak + 1 } := by
  have h24 : ¬ 24 ≤ (s.car a).streak + 1 := by omega
  simp only [State.linkResult, State.lostResult, hl, h24, if_true, if_false]
  rfl

/-- The 24th answer in a row restores the link (R61). -/
theorem State.linkResult_of_restored (hl : (s.car a).link = .lost) (hs : 23 ≤ (s.car a).streak) :
    s.linkResult a true = s.restoreLink a := by
  have h24 : 24 ≤ (s.car a).streak + 1 := by omega
  simp only [State.linkResult, State.lostResult, hl, h24, if_true]

/-- A silence in LOST starts the streak again (R61). -/
theorem State.linkResult_of_lost_silent (hl : (s.car a).link = .lost) :
    s.linkResult a false = s.modCar a fun c => { c with streak := 0 } := by
  simp [State.linkResult, State.lostResult, -State.car_eq, hl]

end

/-- A result writes the record of the car it names, the notices and their subject, and nothing else. -/
theorem State.linkResult_eq (s : State) (a : CarIx) (answered : Bool) :
    s.linkResult a answered = { s with
      cars := s.cars.set a ((s.linkResult a answered).car a)
      notices := (s.linkResult a answered).notices, lastCar := (s.linkResult a answered).lastCar } := by
  have h : ∃ c notices lastCar, s.linkResult a answered =
      { s with cars := s.cars.set a c, notices := notices, lastCar := lastCar } := by
    unfold State.linkResult State.lostResult State.setFaults
    (repeat' split) <;> exact ⟨_, _, _, rfl⟩
  obtain ⟨c, notices, lastCar, h⟩ := h
  rw [h]
  simp

/-! ### The close of a CAR frame's window -/

theorem carOf_carCode (a : CarIx) : carOf (carCode a).toNat = some a := by revert a; decide

/-- The result is applied to the car that the frame named, in the state without the window (R16, R57). -/
theorem exec_carClose {a : CarIx} {s u : State} (h : s.resetHeld = false)
    (hc : s.Closes (fun w => w = .car a) (.car a) u) (answered : Bool) :
    exec (.carAnswerWindowClose (carCode a) answered) s = .next (u.linkResult a answered) := by
  have hclose : s.closeCarAddress (carCode a) answered = u.linkResult a answered := by
    unfold State.closeCarAddress State.closeCarWindow
    rw [carOf_carCode]
    dsimp only
    rw [hc.closeWindow fun _ => decide_eq_true_iff]
  rw [← hclose]
  exact exec_of_effect h rfl rfl

/-- While the car is ACTIVE an answer keeps the count below 96, so no answer brings it to WARN (R56, R60). -/
theorem Car.LinkLawful.answer_raises_none {c : Car} (h : c.LinkLawful) :
    ¬(c.link = .active ∧ linkOf (c.faults - 1) = .warn) := by
  rintro ⟨ha, hw⟩
  obtain ⟨-, -, -, hout⟩ := h
  obtain ⟨hl, -⟩ := hout (by rw [ha]; exact fun e => nomatch e)
  have hlow : c.faults < 96 := by
    by_contra hn
    rw [ha] at hl
    unfold linkOf at hl
    rw [if_neg hn] at hl
    split at hl <;> cases hl
  unfold linkOf at hw
  rw [if_pos (by omega)] at hw
  cases hw

/-- Settles O19: the close hands the result to the Link Monitor, which takes one of six ways by link state, answer and count. -/
theorem answerResultsMoveTheLinkState : Obligations.AnswerResultsMoveTheLinkState := by
  unfold Obligations.AnswerResultsMoveTheLinkState
  intro a answered s u hr hlawful hc
  have hexec := exec_carClose hr hc answered
  have heq := u.linkResult_eq a answered
  obtain ⟨hcar, hcars, hnotices, hlast⟩ : s.car a = u.car a ∧ s.cars = u.cars ∧ s.notices = u.notices ∧
      s.lastCar = u.lastCar := by
    obtain ⟨_, _, _, rfl⟩ := hc.eq
    exact ⟨rfl, rfl, rfl, rfl⟩
  rw [hcar, hcars, hnotices, hlast]
  rw [hcar] at hlawful
  refine ⟨_, hexec, heq, ?_, ?_, ?_, ?_, ?_, ?_⟩
  · rintro hl rfl hf
    rw [State.linkResult_of_overflow hl hf]
    exact State.loseLink_writes _ a
  · rintro hl rfl hf
    rw [State.linkResult_of_silent hl hf, State.setFaults_car]
    exact ⟨rfl, State.setFaults_warns, State.setFaults_silent⟩
  · rintro hl rfl
    rw [State.linkResult_of_answer hl, State.setFaults_car]
    exact ⟨rfl, State.setFaults_silent hlawful.answer_raises_none⟩
  · rintro hl rfl hs
    rw [State.linkResult_of_streak hl hs]
    exact State.streak_writes _ a _
  · rintro hl rfl hs
    rw [State.linkResult_of_restored hl hs.ge]
    exact State.restoreLink_writes _ a
  · rintro hl rfl
    rw [State.linkResult_of_lost_silent hl]
    exact State.streak_writes _ a 0

end Sys2Proof.Machine

/-! Which operations leave every car's link fields as they are (R64): all but the answer results, REVIVE, the pairing commit and the
resets; for O55. -/

namespace Sys2Proof.Machine

/-! ### The link fields -/

/-- The fields that the Link Monitor owns (R56): link state, fault count and streak. -/
def Car.linkFields (c : Car) : LinkState × Nat × Nat := (c.link, c.faults, c.streak)

/-- The link fields of each car (R56). -/
def State.links (s : State) : CarIx → LinkState × Nat × Nat := fun a => (s.car a).linkFields

theorem State.links_of_cars {s t : State} (h : t.cars = s.cars) : t.links = s.links := by
  unfold State.links State.car
  rw [h]

theorem State.links_of_forall {s t : State} (h : ∀ a, (t.car a).linkFields = (s.car a).linkFields) : t.links = s.links :=
  funext h

theorem State.links_modCar {s : State} {a : CarIx} {f : Car → Car} (hf : (f (s.car a)).linkFields = (s.car a).linkFields) :
    (s.modCar a f).links = s.links :=
  State.links_of_forall (State.modCar_forall (R := fun c d => d.linkFields = c.linkFields) (fun _ => rfl) hf)

theorem State.links_mapCars {s : State} {f : CarIx → Car → Car} (hf : ∀ a c, (f a c).linkFields = c.linkFields) :
    (s.mapCars f).links = s.links :=
  State.links_of_forall fun a => by rw [State.car_mapCars, hf]

theorem State.links_modCar_fresh (s : State) (a : CarIx) {f : Car → Car} (hf : ∀ c, (f c).linkFields = Car.reset.linkFields) :
    (s.modCar a f).links = fun b => if a = b then Car.reset.linkFields else s.links b := by
  funext b
  unfold State.links
  rw [State.car_modCar]
  split
  · exact hf _
  · rfl

/-- Where only reservations and latches change, the link fields stand. -/
theorem State.KeepsRecords.links {s t : State} (h : s.KeepsRecords t) : t.links = s.links :=
  State.links_of_forall fun a => by rw [h.car a]; rfl

/-! ### The Slot Map and the Throttle Shaper -/

@[simp] theorem State.disarmMoved_links (s t : State) : (State.disarmMoved s t).links = t.links :=
  State.links_of_forall fun a => by rw [State.disarmMoved_car]; rfl

@[simp] theorem State.disarm_links (s : State) (a : CarIx) : (s.disarm a).links = s.links := State.links_modCar rfl

@[simp] theorem State.disarmAll_links (s : State) : s.disarmAll.links = s.links := State.links_mapCars fun _ _ => rfl

@[simp] theorem State.zeroFine_links (s : State) : s.zeroFine.links = s.links := State.links_mapCars fun _ _ => rfl

@[simp] theorem State.shape_links (s : State) (a : CarIx) (t : Nat) (brake : Bool) : (s.shape a t brake).links = s.links :=
  State.links_modCar rfl

@[simp] theorem State.dropBinding_links (s : State) (h : SlotIx) : (s.dropBinding h).links = s.links :=
  State.links_of_forall fun b => by rw [State.dropBinding_onlyHolder]; rfl

@[simp] theorem State.dropHolder_links (s : State) (a : CarIx) : (s.dropHolder a).links = s.links :=
  State.links_of_forall fun b => by rw [State.dropHolder_onlyHolder]; rfl

@[simp] theorem State.bindTo_links (s : State) (h : SlotIx) (a : CarIx) : (s.bindTo h a).links = s.links :=
  State.links_of_forall fun b => by rw [State.bindTo_onlyHolder]; rfl

@[simp] theorem State.bindCar_links (s : State) (h : SlotIx) (a : CarIx) : (s.bindCar h a).links = s.links := by
  simp [State.bindCar]

@[simp] theorem State.unbindSlot_links (s : State) (h : SlotIx) : (s.unbindSlot h).links = s.links := by
  simp [State.unbindSlot]

@[simp] theorem State.forgetCar_links (s : State) (a : CarIx) : (s.forgetCar a).links = s.links := by
  unfold State.forgetCar
  split
  · rfl
  · rw [State.disarmMoved_links]
    exact Eq.trans (State.links_modCar rfl) (s.dropHolder_links a)

@[simp] theorem State.setFallback_links (s : State) (on : Bool) : (s.setFallback on).links = s.links := by
  unfold State.setFallback
  rw [State.disarmMoved_links]
  rfl

/-- The pairing commit restarts the link of the committed car alone (R42 step 5, R63). -/
theorem State.commit_links (s : State) (h : SlotIx) (a : CarIx) (id : Identity) :
    (s.commit h a id).links = fun b => if a = b then Car.reset.linkFields else s.links b := by
  have hc : ((s.bindTo h a).clearIdentity a id).links = s.links :=
    Eq.trans (State.links_mapCars fun b c => by split <;> rfl) (s.bindTo_links h a)
  unfold State.commit
  rw [State.disarmMoved_links, ← hc]
  exact State.links_modCar_fresh _ a fun _ => rfl

/-! ### Sessions, approaches and the part -/

theorem State.KeepsRecords.abortSession (s : State) (p : PortIx) : s.KeepsRecords (s.abortSession p) := by
  unfold State.abortSession
  split
  · exact .refl s
  · split
    · exact ((State.KeepsRecords.releaseSession s p _).trans (.setSession _ _ _)).trans (.notifyPort _ _ _)
    · exact .setSession s p _

theorem State.KeepsRecords.takeIdentity (s : State) (p : PortIx) (id : Identity) :
    s.KeepsRecords (s.takeIdentity p id) := by
  unfold State.takeIdentity
  split
  · exact .refl s
  · split
    · exact .fillSession s p _
    · exact .refl s

@[simp] theorem State.writeRole_links (s : State) (p : PortIx) (role : Role) : (s.writeRole p role).links = s.links := by
  have h : ((s.abandon p).abortSession p).links = s.links :=
    (State.KeepsRecords.abortSession _ p).links.trans (State.links_of_cars (by simp))
  exact (State.links_of_cars (by simp [State.writeRole])).trans h

theorem State.silentAttempt_links (s : State) (p : PortIx) (x : Session) : (s.silentAttempt p x).links = s.links := by
  unfold State.silentAttempt
  dsimp only
  split
  · exact State.links_of_cars (by simp)
  · exact (State.KeepsRecords.failSession s p _ _).links

@[simp] theorem State.approach_links (s : State) (p : PortIx) (code : BitVec 5) : (s.approach p code).links = s.links := by
  unfold State.approach
  split
  · rename_i a _ _
    exact (State.links_of_cars (by simp [State.grantCar])).trans (s.disarm_links a)
  · rfl
  · exact State.links_of_cars (by simp)
  · exact State.links_of_cars (by simp)

@[simp] theorem State.selfThrowCar_links (s : State) (p : PortIx) (car : Option CarIx) :
    (s.selfThrowCar p car).links = s.links := by
  unfold State.selfThrowCar
  split
  · rfl
  · split
    · exact (State.disarm_links _ _).trans (State.links_of_cars (by simp))
    · exact State.links_of_cars (by simp)

@[simp] theorem State.takeSelfThrow_links (s : State) (p : PortIx) (code : BitVec 5) :
    (s.takeSelfThrow p code).links = s.links := by
  have h : ((s.countThrow p).selfThrowCar p (carOf code.toNat)).links = s.links :=
    (State.selfThrowCar_links _ _ _).trans (State.links_of_cars (by simp))
  exact (State.links_of_cars (by simp [State.takeSelfThrow])).trans h

@[simp] theorem State.writeRace_links (s : State) (race : RaceState) (e : Bool) : (s.writeRace race e).links = s.links := by
  unfold State.writeRace
  dsimp only
  split
  · rfl
  · exact State.disarmAll_links _

@[simp] theorem State.enterHalt_links (s : State) : s.enterHalt.links = s.links := by
  have h : s.disarmAll.zeroFine.links = s.links := by simp
  exact (State.links_of_cars (by simp [State.enterHalt])).trans h

@[simp] theorem State.enterRest_links (s : State) : s.enterRest.links = s.links :=
  (State.zeroFine_links (s.mapPorts Port.rest)).trans (State.links_of_cars (by simp))

/-- Both settings that MODE writes leave the link fields (R64). -/
@[simp] theorem State.writeMode_links (s : State) (w v on : Bool) (bay : Option PortIx) :
    (s.writeMode w v on bay).links = s.links := by
  have h : (if w then s.setFallback on else s).links = s.links := by
    split
    · exact s.setFallback_links on
    · rfl
  unfold State.writeMode
  dsimp only
  split
  · exact h
  · exact h

/-! ### The upstream frames -/

theorem State.cycleFrame_links (s : State) (race : RaceState) (e : Bool) (b : BitVec 13) :
    (s.cycleFrame race e b).links = s.links := by
  have hrun : ∀ u : State, u.cycleRun.links = u.links := fun u => State.links_of_cars (by simp)
  unfold State.cycleFrame
  rw [hrun, State.writeRace_links]
  exact State.links_of_cars (by simp)

theorem State.discardFrame_links (s : State) : s.discardFrame.links = s.links :=
  State.links_of_cars (by simp [State.discardFrame])

theorem State.frameError_links (s : State) : s.frameError.links = s.links :=
  (State.discardFrame_links _).trans (State.links_of_cars rfl)

theorem State.kindError_links (s : State) : s.kindError.links = s.links :=
  (State.discardFrame_links _).trans (State.links_of_cars rfl)

theorem State.driveOut_links (s : State) (target : Option CarIx) (t : Nat) (brake : Bool) :
    (s.driveOut target t brake).links = s.links := by
  unfold State.driveOut
  split
  · exact State.links_of_cars (by simp)
  · rename_i a
    exact (State.links_of_cars (by simp)).trans (s.shape_links a t brake)

theorem State.driveFrame_links (s : State) (slot : BitVec 5) (t : BitVec 6) (b l p : Bool) :
    (s.driveFrame slot t b l p).links = s.links := by
  have ha : s.arriveOther.links = s.links := State.links_of_cars (by simp)
  unfold State.driveFrame
  split
  · exact s.frameError_links
  · split
    · exact ha
    · exact ((State.driveOut_links _ _ _ b).trans (State.KeepsRecords.driveFlags _ _ _ l p).links).trans ha

/-! ### The module messages and the expiries -/

section
variable {f : State → State} (hf : ∀ u : State, (f u).links = u.links)
include hf

theorem State.onMessage_links (s : State) (p : PortIx) : (s.onMessage p f).links = s.links := by
  unfold State.onMessage
  split
  · rfl
  · exact (hf _).trans (State.links_of_cars (by simp))

theorem State.readerMessage_links (s : State) (p : PortIx) : (s.readerMessage p f).links = s.links :=
  State.onMessage_links (fun u => by
    split
    · exact hf u
    · exact hf u
    · exact State.links_of_cars (by simp)
    · rfl) s p

theorem State.roleMessage_links (s : State) (p : PortIx) (role : Role) : (s.roleMessage p role f).links = s.links :=
  State.onMessage_links (fun u => by
    split
    · exact hf u
    · split
      · rfl
      · exact State.links_of_cars (by simp)) s p

theorem State.flapMessage_links (s : State) (p : PortIx) (ends : Bool) : (s.flapMessage p ends f).links = s.links := by
  unfold State.flapMessage
  split
  · exact State.onMessage_links (fun u => State.links_of_cars (by simp)) s p
  · exact State.roleMessage_links (fun u => by
      split
      · exact hf u
      · rfl) s p .switch

end

theorem State.expire_links {s : State} {due : Option Nat} {f : State → State} (hf : (f s).links = s.links) :
    (s.expire due f).links = s.links :=
  State.expire_induct (P := fun t => t.links = s.links) rfl fun _ _ _ => hf

/-- An expiry that acts in some states alone. -/
theorem State.expire_ite_links {s : State} {due : Option Nat} {c : State → Prop} [∀ u, Decidable (c u)]
    {f : State → State} (hf : (f s).links = s.links) : (s.expire due fun u => if c u then f u else u).links = s.links :=
  State.expire_links (by split; exacts [hf, rfl])

theorem State.windowExpires_links (s : State) (p : PortIx) : (s.windowExpires p).links = s.links := by
  unfold State.windowExpires
  split
  · rfl
  · exact State.expire_links (by split; exacts [(State.KeepsRecords.failSession s p _ _).links, rfl])

theorem State.showExpires_links (s : State) (p : PortIx) : (s.showExpires p).links = s.links := by
  unfold State.showExpires
  split
  · rfl
  · exact State.expire_links (by split; exacts [State.links_of_cars (by simp), rfl])

theorem State.entryExpires_links (s : State) (z : ZoneIx) (k : Nat) : (s.entryExpires z k).links = s.links := by
  unfold State.entryExpires
  split
  · rfl
  · exact State.expire_links (State.links_of_cars (by simp))

theorem State.guardExpires_links (s : State) (z : ZoneIx) : (s.guardExpires z).links = s.links := by
  unfold State.guardExpires
  split
  · rfl
  · exact State.expire_links (State.links_of_cars (by simp))

end Sys2Proof.Machine

/-! The requests: REVIVE and SOFT_RESET alone change link fields (R62, R64); for O55. -/

namespace Sys2Proof.Machine

/-! ### Requests that leave the car table as it is -/

theorem reqStatus_cars (s : State) (b : Bool) : (reqStatus b s).1.cars = s.cars := by cases b <;> rfl

theorem reqPortMask_cars (s : State) (port : BitVec 8) (m : Bool) : (reqPortMask port m s).1.cars = s.cars := by
  unfold reqPortMask
  (repeat' split) <;> simp

theorem reqSectionWrite_cars (s : State) (port zone : BitVec 4) (cap hold g f : BitVec 8) (th : Word16) :
    (reqSectionWrite port zone cap hold g f th s).1.cars = s.cars := by
  unfold reqSectionWrite
  dsimp only
  (repeat' split) <;> simp

theorem reqSectionRead_cars (s : State) (port : BitVec 8) : (reqSectionRead port s).1.cars = s.cars := by
  unfold reqSectionRead
  split <;> simp

theorem reqSectionCounts_cars (s : State) (port : BitVec 8) (page : BitVec 2) (e : Bool) :
    (reqSectionCounts port page e s).1.cars = s.cars := by
  unfold reqSectionCounts
  split
  · simp
  · split
    · simp
    · cases e <;> simp

theorem reqSectionClear_cars (s : State) (port : BitVec 8) : (reqSectionClear port s).1.cars = s.cars := by
  unfold reqSectionClear
  (repeat' split) <;> simp

theorem reqZoneWrite_cars (s : State) (zone capacity : BitVec 8) : (reqZoneWrite zone capacity s).1.cars = s.cars := by
  unfold reqZoneWrite
  split <;> simp

theorem reqZoneRead_cars (s : State) (zone : BitVec 8) (page : BitVec 2) : (reqZoneRead zone page s).1.cars = s.cars := by
  unfold reqZoneRead
  (repeat' split) <;> simp

theorem reqCurveWrite_cars (s : State) (curve point : BitVec 4) (v : BitVec 8) :
    (reqCurveWrite curve point v s).1.cars = s.cars := by
  unfold reqCurveWrite
  split <;> simp [State.writePoint]

theorem reqCurveRead_cars (s : State) (curve half : BitVec 4) : (reqCurveRead curve half s).1.cars = s.cars := by
  unfold reqCurveRead
  (repeat' split) <;> simp

theorem reqCarRead_cars (s : State) (addr : BitVec 8) : (reqCarRead addr s).1.cars = s.cars := by
  unfold reqCarRead
  split <;> simp

theorem reqCarIdentity_cars (s : State) (addr : BitVec 8) : (reqCarIdentity addr s).1.cars = s.cars := by
  unfold reqCarIdentity
  (repeat' split) <;> simp

theorem reqPairOpen_cars (s : State) (port slot window : BitVec 8) : (reqPairOpen port slot window s).1.cars = s.cars := by
  unfold reqPairOpen
  dsimp only
  (repeat' split) <;> simp

theorem reqPairRead_cars (s : State) (port : BitVec 8) (page : BitVec 2) : (reqPairRead port page s).1.cars = s.cars := by
  unfold reqPairRead
  (repeat' split) <;> simp

theorem reqWake_cars (s : State) : (reqWake s).1.cars = s.cars := by
  unfold reqWake
  dsimp only
  split <;> simp

/-! ### Requests that change cars and leave their link fields -/

theorem reqPortRole_links (s : State) (port : BitVec 8) (role : BitVec 4) : (reqPortRole port role s).1.links = s.links := by
  unfold reqPortRole
  (repeat' split) <;> simp

theorem reqCarWrite_links (s : State) (addr limit : BitVec 8) (curve : BitVec 4) (up down : BitVec 8) :
    (reqCarWrite addr limit curve up down s).1.links = s.links := by
  unfold reqCarWrite
  split
  · exact State.links_modCar rfl
  · rfl

theorem reqBind_links (s : State) (slot addr : BitVec 8) : (reqBind slot addr s).1.links = s.links := by
  unfold reqBind
  (repeat' split) <;> simp

theorem reqUnbind_links (s : State) (slot : BitVec 8) : (reqUnbind slot s).1.links = s.links := by
  unfold reqUnbind
  (repeat' split) <;> simp

theorem reqForget_links (s : State) (addr : BitVec 8) : (reqForget addr s).1.links = s.links := by
  unfold reqForget
  (repeat' split) <;> simp

theorem reqPairCancel_links (s : State) (port : BitVec 8) : (reqPairCancel port s).1.links = s.links := by
  unfold reqPairCancel
  split
  · rfl
  · split
    · rfl
    · split
      · exact (State.KeepsRecords.failSession s _ _ _).links
      · rfl

theorem reqMode_links (s : State) (w v on : Bool) (bay : BitVec 8) : (reqMode w v on bay s).1.links = s.links := by
  unfold reqMode
  dsimp only
  (repeat' split) <;> simp

theorem reqRest_links (s : State) : (reqRest s).1.links = s.links := by
  unfold reqRest
  split <;> simp

end Sys2Proof.Machine

/-! What a command can do to the link fields, one of the four rows of R64 and R57, and the law of R56 that follows from it; O55. -/

namespace Sys2Proof.Machine

/-! ### What a command can do -/

/-- What becomes of the link fields: all stand, an answer result is applied to one car (R57), one car starts afresh (R62, R63), or
every car does (R64). -/
inductive State.LinkMove (s t : State) : Prop
  | kept (h : t.links = s.links)
  | result (u : State) (a : CarIx) (answered : Bool) (hu : u.links = s.links) (h : t.links = (u.linkResult a answered).links)
  | restarted (a : CarIx) (h : t.links = fun b => if a = b then Car.reset.linkFields else s.links b)
  | reset (h : ∀ a, t.links a = Car.reset.linkFields)

/-- What surrounds the change and leaves the link fields. -/
theorem State.LinkMove.congr {s t s' t' : State} (h : s.LinkMove t) (hs : s.links = s'.links) (ht : t'.links = t.links) :
    s'.LinkMove t' := by
  cases h with
  | kept h => exact .kept ((ht.trans h).trans hs)
  | result u a answered hu h => exact .result u a answered (hu.trans hs) (ht.trans h)
  | restarted a h => exact .restarted a (by rw [ht, h, hs])
  | reset h => exact .reset fun a => by rw [ht, h]

theorem reqRevive_linkMove (s : State) (addr : BitVec 8) : s.LinkMove (reqRevive addr s).1 := by
  unfold reqRevive
  split
  · exact .kept rfl
  · exact .restarted _ (s.links_modCar_fresh _ fun _ => rfl)

theorem State.softReset_linkMove (s : State) : s.LinkMove s.softReset :=
  .reset fun a => by
    unfold State.links
    rw [State.softReset_car]
    rfl

/-- Every request (R157). -/
theorem requestBody_linkMove (s : State) (code : Nat) (arg : BitVec 8) (d1 d2 d3 : Word16) :
    s.LinkMove (requestBody code arg d1 d2 d3 s).1 := by
  unfold requestBody
  split
  · exact .kept rfl
  · exact .kept (State.links_of_cars (reqStatus_cars s _))
  · exact .kept rfl
  · exact .kept rfl
  · exact .kept (reqPortRole_links s _ _)
  · exact .kept (State.links_of_cars (reqPortMask_cars s _ _))
  · exact .kept (State.links_of_cars (reqSectionWrite_cars s _ _ _ _ _ _ _))
  · exact .kept (State.links_of_cars (reqSectionRead_cars s _))
  · exact .kept (State.links_of_cars (reqSectionCounts_cars s _ _ _))
  · exact .kept (State.links_of_cars (reqSectionClear_cars s _))
  · exact .kept (State.links_of_cars (reqZoneWrite_cars s _ _))
  · exact .kept (State.links_of_cars (reqZoneRead_cars s _ _))
  · exact .kept (State.links_of_cars (reqCurveWrite_cars s _ _ _))
  · exact .kept (State.links_of_cars (reqCurveRead_cars s _ _))
  · exact .kept (reqCarWrite_links s _ _ _ _ _)
  · exact .kept (State.links_of_cars (reqCarRead_cars s _))
  · exact .kept (State.links_of_cars (reqCarIdentity_cars s _))
  · exact .kept (reqBind_links s _ _)
  · exact .kept (reqUnbind_links s _)
  · exact .kept (reqForget_links s _)
  · exact .kept (State.links_of_cars (reqPairOpen_cars s _ _ _))
  · exact .kept (reqPairCancel_links s _)
  · exact .kept (State.links_of_cars (reqPairRead_cars s _ _))
  · exact reqRevive_linkMove s _
  · exact .kept rfl
  · exact .kept (reqMode_links s _ _ _ _)
  · exact .kept (reqRest_links s)
  · exact .kept (State.links_of_cars (reqWake_cars s))
  · exact s.softReset_linkMove
  · exact .kept rfl

theorem State.respond_linkMove (s : State) (code : BitVec 6) {f : State → Answer} (hf : s.LinkMove (f s).1) :
    s.LinkMove (s.respond code f) := by
  unfold State.respond
  split
  · exact .kept (State.links_of_cars (by simp))
  · exact hf.congr rfl (State.links_of_cars (by simp))

theorem State.complete_linkMove (s : State) (r : Assembly) : s.LinkMove (s.complete r) := by
  unfold State.complete
  split
  · exact .kept (State.links_of_cars (by simp))
  · split
    · exact .kept (State.links_of_cars (by simp))
    · split
      · exact .kept (State.links_of_cars (by simp))
      · exact s.respond_linkMove _ (requestBody_linkMove s _ _ _ _ _)

/-- The free position of the completing frame, before or after the request, is no change of the link fields. -/
theorem State.completeAtPosition_linkMove (s : State) (r : Assembly) : s.LinkMove (s.completeAtPosition r) := by
  have hfree : ∀ u : State, u.freePosition.links = u.links := fun u => State.links_of_cars (by simp)
  have hdone : ∀ u : State, u.links = s.links → s.LinkMove (u.complete r) := fun u hu =>
    (u.complete_linkMove r).congr hu rfl
  have hcount : State.links { s with free := s.free + 1 } = s.links := State.links_of_cars rfl
  unfold State.completeAtPosition
  split
  · exact hdone _ (hfree s)
  · dsimp only
    split
    · exact (hdone _ hcount).congr rfl (hfree _)
    · exact hdone _ ((hfree _).trans hcount)

theorem State.beginRequest_linkMove (s : State) (r : Assembly) : s.LinkMove (s.beginRequest r) := by
  unfold State.beginRequest
  split
  · exact s.completeAtPosition_linkMove r
  · exact .kept (State.links_of_cars (by simp))

theorem State.dataFrame_linkMove (s : State) (w : Word16) : s.LinkMove (s.dataFrame w) := by
  have hnone : State.links { s with assembly := none } = s.links := State.links_of_cars rfl
  unfold State.dataFrame
  split
  · exact .kept (State.links_of_cars (by simp))
  · dsimp only
    split
    · exact (State.completeAtPosition_linkMove { s with assembly := none } _).congr hnone rfl
    · exact .kept (State.links_of_cars (by simp))

theorem State.closeWindow_links {s t : State} {f : AnswerWindow → Bool} {w : AnswerWindow}
    (h : s.closeWindow f = some (w, t)) : t.links = s.links := by
  obtain ⟨-, -, ht⟩ := State.closeWindow_eq_some h
  exact State.links_of_cars (by rw [ht])

theorem State.closeCarAddress_linkMove (s : State) (address : BitVec 5) (answered : Bool) :
    s.LinkMove (s.closeCarAddress address answered) := by
  unfold State.closeCarAddress State.closeCarWindow
  split
  · exact .kept rfl
  · split
    · exact .kept rfl
    · rename_i h
      exact .result _ _ answered (State.closeWindow_links h) rfl

/-- The result after an ASSIGN frame does not reach the Link Monitor: an ANSWER in SENDING commits (R17, R63). -/
theorem State.assignResult_linkMove (s : State) (p : PortIx) (answered : Bool) : s.LinkMove (s.assignResult p answered) := by
  unfold State.assignResult
  split
  · exact .kept rfl
  · split
    · split
      · split
        · rename_i h a id _ _ _
          exact .restarted a ((State.links_of_cars (by simp [State.commitSession])).trans (s.commit_links h a id))
        · exact .kept rfl
      · exact .kept (s.silentAttempt_links p _)
    · exact .kept rfl

theorem State.closeAssignWindow_linkMove (s : State) (p : PortIx) (answered : Bool) :
    s.LinkMove (s.closeAssignWindow p answered) := by
  unfold State.closeAssignWindow
  split
  · exact .kept rfl
  · rename_i h
    split
    · exact (State.assignResult_linkMove _ p answered).congr (State.closeWindow_links h) rfl
    · exact .kept (State.closeWindow_links h)

/-- Every effect. -/
theorem effect_linkMove (c : Instr) (s : State) : s.LinkMove (effect c s) := by
  have harrive : s.arriveOther.links = s.links := State.links_of_cars (by simp)
  cases c with
  | cycleFrame race e b => exact .kept (s.cycleFrame_links race e b)
  | driveFrame slot t b l p => exact .kept (s.driveFrame_links slot t b l p)
  | headFrame code count arg => exact (State.beginRequest_linkMove _ _).congr harrive rfl
  | dataFrame w => exact (State.dataFrame_linkMove _ w).congr (State.links_of_cars (by simp)) rfl
  | fillFrame => exact .kept s.discardFrame_links
  | auxFrame k b =>
    have h : (s.arriveOther.position (.frame (.aux k b))).cars = s.cars := by simp
    exact .kept (State.links_of_cars h)
  | frameError => exact .kept s.frameError_links
  | kindError => exact .kept s.kindError_links
  | frameBrokenOff => exact .kept s.frameError_links
  | carAnswerWindowClose address answered => exact s.closeCarAddress_linkMove address answered
  | assignAnswerWindowClose p answered => exact s.closeAssignWindow_linkMove p answered
  | railOutputFree =>
    have h : s.railFree.cars = s.cars := by simp
    exact .kept (State.links_of_cars h)
  | insertionQueuePlace =>
    have h : s.queuePlace.cars = s.cars := by simp
    exact .kept (State.links_of_cars h)
  | hello p k b => exact .kept (State.onMessage_links (fun u => State.links_of_cars (by simp)) s p)
  | approach p code =>
    exact .kept (State.readerMessage_links (fun u => by split; exacts [u.approach_links p code, rfl]) s p)
  | guard p code => exact .kept (State.readerMessage_links (fun u => State.links_of_cars (by simp)) s p)
  | exitCross p code => exact .kept (State.readerMessage_links (fun u => State.links_of_cars (by simp)) s p)
  | exitStraight p code => exact .kept (State.readerMessage_links (fun u => State.links_of_cars (by simp)) s p)
  | ready p b => exact .kept (State.flapMessage_links (fun u => State.links_of_cars (by simp)) s p true)
  | moving p => exact .kept (State.flapMessage_links (fun u => State.links_of_cars (by simp)) s p false)
  | moduleFault p code => exact .kept (State.flapMessage_links (fun u => State.links_of_cars (by simp)) s p true)
  | selfThrow p code => exact .kept (State.roleMessage_links (fun u => u.takeSelfThrow_links p code) s p .delegated)
  | identity p id =>
    exact .kept (State.roleMessage_links
      (fun u => by split; exacts [(State.KeepsRecords.takeIdentity u p id).links, rfl]) s p .bay)
  | portLineError p => exact .kept (State.onMessage_links (fun u => State.links_of_cars (by simp)) s p)
  | portMessageBrokenOff p => exact .kept (State.onMessage_links (fun u => State.links_of_cars (by simp)) s p)
  | portLineFree p => exact .kept (State.links_of_cars rfl)
  | flapCommandLeft p => exact .kept (State.links_of_cars rfl)
  | startUpSettleExpiry => exact .kept (State.expire_ite_links (State.links_of_cars rfl))
  | wakeSettleExpiry => exact .kept (State.expire_ite_links (State.links_of_cars rfl))
  | silenceDeadlineExpiry => exact .kept (State.expire_ite_links s.enterHalt_links)
  | ownCycleTimerExpiry => exact .kept (State.expire_ite_links (State.links_of_cars (by simp)))
  | resetDeadlineExpiry p => exact .kept (State.expire_ite_links (State.links_of_cars rfl))
  | flapDeadlineExpiry p => exact .kept (State.expire_ite_links (State.links_of_cars (by simp)))
  | windowDeadlineExpiry p => exact .kept (s.windowExpires_links p)
  | showDeadlineExpiry p => exact .kept (s.showExpires_links p)
  | entryExpiry z k => exact .kept (s.entryExpires_links z _)
  | guardExpiry z => exact .kept (s.guardExpires_links z)
  | _ => exact .kept rfl

theorem State.releaseReset_linkMove (s : State) (high : Bool) : s.LinkMove (s.releaseReset high) :=
  .reset fun a => by
    unfold State.links
    rw [State.car_releaseReset]

theorem State.idle_links (s : State) : s.idle.links = s.links := by
  unfold State.idle
  split
  · rfl
  · rw [s.tick_same]
    rfl

/-! ### The law of R56 -/

theorem Car.LinkLawful.congr {c d : Car} (hc : c.LinkLawful) (h : d.linkFields = c.linkFields) : d.LinkLawful := by
  obtain ⟨hl, hf, hs⟩ : d.link = c.link ∧ d.faults = c.faults ∧ d.streak = c.streak := by
    simpa only [Car.linkFields, Prod.mk.injEq] using h
  unfold Car.LinkLawful
  rw [hl, hf, hs]
  exact hc

theorem Car.reset_linkLawful : Car.reset.LinkLawful := by
  unfold Car.LinkLawful
  decide

/-- A count in its range with the link state that follows from it (R56). -/
theorem Car.linkLawful_of_count {c : Car} {n : Nat} (hn : n ≤ 255) (hs : c.streak = 0) :
    Car.LinkLawful { c with faults := n, link := linkOf n } :=
  ⟨hn, by rw [hs]; exact Nat.zero_le _, fun h => absurd h (linkOf_ne_lost n), fun _ => ⟨rfl, hs⟩⟩

/-- In LOST the streak may be any below 24 (R61). -/
theorem Car.linkLawful_of_lost {c : Car} {n : Nat} (hl : c.link = .lost) (hf : c.faults = 255) (hn : n ≤ 23) :
    Car.LinkLawful { c with streak := n } :=
  ⟨hf.le, hn, fun _ => hf, fun h => absurd hl h⟩

/-- A result leaves the car it names lawful (R58, R59, R61). -/
theorem State.linkResult_linkLawful {s : State} {a : CarIx} (h : (s.car a).LinkLawful) (answered : Bool) :
    ((s.linkResult a answered).car a).LinkLawful := by
  obtain ⟨hf, -, hlost, hout⟩ := h
  by_cases hl : (s.car a).link = .lost
  · have h255 := hlost hl
    cases answered with
    | false =>
      rw [State.linkResult_of_lost_silent hl, (s.streak_writes a 0).1]
      exact Car.linkLawful_of_lost hl h255 (Nat.zero_le _)
    | true =>
      by_cases hs : (s.car a).streak < 23
      · rw [State.linkResult_of_streak hl hs, (s.streak_writes a _).1]
        exact Car.linkLawful_of_lost hl h255 hs
      · rw [State.linkResult_of_restored hl (Nat.not_lt.1 hs), (s.restoreLink_writes a).1]
        exact Car.reset_linkLawful.congr rfl
  · obtain ⟨-, hs⟩ := hout hl
    cases answered with
    | true =>
      rw [State.linkResult_of_answer hl, State.setFaults_car]
      exact Car.linkLawful_of_count ((Nat.sub_le _ _).trans hf) hs
    | false =>
      by_cases h8 : 255 < (s.car a).faults + 8
      · rw [State.linkResult_of_overflow hl h8, (s.loseLink_writes a).1]
        exact Car.linkLawful_of_lost (c := { s.car a with link := .lost, faults := 255, armed := false }) rfl rfl
          (Nat.zero_le _)
      · rw [State.linkResult_of_silent hl (Nat.not_lt.1 h8), State.setFaults_car]
        exact Car.linkLawful_of_count (Nat.not_lt.1 h8) hs

/-- A result leaves the other cars as they are (R57). -/
theorem State.linkResult_other (s : State) {a b : CarIx} (hb : a ≠ b) (answered : Bool) :
    (s.linkResult a answered).car b = s.car b := by
  rw [s.linkResult_eq a answered]
  exact (s.car_modCar a b fun _ => (s.linkResult a answered).car a).trans (if_neg hb)

theorem State.LinksLawful.of_links {s t : State} (hs : s.LinksLawful) (h : t.links = s.links) : t.LinksLawful :=
  fun a => (hs a).congr (congrFun h a)

theorem State.LinksLawful.linkResult {s : State} (hs : s.LinksLawful) (a : CarIx) (answered : Bool) :
    (s.linkResult a answered).LinksLawful := by
  intro b
  by_cases hb : a = b
  · rw [← hb]
    exact State.linkResult_linkLawful (hs a) answered
  · rw [s.linkResult_other hb]
    exact hs b

/-- Each change of the link fields keeps them lawful (R56). -/
theorem State.LinkMove.linksLawful {s t : State} (h : s.LinkMove t) (hs : s.LinksLawful) : t.LinksLawful := by
  cases h with
  | kept h => exact hs.of_links h
  | result u a answered hu h => exact ((hs.of_links hu).linkResult a answered).of_links h
  | restarted a h =>
    intro b
    have hb : (t.car b).linkFields = if a = b then Car.reset.linkFields else (s.car b).linkFields := congrFun h b
    split at hb
    · exact Car.reset_linkLawful.congr hb
    · exact (hs b).congr hb
  | reset h => exact fun a => Car.reset_linkLawful.congr (h a)

/-- Settles O55: each command changes the link fields in one of the ways of R57 and R64, and each of these keeps R56. -/
theorem stepsKeepLinkStatesLawful : Obligations.StepsKeepLinkStatesLawful := by
  unfold Obligations.StepsKeepLinkStatesLawful
  intro s t h hs
  refine step_keeps (P := State.LinksLawful) (fun _ _ hu => hu) (fun u hu => hu.of_links u.idle_links)
    (fun c u v hu hv => ?_) h hs
  exact exec_keeps (P := State.LinksLawful) (fun c u _ _ _ hu => (effect_linkMove c u).linksLawful hu)
    (fun u code n arg d1 d2 d3 _ hu => (u.respond_linkMove code (requestBody_linkMove u n arg d1 d2 d3)).linksLawful hu)
    (fun u cause hu => hu.of_links (State.links_of_cars (by simp [State.holdReset])))
    (fun u high hu => (u.releaseReset_linkMove high).linksLawful hu) hu hv

end Sys2Proof.Machine

/-! What the Pairing Engine's operations make of a session: how it ends and how it asks for a place in the insertion queue
(R12, R41, R70, R78, R81); for O21, O28 and O37. -/

namespace Sys2Proof.Machine

/-- A command's effect, by a law of the operation that it is. -/
theorem exec_of_effect_eq {c : Instr} {s t : State} (h : s.resetHeld = false) (hr : requestCode c = none)
    (hc : isResetCommand c = false) (he : effect c s = t) : exec c s = .next t := by
  rw [exec_of_effect h hr hc, he]

/-! ### Slots, latches and lamps after steps that do not concern them -/

theorem State.claimSlot_slot (s : State) (h : Option SlotIx) (c : Option PortIx) (g : SlotIx) :
    (s.claimSlot h c).slot g = { s.slot g with claim := if h = some g then c else (s.slot g).claim } := by
  cases h with
  | none => rfl
  | some k =>
    unfold State.claimSlot
    rw [State.slot_modSlot]
    by_cases e : k = g
    · rw [if_pos e, if_pos (congrArg some e), e]
    · rw [if_neg e, if_neg fun he => e (Option.some.inj he)]

/-- What a latch follows is read off cars, slots and the fallback alone (R36). -/
theorem State.LatchFollows.of_tables {s t u : State} {b : CarIx} (h : s.LatchFollows t b) (hc : u.cars = t.cars)
    (hb : (u.slot b).binding = (t.slot b).binding) (hf : u.directFallback = t.directFallback) : s.LatchFollows u b := by
  have hcar : u.car b = t.car b := congrArg (·[b.val]) hc
  have hd : u.drivingSlot b = t.drivingSlot b := State.drivingSlot_congr b (by rw [hcar]) (by rw [hcar]) hb hf
  unfold State.LatchFollows at h ⊢
  rw [hcar, hd]
  exact h

/-- The lamp asked for is read off the port records alone (R70). -/
theorem State.LampAsked.of_ports {s t u v : State} {p : PortIx} {l : Lamp} (h : s.LampAsked t p l)
    (hs : u.ports = s.ports) (ht : v.ports = t.ports) : u.LampAsked v p l := by
  unfold State.LampAsked State.port at h ⊢
  rw [hs, ht]
  exact h

theorem SessionState.isOpen_iff (st : SessionState) :
    st.isOpen = true ↔ st = .waiting ∨ st = .queued ∨ st = .sending := by
  cases st <;> decide

theorem SessionState.isOpen_eq_false_iff (st : SessionState) :
    st.isOpen = false ↔ st = .closed ∨ st = .showDone ∨ st = .showFailed := by
  cases st <;> decide

theorem SessionState.holdsCar_iff (st : SessionState) : st.holdsCar = true ↔ st = .queued ∨ st = .sending := by
  cases st <;> decide

/-- Every open session shows the same lamp (R70). -/
theorem SessionState.lamp_of_open {st : SessionState} (h : st.isOpen = true) : st.lamp = .slow := by
  cases st with
  | waiting | queued | sending => rfl
  | closed | showDone | showFailed => cases h

/-- No other session shows the lamp of an open one (R70). -/
theorem SessionState.lamp_of_not_open {st : SessionState} (h : st.isOpen = false) : st.lamp ≠ .slow := by
  cases st with
  | waiting | queued | sending => cases h
  | closed | showDone | showFailed => exact fun e => nomatch e

/-! ### The end of a session (R81) -/

/-- A car whose reservation is released, and the others, whose latches R36 decides (R41). -/
theorem State.release_car (s : State) (a b : CarIx) : s.LatchFollows (s.release a) b ∧ (s.release a).car b =
    { s.car b with
      armed := ((s.release a).car b).armed
      reservation := if a = b then none else (s.car b).reservation } := by
  have hc := s.car_modCar a b fun c => { c with reservation := none }
  have hd := State.disarmMoved_onlyLatch s (s.modCar a fun c => { c with reservation := none }) b
  unfold State.release
  by_cases e : a = b
  · subst e
    rw [if_pos rfl] at hc
    rw [hc] at hd
    exact ⟨State.latchFollows_disarmMoved (by rw [hc]), by rw [if_pos rfl]; exact hd⟩
  · rw [if_neg e] at hc
    rw [hc] at hd
    exact ⟨State.latchFollows_disarmMoved (by rw [hc]), by rw [if_neg e]; exact hd⟩

/-- Steps 1 to 4 of R81, the claim last: what stands before it. -/
theorem State.releaseSession_claimSlot (s : State) (p : PortIx) (x : Session) :
    ∃ u, s.releaseSession p x = u.claimSlot x.slot none ∧ ((s.removeSequence p).abandonWindows p).SameInsertion u ∧
      ((s.removeSequence p).abandonWindows p).SameOutput u ∧ u.slots = s.slots ∧ u.directFallback = s.directFallback ∧
      ∀ b, s.LatchFollows u b ∧ u.car b = { s.car b with
        armed := (u.car b).armed
        reservation := if x.address = some b ∧ (x.state = .queued ∨ x.state = .sending) then none
          else (s.car b).reservation } := by
  unfold State.releaseSession
  dsimp only
  refine ⟨_, rfl, ?_⟩
  split
  case h_1 ha =>
    refine ⟨⟨rfl, rfl⟩, ⟨rfl, rfl, rfl, rfl⟩, rfl, rfl, fun b => ⟨s.latchFollows_self b, ?_⟩⟩
    rw [if_neg (by rintro ⟨h, -⟩; rw [ha] at h; cases h)]
    rfl
  case h_2 a ha =>
    simp only [← SessionState.holdsCar_iff, ha, Option.some.injEq]
    split
    case isTrue hk =>
      have h := ((s.removeSequence p).abandonWindows p).release_car a
      refine ⟨by simp, by simp, by simp, by simp, fun b => ?_⟩
      simp only [hk, and_true]
      exact h b
    case isFalse hk =>
      refine ⟨⟨rfl, rfl⟩, ⟨rfl, rfl, rfl, rfl⟩, rfl, rfl, fun b => ⟨s.latchFollows_self b, ?_⟩⟩
      rw [if_neg fun ⟨_, h⟩ => hk h]
      rfl

theorem State.releaseSession_released (s : State) (p : PortIx) (x : Session) :
    s.SessionReleased (s.releaseSession p x) p x := by
  obtain ⟨u, hu, ⟨hi, hw⟩, ⟨-, ho, hc, hl⟩, hs, hf, hcars⟩ := s.releaseSession_claimSlot p x
  have hslot : ∀ g, u.slot g = s.slot g := fun g => congrArg (·[g.val]) hs
  rw [hu]
  refine ⟨.trans (by simp) hi, .trans (by simp) hw, .trans (by simp) ho, .trans (by simp) hc, .trans (by simp) hl,
    fun g => ?_, fun b => ⟨?_, ?_⟩⟩
  · rw [State.claimSlot_slot, hslot]
  · exact (hcars b).1.of_tables (by simp) (by rw [State.claimSlot_slot]) (by simp)
  · have hb : (u.claimSlot x.slot none).car b = u.car b := by simp
    rw [hb]
    exact (hcars b).2

/-- What R81 leaves of a session is read off the lists of the rail output, slots, cars and the fallback alone. -/
theorem State.SessionReleased.of_fields {s t u : State} {p : PortIx} {x : Session} (h : s.SessionReleased t p x)
    (hi : t.SameInsertion u) (ho : u.window = t.window ∧ u.closing = t.closing ∧ u.waitingLine = t.waitingLine)
    (hs : u.slots = t.slots) (hc : u.cars = t.cars) (hf : u.directFallback = t.directFallback) :
    s.SessionReleased u p x := by
  obtain ⟨h1, h2, h3, h4, h5, h6, h7⟩ := h
  obtain ⟨i1, i2⟩ := hi
  obtain ⟨o1, o2, o3⟩ := ho
  have hslot : ∀ g, u.slot g = t.slot g := fun g => congrArg (·[g.val]) hs
  have hcar : ∀ b, u.car b = t.car b := fun b => congrArg (·[b.val]) hc
  refine ⟨i1.trans h1, i2.trans h2, o1.trans h3, o2.trans h4, o3.trans h5, fun g => (hslot g).trans (h6 g),
    fun b => ⟨(h7 b).1.of_tables hc (by rw [hslot]) hf, ?_⟩⟩
  rw [hcar]
  exact (h7 b).2

/-- An open session fails as R81 says. -/
theorem State.failSession_fails (s : State) (p : PortIx) {x : Session} (ho : x.state.isOpen = true)
    (why : SessionOutcome) : s.SessionFails (s.failSession p x why) p x why := by
  refine ⟨?_, (s.releaseSession_released p x).of_fields ?_ ?_ ?_ ?_ ?_, ?_⟩
  · apply State.ext <;> simp [State.failSession]
  · simp [State.failSession]
  · simp [State.failSession]
  · simp [State.failSession]
  · simp [State.failSession]
  · simp [State.failSession]
  · have hl := (s.releaseSession p x).showSession_lampAsked p (old := x.state)
      (x := { x with state := .showFailed, windowDue := none, outcome := some why, showDue := some (s.after 2000) })
      (by rw [SessionState.lamp_of_open ho]; exact fun e => nomatch e)
    exact hl.of_ports (by simp) rfl

/-! ### A session asks for a place (R12) -/

/-- A session just written asks for a place as one that is QUEUED. -/
theorem State.enqueue_written (s : State) (p : PortIx) (x : Session) : (s.setSession p (some x)).enqueue p =
    if s.insertionQueue.length < 3 ∧ s.queueWaiting = [] then
      (s.setSession p (some { x with state := .queued })).appendSequence p
    else { s.setSession p (some { x with state := .queued }) with queueWaiting := s.queueWaiting ++ [p] } := by
  have hq : (s.setSession p (some x)).modSession p (fun x => { x with state := .queued }) =
      s.setSession p (some { x with state := .queued }) := by simp [State.modSession, State.setSession]
  unfold State.enqueue
  rw [hq]
  rfl

/-- The session of port `p`, written as `x` with identity and address, asks for a place. -/
theorem State.enqueue_enqueues (s : State) (p : PortIx) {x : Session} {id : Identity} {a : CarIx}
    (hi : x.identity = some id) (ha : x.address = some a) :
    s.SessionEnqueues ((s.setSession p (some x)).enqueue p) p x id a := by
  have hx : (s.setSession p (some { x with state := .queued })).session p = some { x with state := .queued } := by
    rw [State.session_setSession, if_pos rfl]
  rw [State.enqueue_written]
  refine ⟨fun h => ?_, fun h => ?_⟩
  · rw [if_pos h, State.appendSequence_eq hx hi ha]
    simp [State.setSession]
  · rw [if_neg h]
    rfl

/-- A session that asks for a place changes no car, so what it is asked of may differ in cars. -/
theorem State.SessionEnqueues.of_cars {s t u : State} {p : PortIx} {x : Session} {id : Identity} {a : CarIx}
    (h : u.SessionEnqueues t p x id a) (hu : u = { s with cars := u.cars }) : s.SessionEnqueues t p x id a := by
  rw [hu] at h
  exact h

end Sys2Proof.Machine

/-! Silent ASSIGN windows, places in the insertion queue and results that no record takes (R12, R16, R17, R78, R80 to R82);
O21 and O22. -/

namespace Sys2Proof.Machine

/-! ### A silent attempt (R80) -/

theorem State.assignResult_silent {s : State} {p : PortIx} {x : Session} (hx : s.session p = some x)
    (hs : x.state = .sending) : s.assignResult p false = s.silentAttempt p x := by
  unfold State.assignResult
  simp only [hx, hs, if_true, Bool.false_eq_true, if_false]

theorem State.silentAttempt_of_early (s : State) (p : PortIx) {x : Session} (h : x.attempts < 2) :
    s.silentAttempt p x = (s.setSession p (some { x with attempts := x.attempts + 1 })).enqueue p :=
  if_pos (by show x.attempts + 1 < 3; omega)

theorem State.silentAttempt_of_third (s : State) (p : PortIx) {x : Session} (h : 2 ≤ x.attempts) :
    s.silentAttempt p x = s.failSession p { x with attempts := x.attempts + 1 } .noAnswer :=
  if_neg (by show ¬ x.attempts + 1 < 3; omega)

/-! ### A place in the insertion queue (R12) -/

theorem State.queuePlace_of_idle {s : State} (h : s.queueWaiting = [] ∨ 3 ≤ s.insertionQueue.length) :
    s.queuePlace = s := by
  unfold State.queuePlace
  split
  case h_1 => rfl
  case h_2 p rest hq =>
    rcases h with h | h
    · rw [h] at hq; cases hq
    · exact if_neg (Nat.not_lt.2 h)

/-- The session that has waited longest takes the place (R12, R78). -/
theorem State.queuePlace_of_place {s : State} {p : PortIx} {rest : List PortIx} {x : Session} {id : Identity} {a : CarIx}
    (hq : s.queueWaiting = p :: rest) (hl : s.insertionQueue.length < 3) (hx : s.session p = some x)
    (hi : x.identity = some id) (ha : x.address = some a) : s.queuePlace = { s with
      queueWaiting := rest, insertionQueue := s.insertionQueue ++ [⟨p, id, a, 0⟩]
      sessions := s.sessions.set p (some { x with state := .sending }) } := by
  have hx' : State.session { s with queueWaiting := rest } p = some x := hx
  unfold State.queuePlace
  rw [hq]
  dsimp only
  rw [if_pos hl, State.appendSequence_eq hx' hi ha]

/-- Settles O21: before the third silence the session asks for a place again, the third ends it; a place goes to the first that
waits. -/
theorem silentAttemptsRepeatAndTheThirdFails : Obligations.SilentAttemptsRepeatAndTheThirdFails := by
  unfold Obligations.SilentAttemptsRepeatAndTheThirdFails
  refine ⟨fun p x a id s u hr hc hx hs ha hi => ?_, fun s hr => ⟨fun h => ?_, fun p rest x id a hq hl hx hi ha => ?_⟩⟩
  · have hexec := exec_assignClose hr hc false
    obtain ⟨hxu, hcars⟩ : u.session p = some x ∧ u.cars = s.cars := by
      obtain ⟨_, _, _, rfl⟩ := hc.eq
      exact ⟨hx, rfl⟩
    rw [State.assignResult_silent hxu hs] at hexec
    refine ⟨_, hexec, fun h => ?_, fun h => ?_⟩
    · rw [State.silentAttempt_of_early u p h]
      exact ⟨u.enqueue_enqueues p (x := { x with attempts := x.attempts + 1 }) hi ha, .trans (by simp) hcars⟩
    · rw [State.silentAttempt_of_third u p h]
      exact u.failSession_fails p (x := { x with attempts := x.attempts + 1 }) (by rw [hs]; rfl) .noAnswer
  · exact exec_of_effect_eq hr rfl rfl (State.queuePlace_of_idle h)
  · exact exec_of_effect_eq hr rfl rfl (State.queuePlace_of_place hq hl hx hi ha)

/-! ### Results that no record takes (R82) -/

theorem State.closeWindow_of_unowed {s : State} {F : AnswerWindow → Prop} {f : AnswerWindow → Bool}
    (h : ∀ w, F w → w ∉ s.closing ∧ s.window ≠ some w) (hf : ∀ w, f w = true ↔ F w) : s.closeWindow f = none := by
  have hclosing : s.closing.find? f = none := List.find?_eq_none.2 fun w hw hfw => (h w ((hf w).1 hfw)).1 hw
  have hopen : s.window.filter f = none := Option.filter_eq_none_iff.2 fun w hw hfw => (h w ((hf w).1 hfw)).2 hw
  unfold State.closeWindow
  rw [hclosing, hopen]

theorem carCode_of_carOf {address : BitVec 5} {a : CarIx} (h : carOf address.toNat = some a) : address = carCode a := by
  revert a address; decide

theorem State.closeCarAddress_of_unowed {s : State} {address : BitVec 5}
    (h : ∀ a, address = carCode a → .car a ∉ s.closing ∧ s.window ≠ some (.car a)) (answered : Bool) :
    s.closeCarAddress address answered = s := by
  unfold State.closeCarAddress
  split
  case h_1 => rfl
  case h_2 a ha =>
    have hnone : s.closeWindow (fun w => decide (w = .car a)) = none :=
      State.closeWindow_of_unowed (F := fun w => w = .car a) (by rintro w rfl; exact h a (carCode_of_carOf ha))
        fun _ => decide_eq_true_iff
    unfold State.closeCarWindow
    rw [hnone]

theorem State.closeAssignWindow_of_unowed {s : State} {p : PortIx}
    (h : ∀ w, AnswerWindow.OfPort p w → w ∉ s.closing ∧ s.window ≠ some w) (answered : Bool) :
    s.closeAssignWindow p answered = s := by
  unfold State.closeAssignWindow
  rw [State.closeWindow_of_unowed h (AnswerWindow.tagged_iff p)]

/-- The result of a window whose session has ended is discarded (R82). -/
theorem State.closeAssignWindow_of_abandoned {s u : State} {p : PortIx}
    (hc : s.Closes (AnswerWindow.OfPort p) (.abandoned p) u) (answered : Bool) : s.closeAssignWindow p answered = u := by
  unfold State.closeAssignWindow
  rw [hc.closeWindow (AnswerWindow.tagged_iff p)]
  exact if_neg fun e => nomatch e

/-- A result for a session that is not SENDING is discarded (R82). -/
theorem State.assignResult_of_not_sending {s : State} {p : PortIx} (h : ∀ x, s.session p = some x → x.state ≠ .sending)
    (answered : Bool) : s.assignResult p answered = s := by
  unfold State.assignResult
  split
  case h_1 => rfl
  case h_2 x hx => exact if_neg (h x hx)

/-- Settles O22: such a close finds no window, or one whose result is handed to no record. -/
theorem resultsWithoutATakerChangeNoRecord : Obligations.ResultsWithoutATakerChangeNoRecord := by
  unfold Obligations.ResultsWithoutATakerChangeNoRecord
  refine ⟨fun address answered s hr h => ?_, fun p answered s hr h => ?_, fun p answered s u hr hc => ?_,
    fun p answered s u hr hc hx => ?_⟩
  · exact exec_of_effect_eq hr rfl rfl (State.closeCarAddress_of_unowed h answered)
  · exact exec_of_effect_eq hr rfl rfl (State.closeAssignWindow_of_unowed h answered)
  · exact exec_of_effect_eq hr rfl rfl (State.closeAssignWindow_of_abandoned hc answered)
  · have hxu : ∀ x, u.session p = some x → x.state ≠ .sending := by
      obtain ⟨_, _, _, rfl⟩ := hc.eq
      exact hx
    rw [exec_assignClose hr hc, State.assignResult_of_not_sending hxu]

end Sys2Proof.Machine

/-! How a pair gesture joins or opens a session (R73) and how an identity is looked up (R75 to R77, R108); O27 and O28. -/

namespace Sys2Proof.Machine

/-! ### The lowest-numbered of a table -/

theorem find?_finRange_eq_some {n : Nat} {f : Fin n → Bool} {i : Fin n} (h : f i = true)
    (hlow : ∀ j, j < i → f j = false) : (List.finRange n).find? f = some i := by
  rw [← Fin.find?_eq_find?_finRange]
  exact Fin.find?_eq_some_iff.2 ⟨h, hlow⟩

theorem find?_finRange_eq_none {n : Nat} {f : Fin n → Bool} (h : ∀ i, f i = false) : (List.finRange n).find? f = none := by
  rw [← Fin.find?_eq_find?_finRange]
  exact Fin.find?_eq_none_iff.2 h

/-! ### The bay of a session -/

theorem State.baySession_of_bay {s : State} {p : PortIx} (h : (s.port p).role = .bay) : s.baySession p = s.session p :=
  if_pos h

theorem State.baySession_of_other {s : State} {p : PortIx} (h : (s.port p).role ≠ .bay) : s.baySession p = none :=
  if_neg h

/-- A port that a gesture may join: a BAY port whose session is WAITING with no slot (R73). -/
def State.WantsSlot (s : State) (p : PortIx) : Prop :=
  (s.port p).role = .bay ∧ ∃ x, s.session p = some x ∧ x.state = .waiting ∧ x.slot = none

theorem State.wantsSlot_iff (s : State) (p : PortIx) : (s.baySession p).any Session.wantsSlot = true ↔ s.WantsSlot p := by
  unfold State.WantsSlot
  by_cases hr : (s.port p).role = .bay
  · rw [State.baySession_of_bay hr]
    simp [-State.session_eq, -State.port_eq, hr, Session.wantsSlot, Option.any_eq_true]
  · rw [State.baySession_of_other hr]
    simp [-State.port_eq, hr]

theorem State.not_wantsSlot_iff (s : State) (q : PortIx) : ¬ s.WantsSlot q ↔
    ∀ y, (s.port q).role = .bay → s.session q = some y → y.state = .waiting → y.slot ≠ none :=
  ⟨fun h y hr hy hw hs => h ⟨hr, y, hy, hw, hs⟩, fun h ⟨hr, y, hy, hw, hs⟩ => h y hr hy hw hs⟩

theorem State.waitingBay_of_lowest {s : State} {p : PortIx} (h : s.WantsSlot p) (hlow : ∀ q, q < p → ¬ s.WantsSlot q) :
    s.waitingBay = some p :=
  find?_finRange_eq_some ((s.wantsSlot_iff p).2 h)
    fun q hq => Bool.eq_false_iff.2 fun e => hlow q hq ((s.wantsSlot_iff q).1 e)

theorem State.waitingBay_of_none {s : State} (h : ∀ q, ¬ s.WantsSlot q) : s.waitingBay = none :=
  find?_finRange_eq_none fun q => Bool.eq_false_iff.2 fun e => h q ((s.wantsSlot_iff q).1 e)

/-! ### A session is written or opened -/

theorem State.fillSession_of_missing {y : Session} (h : y.slot = none ∨ y.identity = none) (s : State) (p : PortIx) :
    s.fillSession p y = s.setSession p (some y) := by
  unfold State.fillSession
  split
  case h_1 g id hs hi =>
    rw [hs, hi] at h
    rcases h with h | h <;> cases h
  case h_2 => rfl

/-- With slot and identity held the lookup follows (R73, R75). -/
theorem State.fillSession_of_held {y : Session} {g : SlotIx} {id : Identity} (hs : y.slot = some g)
    (hi : y.identity = some id) (s : State) (p : PortIx) :
    s.fillSession p y = (s.setSession p (some y)).lookup p y id := by
  unfold State.fillSession
  rw [hs, hi]

theorem State.openSession_eq (s : State) (p : PortIx) (old : SessionState) (h : Option SlotIx) (ms : Nat) :
    s.openSession p old h ms = { s with
      slots := (s.claimSlot h (some p)).slots, ports := (s.openSession p old h ms).ports
      sessions := s.sessions.set p (some ⟨.waiting, h, none, none, 0, some (s.now + ms), none, none⟩) } := by
  apply State.ext <;> simp [State.openSession, Session.opened]

/-- The lamp of an open session is asked for, which no session shows that is not open (R70). -/
theorem State.openSession_lampAsked (s : State) (p : PortIx) {old : SessionState} (ho : old.isOpen = false)
    (h : Option SlotIx) (ms : Nat) : s.LampAsked (s.openSession p old h ms) p .slow :=
  ((s.claimSlot h (some p)).showSession_lampAsked p (x := Session.opened h (s.after ms))
    (SessionState.lamp_of_not_open ho)).of_ports (by simp) rfl

/-! ### The gesture (R73) -/

theorem State.gesture_of_claimed {s : State} {h : SlotIx} (hc : (s.slot h).claim ≠ none) : s.gesture h = s :=
  if_pos (Option.isSome_iff_ne_none.2 hc)

theorem State.gesture_of_waiting {s : State} {h : SlotIx} {p : PortIx} {x : Session} (hc : (s.slot h).claim = none)
    (hp : s.waitingBay = some p) (hx : s.session p = some x) :
    s.gesture h = (s.claimSlot (some h) (some p)).fillSession p { x with slot := some h } := by
  unfold State.gesture State.joinSession
  rw [hc, hp]
  simp only [hx, Option.isSome_none, Bool.false_eq_true, if_false]

theorem State.gesture_of_none {s : State} {h : SlotIx} (hc : (s.slot h).claim = none) (hp : s.waitingBay = none) :
    s.gesture h = s.openDefault h := by
  unfold State.gesture
  rw [hc, hp]
  rfl

theorem State.openDefault_of_shut {s : State} {p : PortIx} {x : Session} (hd : s.defaultBay = some p)
    (hr : (s.port p).role = .bay) (hx : s.session p = some x) (ho : x.state.isOpen = false) (h : SlotIx) :
    s.openDefault h = s.openSession p x.state (some h) 30000 := by
  unfold State.openDefault
  rw [hd]
  dsimp only
  rw [State.baySession_of_bay hr, hx]
  exact if_neg (by rw [ho]; exact Bool.false_ne_true)

/-- Without a default bay, or with one that has no session to open, a gesture that joins none is ignored (R73). -/
theorem State.openDefault_of_absent {s : State} (hd : s.defaultBay = none ∨ (∃ p, s.defaultBay = some p ∧
      ((s.port p).role ≠ .bay ∨ s.session p = none ∨ ∃ x, s.session p = some x ∧ x.state.isOpen = true))) (h : SlotIx) :
    s.openDefault h = s := by
  unfold State.openDefault
  obtain hd | ⟨p, hd, hp⟩ := hd
  · rw [hd]
  · rw [hd]
    dsimp only
    by_cases hr : (s.port p).role = .bay
    · rw [State.baySession_of_bay hr]
      obtain hn | hx | ⟨x, hx, ho⟩ := hp
      · exact absurd hr hn
      · rw [hx]
      · rw [hx]
        exact if_pos ho
    · rw [State.baySession_of_other hr]

/-- Settles O27: the four ways of a gesture, by the slot's claim, the lowest waiting bay and the default bay. -/
theorem gesturesJoinOrOpenASession : Obligations.GesturesJoinOrOpenASession := by
  unfold Obligations.GesturesJoinOrOpenASession
  intro s h
  refine ⟨State.gesture_of_claimed, fun hc p x hx hr hw hs hlow => ?_,
    fun hc hnone => ⟨fun p x hd hr hx ho => ?_, fun hd => ?_⟩⟩
  · have hbay : s.waitingBay = some p := State.waitingBay_of_lowest ⟨hr, x, hx, hw, hs⟩
      fun q hq => (s.not_wantsSlot_iff q).2 fun y => hlow q y hq
    rw [State.gesture_of_waiting hc hbay hx]
    exact ⟨_, rfl, fun hi => State.fillSession_of_missing (y := { x with slot := some h }) (.inr hi) _ p,
      fun id hi => State.fillSession_of_held (g := h) (y := { x with slot := some h }) rfl hi _ p⟩
  · have hshut := (SessionState.isOpen_eq_false_iff x.state).2 ho
    have hbay := State.waitingBay_of_none fun q => (s.not_wantsSlot_iff q).2 (hnone q)
    rw [State.gesture_of_none hc hbay, State.openDefault_of_shut hd hr hx hshut]
    exact ⟨s.openSession_eq p x.state (some h) 30000, s.openSession_lampAsked p hshut (some h) 30000⟩
  · have hbay := State.waitingBay_of_none fun q => (s.not_wantsSlot_iff q).2 (hnone q)
    simp only [← SessionState.isOpen_iff] at hd
    rw [State.gesture_of_none hc hbay, State.openDefault_of_absent hd]

/-! ### An identity is taken (R75, R108) -/

/-- A message of the port's own role is taken (R93). -/
theorem State.roleMessage_of_role {s : State} {p : PortIx} {role : Role} (ho : (s.port p).state ≠ .off)
    (hr : (s.port p).role = role) (f : State → State) : s.roleMessage p role f = f (s.heard p) := by
  unfold State.roleMessage
  rw [State.onMessage_of_heard ho, State.port_heard]
  exact if_pos hr

/-- An IDENTITY at a READY BAY port is handed to the engine (R75, R108). -/
theorem exec_identity_of_ready {s : State} {p : PortIx} (hr : s.resetHeld = false) (hb : (s.port p).role = .bay)
    (hs : (s.port p).state = .ready) (id : Identity) :
    exec (.identity p id) s = .next ((s.heard p).takeIdentity p id) := by
  have hready : ((s.heard p).port p).state = .ready := by rw [State.port_heard]; exact hs
  rw [exec_of_effect hr rfl rfl, effect_identity, State.roleMessage_of_role (by rw [hs]; exact fun e => nomatch e) hb,
    if_pos hready]

theorem State.takeIdentity_of_ignored {s : State} {p : PortIx} {x : Session} {id : Identity} (hx : s.session p = some x)
    (h : x.state ≠ .waiting ∨ id = 0 ∨ id = BitVec.allOnes 64) : s.takeIdentity p id = s := by
  unfold State.takeIdentity
  rw [hx]
  refine if_neg ?_
  rintro ⟨hw, h0, h1⟩
  rcases h with h | h | h
  exacts [h hw, h0 h, h1 h]

theorem State.takeIdentity_of_waiting {s : State} {p : PortIx} {x : Session} {id : Identity} (hx : s.session p = some x)
    (hw : x.state = .waiting) (h0 : id ≠ 0) (h1 : id ≠ BitVec.allOnes 64) :
    s.takeIdentity p id = s.fillSession p { x with identity := some id } := by
  unfold State.takeIdentity
  rw [hx]
  exact if_pos ⟨hw, h0, h1⟩

/-! ### A car is reserved (R40, R77) -/

theorem State.reserve_car (s : State) (a : CarIx) (p : PortIx) :
    (s.reserve a p).car a = { s.car a with reservation := some p, armed := false } := by
  unfold State.reserve
  rw [State.disarmMoved_car, State.car_modCar, if_pos rfl, Bool.and_false]

theorem State.reserve_other (s : State) {a b : CarIx} (hb : b ≠ a) (p : PortIx) :
    (s.reserve a p).car b = { s.car b with armed := ((s.reserve a p).car b).armed } ∧ s.LatchFollows (s.reserve a p) b := by
  have hc : (s.modCar a fun c => { c with reservation := some p, armed := false }).car b = s.car b := by
    rw [State.car_modCar, if_neg hb.symm]
  have hd := State.disarmMoved_onlyLatch s (s.modCar a fun c => { c with reservation := some p, armed := false }) b
  rw [hc] at hd
  exact ⟨hd, State.latchFollows_disarmMoved (by rw [hc])⟩

theorem State.reserveFor_reserves (s : State) (p : PortIx) {x : Session} {id : Identity} (hi : x.identity = some id)
    (a : CarIx) : s.SessionReserves (s.reserveFor p x a) p x id a := by
  have hcars : (s.reserveFor p x a).cars = (s.reserve a p).cars := by simp [State.reserveFor]
  have hcar : ∀ b, (s.reserveFor p x a).car b = (s.reserve a p).car b := fun b => congrArg (·[b.val]) hcars
  refine ⟨State.SessionEnqueues.of_cars (State.enqueue_enqueues (s.reserve a p) p
    (x := { x with address := some a, windowDue := none }) hi rfl) ?_, (hcar a).trans (s.reserve_car a p), fun b hb => ?_⟩
  · apply State.ext <;> simp
  · obtain ⟨hother, hlatch⟩ := s.reserve_other hb p
    refine ⟨?_, hlatch.of_tables hcars ?_ (by simp)⟩
    · rw [hcar]; exact hother
    · simp

/-! ### The lookup (R76) -/

theorem State.identityInUse_iff (s : State) (p : PortIx) (id : Identity) : s.identityInUse p id = true ↔
    ∃ q y, q ≠ p ∧ s.session q = some y ∧ (y.state = .queued ∨ y.state = .sending) ∧ y.identity = some id := by
  simp [State.identityInUse, -State.session_eq, Option.any_eq_true, SessionState.holdsCar_iff]

theorem State.identityInUse_eq_false {s : State} {p : PortIx} {id : Identity}
    (h : ∀ q y, q ≠ p → s.session q = some y → y.state = .queued ∨ y.state = .sending → y.identity ≠ some id) :
    s.identityInUse p id = false :=
  Bool.eq_false_iff.2 fun e => by
    obtain ⟨q, y, hq, hy, hs, hi⟩ := (s.identityInUse_iff p id).1 e
    exact h q y hq hy hs hi

theorem State.carWithIdentity_of_held {s : State} (hd : s.IdentitiesDistinct) {a : CarIx} {id : Identity}
    (h : (s.car a).identity = some id) : s.carWithIdentity id = some a :=
  find?_finRange_eq_some (decide_eq_true h) fun b hb => decide_eq_false fun e => hb.ne (hd b a id e h)

theorem State.carWithIdentity_of_unheld {s : State} {id : Identity} (h : ∀ a, (s.car a).identity ≠ some id) :
    s.carWithIdentity id = none := find?_finRange_eq_none fun a => decide_eq_false (h a)

theorem State.lowestFree_of_lowest {s : State} {a : CarIx} (hf : (s.car a).tenure = .free) (hr : (s.car a).reservation = none)
    (hlow : ∀ b, b < a → (s.car b).tenure ≠ .free ∨ (s.car b).reservation ≠ none) : s.lowestFree = some a := by
  refine find?_finRange_eq_some (by rw [decide_eq_true hf, decide_eq_true hr]; rfl) fun b hb => ?_
  rcases hlow b hb with h | h
  · rw [decide_eq_false h, Bool.false_and]
  · rw [decide_eq_false h, Bool.and_false]

theorem State.lowestFree_of_none {s : State} (h : ∀ b, (s.car b).tenure ≠ .free ∨ (s.car b).reservation ≠ none) :
    s.lowestFree = none := by
  refine find?_finRange_eq_none fun b => ?_
  rcases h b with h | h
  · rw [decide_eq_false h, Bool.false_and]
  · rw [decide_eq_false h, Bool.and_false]

section
variable {s : State} {p : PortIx} {x : Session} {id : Identity} {a : CarIx}

theorem State.lookup_of_inUse (h : s.identityInUse p id = true) : s.lookup p x id = s.failSession p x .inUse := if_pos h

theorem State.lookup_of_reserved (h : s.identityInUse p id = false) (hc : s.carWithIdentity id = some a)
    (hr : (s.car a).reservation ≠ none) : s.lookup p x id = s.failSession p x .inUse := by
  unfold State.lookup
  rw [h, hc]
  exact if_pos (Option.isSome_iff_ne_none.2 hr)

theorem State.lookup_of_known (h : s.identityInUse p id = false) (hc : s.carWithIdentity id = some a)
    (hr : (s.car a).reservation = none) : s.lookup p x id = s.reserveFor p x a := by
  unfold State.lookup
  rw [h, hc]
  dsimp only
  rw [hr]
  rfl

theorem State.lookup_of_free (h : s.identityInUse p id = false) (hc : s.carWithIdentity id = none)
    (hf : s.lowestFree = some a) : s.lookup p x id = s.reserveFor p x a := by
  unfold State.lookup
  rw [h, hc, hf]
  rfl

theorem State.lookup_of_noAddress (h : s.identityInUse p id = false) (hc : s.carWithIdentity id = none)
    (hf : s.lowestFree = none) : s.lookup p x id = s.failSession p x .noAddress := by
  unfold State.lookup
  rw [h, hc, hf]
  rfl

end

/-- Settles O28: the identity is written and looked up, and the lookup goes one of five ways. -/
theorem identitiesAreLookedUpAndACarReserved : Obligations.IdentitiesAreLookedUpAndACarReserved := by
  unfold Obligations.IdentitiesAreLookedUpAndACarReserved
  refine ⟨fun p id x s hr hb hs hx => ?_, fun p id x s hd hw hi => ⟨fun h => ?_, fun h => ?_⟩⟩
  · have hxh : (s.heard p).session p = some x := hx
    rw [exec_identity_of_ready hr hb hs]
    refine ⟨fun h => ?_, fun hw h0 h1 => ?_⟩
    · rw [State.takeIdentity_of_ignored hxh h]
    · rw [State.takeIdentity_of_waiting hxh hw h0 h1]
      refine ⟨fun hn => ?_, fun hn => ?_⟩
      · rw [State.fillSession_of_missing (y := { x with identity := some id }) (.inl hn)]
        rfl
      · obtain ⟨g, hg⟩ := Option.ne_none_iff_exists'.1 hn
        rw [State.fillSession_of_held (y := { x with identity := some id }) hg rfl]
        rfl
  · rw [State.lookup_of_inUse ((s.identityInUse_iff p id).2 h)]
    exact s.failSession_fails p (by rw [hw]; rfl) .inUse
  · have hfree := State.identityInUse_eq_false h
    refine ⟨fun a ha hr => ?_, fun a ha hr => ?_, fun hn => ⟨fun a hf hr hlow => ?_, fun hfull => ?_⟩⟩
    · rw [State.lookup_of_reserved hfree (State.carWithIdentity_of_held hd ha) hr]
      exact s.failSession_fails p (by rw [hw]; rfl) .inUse
    · rw [State.lookup_of_known hfree (State.carWithIdentity_of_held hd ha) hr]
      exact s.reserveFor_reserves p hi a
    · rw [State.lookup_of_free hfree (State.carWithIdentity_of_unheld hn) (State.lowestFree_of_lowest hf hr hlow)]
      exact s.reserveFor_reserves p hi a
    · rw [State.lookup_of_noAddress hfree (State.carWithIdentity_of_unheld hn) (State.lowestFree_of_none hfull)]
      exact s.failSession_fails p (by rw [hw]; rfl) .noAddress

end Sys2Proof.Machine

/-! The requests PAIR_OPEN, PAIR_READ and PAIR_CANCEL and the deadlines of a session (R71, R81, R83 to R85, R88, R166); O36 and
O37. -/

namespace Sys2Proof.Machine

theorem portOf_portArg (p : PortIx) : portOf (portArg p).toNat = some p := by revert p; decide

/-! ### The slot that PAIR_OPEN names (R166) -/

/-- The slot of a PAIR_OPEN whose slot field is in range: none for ANY. -/
def slotNamed (slot : BitVec 8) : Option SlotIx := if slot = 255 then none else slotOf slot.toNat

theorem pairSlot_eq {slot : BitVec 8} (h : slot.toNat < 24 ∨ slot = 255) :
    pairSlot slot.toNat = some (slotNamed slot) := by
  revert slot; decide

theorem slotNamed_eq_some_iff (slot : BitVec 8) (h : SlotIx) : slotNamed slot = some h ↔ slot = slotArg h := by
  revert slot h; decide

/-! ### PAIR_OPEN (R71) -/

theorem windowWord_eq {n : Nat} (h : n < 256) : word16 [⟨7, 0, n⟩] = BitVec.ofNat 16 n :=
  word16_eq_ofNat (by simp; omega)

section
variable {s : State} {p : PortIx} {x : Session} {slot : BitVec 8}

theorem reqPairOpen_of_rest (hg : slot.toNat < 24 ∨ slot = 255) (h : s.part = .rest) (window : BitVec 8) :
    reqPairOpen (portArg p) slot window s = refuse s .asleep := by
  rw [reqPairOpen, portOf_portArg, pairSlot_eq hg]
  exact if_pos h

/-- At a BAY port the session and the claim of the slot decide. -/
theorem reqPairOpen_of_bay (hg : slot.toNat < 24 ∨ slot = 255) (h : s.part ≠ .rest) (hr : (s.port p).role = .bay)
    (hx : s.session p = some x) (window : BitVec 8) : reqPairOpen (portArg p) slot window s =
      if x.state.isOpen then refuse s .busy
      else if (slotNamed slot).any fun h => (s.slot h).claim.isSome then refuse s .busy
      else accept (s.openSession p x.state (slotNamed slot) (clamp 5 120 window.toNat * 1000))
        [word16 [⟨7, 0, clamp 5 120 window.toNat⟩]] := by
  rw [reqPairOpen, portOf_portArg, pairSlot_eq hg]
  dsimp only
  rw [if_neg h, State.baySession_of_bay hr, hx]

theorem reqPairOpen_of_other (hg : slot.toNat < 24 ∨ slot = 255) (h : s.part ≠ .rest) (hr : (s.port p).role ≠ .bay)
    (window : BitVec 8) : reqPairOpen (portArg p) slot window s = refuse s .wrongRole := by
  rw [reqPairOpen, portOf_portArg, pairSlot_eq hg]
  dsimp only
  rw [if_neg h, State.baySession_of_other hr]

theorem reqPairOpen_of_busy (hg : slot.toNat < 24 ∨ slot = 255) (h : s.part ≠ .rest) (hr : (s.port p).role = .bay)
    (hx : s.session p = some x)
    (hb : x.state.isOpen = true ∨ ∃ h, slotNamed slot = some h ∧ (s.slot h).claim ≠ none) (window : BitVec 8) :
    reqPairOpen (portArg p) slot window s = refuse s .busy := by
  rw [reqPairOpen_of_bay hg h hr hx]
  obtain ho | ⟨k, hk, hc⟩ := hb
  · rw [if_pos ho]
  · rw [hk, Option.any_some, if_pos (Option.isSome_iff_ne_none.2 hc), ite_self]

theorem reqPairOpen_accepted (hg : slot.toNat < 24 ∨ slot = 255) (h : s.part ≠ .rest) (hr : (s.port p).role = .bay)
    (hx : s.session p = some x) (ho : x.state.isOpen = false)
    (hc : ∀ h, slotNamed slot = some h → (s.slot h).claim = none) (window : BitVec 8) :
    reqPairOpen (portArg p) slot window s =
      accept (s.openSession p x.state (slotNamed slot) (max 5 (min 120 window.toNat) * 1000))
        [BitVec.ofNat 16 (max 5 (min 120 window.toNat))] := by
  have hfree : (slotNamed slot).any (fun h => (s.slot h).claim.isSome) = false := by
    rw [Option.any_eq_false]
    intro k hk
    rw [hc k hk]
    rfl
  rw [reqPairOpen_of_bay hg h hr hx, hfree, ho, ← windowWord_eq (n := max 5 (min 120 window.toNat)) (by omega)]
  rfl

end

/-! ### PAIR_READ (R88) -/

/-- The first word of PAIR_READ (R166), whose bit 5 no packing names (log entry 33). -/
theorem sessionWord_eq (state outcome attempts known claimed slot : Nat) :
    word16 [⟨15, 13, state⟩, ⟨12, 10, outcome⟩, ⟨9, 8, attempts⟩, ⟨7, 7, known⟩, ⟨6, 6, claimed⟩, ⟨4, 0, slot⟩] =
      BitVec.ofNat 3 state ++ BitVec.ofNat 3 outcome ++ BitVec.ofNat 2 attempts ++ BitVec.ofNat 1 known ++
        BitVec.ofNat 1 claimed ++ BitVec.ofNat 1 0 ++ BitVec.ofNat 5 slot := by
  simp only [ofNat_append]
  exact word16_eq_ofNat (by simp; omega)

theorem addressWord_eq (a : Option CarIx) :
    word16 [⟨4, 0, (a.map addressOf).getD 0⟩] = BitVec.ofNat 16 ((a.map addressOf).getD 0) := by
  have h : (a.map addressOf).getD 0 < 32 := by
    cases a with
    | none => decide
    | some a => show a.val + 1 < 32; omega
  exact word16_eq_ofNat (by simp; omega)

theorem Session.readWords_eq (x : Session) : x.readWords =
    [BitVec.ofNat 3 x.state.code ++ BitVec.ofNat 3 (outcomeCode x.outcome) ++ BitVec.ofNat 2 x.attempts ++
        BitVec.ofBool x.identity.isSome ++ BitVec.ofBool x.slot.isSome ++ (0 : BitVec 1) ++
        BitVec.ofNat 5 ((x.slot.map Fin.val).getD 0),
      BitVec.ofNat 16 ((x.address.map addressOf).getD 0)] := by
  rw [Session.readWords, sessionWord_eq, addressWord_eq, ofBool_eq_ofNat, ofBool_eq_ofNat]
  rfl

section
variable {s : State} {p : PortIx} {x : Session}

theorem reqPairRead_of_other (hr : (s.port p).role ≠ .bay) {page : BitVec 2} (hp : page.toNat < 2) :
    reqPairRead (portArg p) page s = refuse s .wrongRole := by
  rw [reqPairRead, portOf_portArg]
  dsimp only
  rw [if_neg (Nat.not_le.2 hp), State.baySession_of_other hr]

theorem reqPairRead_session (hr : (s.port p).role = .bay) (hx : s.session p = some x) :
    reqPairRead (portArg p) 0 s = accept s x.readWords := by
  rw [reqPairRead, portOf_portArg]
  dsimp only
  rw [State.baySession_of_bay hr, hx]
  rfl

theorem reqPairRead_unknown (hr : (s.port p).role = .bay) (hx : s.session p = some x) (hi : x.identity = none) :
    reqPairRead (portArg p) 1 s = refuse s .notFound := by
  rw [reqPairRead, portOf_portArg]
  dsimp only
  rw [State.baySession_of_bay hr, hx]
  dsimp only
  rw [hi]
  rfl

theorem reqPairRead_known (hr : (s.port p).role = .bay) (hx : s.session p = some x) {id : Identity}
    (hi : x.identity = some id) : reqPairRead (portArg p) 1 s = accept s (identityWords id) := by
  rw [reqPairRead, portOf_portArg]
  dsimp only
  rw [State.baySession_of_bay hr, hx]
  dsimp only
  rw [hi]
  rfl

end

/-- An accepted PAIR_OPEN (R71): the session opens, the claim and the lamp follow. -/
theorem exec_pairOpen_accepted {s : State} {p : PortIx} {x : Session} {slot : BitVec 8} (ht : s.TakesRequests)
    (hg : slot.toNat < 24 ∨ slot = 255) (h : s.part ≠ .rest) (hr : (s.port p).role = .bay)
    (hx : s.session p = some x) (ho : x.state.isOpen = false)
    (hc : ∀ h, slot = slotArg h → (s.slot h).claim = none) (window : BitVec 8) :
    ∃ t n, n = max 5 (min 120 window.toNat) ∧ exec (.pairOpen (portArg p) slot window) s = .next t ∧
      t = { s with
        slots := t.slots, ports := t.ports, replies := s.replies ++ [⟨0x15, .ok, [BitVec.ofNat 16 n]⟩]
        sessions := s.sessions.set p (some ⟨.waiting, slotNamed slot, none, none, 0,
          some (s.now + 1000 * n), none, none⟩) } ∧
      (∀ h, t.slot h = { s.slot h with claim := if slot = slotArg h then some p else (s.slot h).claim }) ∧
      s.LampAsked t p .slow := by
  have hc' : ∀ h, slotNamed slot = some h → (s.slot h).claim = none := fun h e =>
    hc h ((slotNamed_eq_some_iff slot h).1 e)
  have hexec := exec_answered (c := .pairOpen (portArg p) slot window) ht rfl
    (reqPairOpen_accepted hg h hr hx ho hc' window)
  obtain ⟨n, hn⟩ : ∃ n, n = max 5 (min 120 window.toNat) := ⟨_, rfl⟩
  rw [← hn] at hexec
  have heq := s.openSession_eq p x.state (slotNamed slot) (n * 1000)
  have hlamp := s.openSession_lampAsked p ho (slotNamed slot) (n * 1000)
  have hslots : (s.openSession p x.state (slotNamed slot) (n * 1000)).slots =
      (s.claimSlot (slotNamed slot) (some p)).slots := by rw [heq]
  generalize s.openSession p x.state (slotNamed slot) (n * 1000) = u at hexec heq hlamp hslots
  rw [← hslots] at heq
  refine ⟨_, n, hn, hexec, ?_, fun k => ?_, hlamp⟩
  · rw [Nat.mul_comm 1000 n]
    conv_lhs => rw [heq]
    rfl
  · have hk : u.slot k = (s.claimSlot (slotNamed slot) (some p)).slot k := congrArg (·[k.val]) hslots
    simp only [← slotNamed_eq_some_iff, ← State.claimSlot_slot]
    exact hk

/-- Settles O36: the checks of PAIR_OPEN in order, its opening, and the pages of PAIR_READ. -/
theorem pairOpenOpensAWaitingSession : Obligations.PairOpenOpensAWaitingSession := by
  unfold Obligations.PairOpenOpensAWaitingSession
  refine ⟨rfl, rfl, fun p s ht => ⟨fun slot window hg => ⟨fun h => ?_, fun h hr => ?_, fun x h hr hx => ⟨fun hb => ?_,
    fun ho hc => ?_⟩⟩, fun hr page hp => ?_, fun x hr hx => ⟨?_, fun hi => ?_, fun id hi => ?_⟩⟩⟩
  · exact exec_answered ht rfl (reqPairOpen_of_rest hg h window)
  · exact exec_answered ht rfl (reqPairOpen_of_other hg h hr window)
  · refine exec_answered ht rfl (reqPairOpen_of_busy hg h hr hx ?_ window)
    simp only [SessionState.isOpen_iff, slotNamed_eq_some_iff, or_assoc]
    exact hb
  · exact exec_pairOpen_accepted ht hg h hr hx ((SessionState.isOpen_eq_false_iff x.state).2 ho) hc window
  · exact exec_answered ht rfl (reqPairRead_of_other hr hp)
  · rw [← Session.readWords_eq]
    exact exec_answered ht rfl (reqPairRead_session hr hx)
  · exact exec_answered ht rfl (reqPairRead_unknown hr hx hi)
  · exact exec_answered ht rfl (reqPairRead_known hr hx hi)

/-! ### PAIR_CANCEL (R85) -/

section
variable {s : State} {p : PortIx} {x : Session}

theorem reqPairCancel_of_other (hr : (s.port p).role ≠ .bay) : reqPairCancel (portArg p) s = refuse s .wrongRole := by
  rw [reqPairCancel, portOf_portArg]
  dsimp only
  rw [State.baySession_of_other hr]

theorem reqPairCancel_of_shut (hr : (s.port p).role = .bay) (hx : s.session p = some x) (ho : x.state.isOpen = false) :
    reqPairCancel (portArg p) s = refuse s .notFound := by
  rw [reqPairCancel, portOf_portArg]
  dsimp only
  rw [State.baySession_of_bay hr, hx]
  exact if_neg (by rw [ho]; exact Bool.false_ne_true)

theorem reqPairCancel_of_open (hr : (s.port p).role = .bay) (hx : s.session p = some x) (ho : x.state.isOpen = true) :
    reqPairCancel (portArg p) s = accept (s.failSession p x .cancelled) [] := by
  rw [reqPairCancel, portOf_portArg]
  dsimp only
  rw [State.baySession_of_bay hr, hx]
  exact if_pos ho

end

/-! ### The deadlines of a session (R83, R84) -/

section
variable {s : State} {p : PortIx} {x : Session}

theorem State.windowExpires_of_absent (hx : s.session p = none) : s.windowExpires p = s := by
  unfold State.windowExpires
  rw [hx]

theorem State.windowExpires_of_waiting {d : Nat} (hx : s.session p = some x) (hw : x.state = .waiting)
    (hd : x.windowDue = some d) (hn : d ≤ s.now) : s.windowExpires p = s.failSession p x .timeout := by
  unfold State.windowExpires
  rw [hx]
  dsimp only
  rw [hd, State.expire_of_reached hn, if_pos hw]

theorem State.windowExpires_of_other (hx : s.session p = some x)
    (h : x.state ≠ .waiting ∨ ∀ d, x.windowDue = some d → s.now < d) : s.windowExpires p = s := by
  unfold State.windowExpires
  rw [hx]
  dsimp only
  rcases h with h | h
  · exact State.expire_induct (P := (· = s)) rfl fun _ _ _ => if_neg h
  · exact State.expire_of_early h _

theorem State.showExpires_of_absent (hx : s.session p = none) : s.showExpires p = s := by
  unfold State.showExpires
  rw [hx]

theorem State.showExpires_of_shown {d : Nat} (hx : s.session p = some x) (hs : x.state = .showDone ∨ x.state = .showFailed)
    (hd : x.showDue = some d) (hn : d ≤ s.now) :
    s.showExpires p = s.showSession p x.state { x with state := .closed, showDue := none } := by
  unfold State.showExpires
  rw [hx]
  dsimp only
  rw [hd, State.expire_of_reached hn, if_pos hs]

theorem State.showExpires_of_other (hx : s.session p = some x)
    (h : (x.state ≠ .showDone ∧ x.state ≠ .showFailed) ∨ ∀ d, x.showDue = some d → s.now < d) : s.showExpires p = s := by
  unfold State.showExpires
  rw [hx]
  dsimp only
  rcases h with h | h
  · exact State.expire_induct (P := (· = s)) rfl fun _ _ _ => if_neg (not_or.2 h)
  · exact State.expire_of_early h _

end

theorem State.showSession_eq (s : State) (p : PortIx) (old : SessionState) (x : Session) : s.showSession p old x =
    { s with ports := (s.showSession p old x).ports, sessions := s.sessions.set p (some x) } := by
  apply State.ext <;> simp

/-- A shown session turns its lamp off as it closes (R84). -/
theorem SessionState.lamp_of_shown {st : SessionState} (h : st = .showDone ∨ st = .showFailed) : st.lamp ≠ .off := by
  rcases h with rfl | rfl <;> exact fun e => nomatch e

/-- Settles O37: an open session fails, by the request or at its window deadline; a shown one closes at its show deadline. -/
theorem sessionsEndByCancelAndByTheirDeadlines : Obligations.SessionsEndByCancelAndByTheirDeadlines := by
  unfold Obligations.SessionsEndByCancelAndByTheirDeadlines
  refine ⟨fun p s ht hr => exec_answered ht rfl (reqPairCancel_of_other hr), fun p s h hx => ⟨?_, ?_⟩,
    fun p x s h hx => ⟨fun hl hr ho => ?_, fun hl hr ho => ?_, fun d hw hd hn => ?_, fun ho => ?_, fun d hs hd hn => ?_,
      fun ho => ?_⟩⟩
  · exact exec_of_effect_eq h rfl rfl (State.windowExpires_of_absent hx)
  · exact exec_of_effect_eq h rfl rfl (State.showExpires_of_absent hx)
  · exact exec_answered ⟨h, hl⟩ rfl (reqPairCancel_of_shut hr hx ((SessionState.isOpen_eq_false_iff x.state).2 ho))
  · have hopen := (SessionState.isOpen_iff x.state).2 ho
    exact ⟨_, exec_answered ⟨h, hl⟩ rfl (reqPairCancel_of_open hr hx hopen), s.failSession_fails p hopen .cancelled⟩
  · exact ⟨_, exec_of_effect_eq h rfl rfl (State.windowExpires_of_waiting hx hw hd hn),
      s.failSession_fails p (by rw [hw]; rfl) .timeout⟩
  · exact exec_of_effect_eq h rfl rfl (State.windowExpires_of_other hx ho)
  · exact ⟨_, exec_of_effect_eq h rfl rfl (State.showExpires_of_shown hx hs hd hn),
      s.showSession_eq p x.state _, s.showSession_lampAsked p (SessionState.lamp_of_shown hs)⟩
  · exact exec_of_effect_eq h rfl rfl (State.showExpires_of_other hx ho)

end Sys2Proof.Machine

/-! What each operation of the Port Controller makes of one port record (R92, R96 to R105, R109, R110). -/

namespace Sys2Proof.Machine

/-! ### The two halves of a port record's law -/

/-- The clauses of a port record's law on its role, its state and what runs or is marked in it (R92, R96, R102, R104, R106). -/
structure Port.StateLawful (q : Port) : Prop where
  off : q.state = .off ↔ q.role = .unused
  flap : q.state = .straight ∨ q.state = .throwing ∨ q.state = .thrown ∨ q.state = .returning ∨ q.state = .fault →
    q.role = .switch
  ready : q.state = .ready → q.role = .bay ∨ q.role = .delegated
  masked : q.masked = true → q.role = .switch
  returnPending : q.returnPending = true → q.state = .throwing
  resetDue : q.resetDue.isSome ↔ q.state = .resetting
  flapDue : q.flapDue.isSome ∨ q.flapAwaiting = true → q.state = .throwing ∨ q.state = .returning
  marks : q.lateMotion = true ∨ q.roleTaken.isSome → q.state = .resetting

/-- Its clauses on ranges (R98, R99, R102). -/
structure Port.RangesLawful (q : Port) : Prop where
  extension : q.extension ≤ 2
  errors : q.errors ≤ 255
  throws : q.throws ≤ 65535
  config : q.config.InRange
  counters : q.counters.InRange

theorem Port.RangesLawful.congr {q r : Port} (h : q.RangesLawful) (hx : r.extension = q.extension := by rfl)
    (he : r.errors = q.errors := by rfl) (ht : r.throws = q.throws := by rfl) (hc : r.config = q.config := by rfl)
    (hn : r.counters = q.counters := by rfl) : r.RangesLawful :=
  ⟨hx ▸ h.extension, he ▸ h.errors, ht ▸ h.throws, hc ▸ h.config, hn ▸ h.counters⟩

theorem Port.lawful_iff (q : Port) : q.Lawful ↔ q.StateLawful ∧ q.RangesLawful := by
  constructor
  · rintro ⟨h1, h2, h3, h4, h5, h6, h7, h8, r1, r2, r3, r4, r5⟩
    exact ⟨⟨h1, h2, h3, h4, h5, h6, h7, h8⟩, ⟨r1, r2, r3, r4, r5⟩⟩
  · rintro ⟨⟨h1, h2, h3, h4, h5, h6, h7, h8⟩, ⟨r1, r2, r3, r4, r5⟩⟩
    exact ⟨h1, h2, h3, h4, h5, h6, h7, h8, r1, r2, r3, r4, r5⟩

/-- A SWITCH port that needs an entry in its zone's list: its flap is across, or on its way there for good (R103). -/
def Port.NeedsEntry (q : Port) : Prop := q.state = .thrown ∨ (q.state = .throwing ∧ q.returnPending = false)

/-- The record `r` may come after `q`: lawful where `q` is, in the same role and zone. -/
structure Port.Succeeds (q r : Port) : Prop where
  lawful : q.Lawful → r.Lawful
  role : r.role = q.role
  zone : r.config.zone = q.config.zone

/-- Besides, it needs an entry only where `q` did. -/
structure Port.Follows (q r : Port) : Prop extends Port.Succeeds q r where
  needs : r.NeedsEntry → q.NeedsEntry

theorem Port.Succeeds.trans {q r u : Port} (h : q.Succeeds r) (k : r.Succeeds u) : q.Succeeds u :=
  ⟨fun hq => k.lawful (h.lawful hq), k.role.trans h.role, k.zone.trans h.zone⟩

theorem Port.Follows.refl (q : Port) : q.Follows q := ⟨⟨id, rfl, rfl⟩, id⟩

theorem Port.Follows.trans {q r u : Port} (h : q.Follows r) (k : r.Follows u) : q.Follows u :=
  ⟨h.toSucceeds.trans k.toSucceeds, fun hu => h.needs (k.needs hu)⟩

/-! ### Lines and counts -/

/-- The law does not speak of the line. -/
theorem Port.Follows.line (q : Port) (leaving : Option HubMsg) (waiting : List HubMsg) (sending : Bool) :
    q.Follows { q with leaving := leaving, waiting := waiting, moduleSending := sending } := ⟨⟨id, rfl, rfl⟩, id⟩

theorem Port.issue_eq (q : Port) (m : HubMsg) :
    q.issue m = { q with leaving := (q.issue m).leaving, waiting := (q.issue m).waiting } := by
  unfold Port.issue
  split <;> rfl

theorem Port.Follows.issue (q : Port) (m : HubMsg) : q.Follows (q.issue m) := by
  rw [Port.issue_eq]
  exact .line q _ _ _

/-- Counts, settings and records that no state of the port depends on. -/
theorem Port.Follows.counts {q r : Port} (hr : q.RangesLawful → r.RangesLawful)
    (he : r = { q with
      errors := r.errors, kind := r.kind, faultCode := r.faultCode, config := r.config, throws := r.throws
      counters := r.counters, lastDecision := r.lastDecision, extension := r.extension })
    (hz : r.config.zone = q.config.zone) : q.Follows r := by
  refine ⟨⟨fun h => ?_, by rw [he], hz⟩, fun h => ?_⟩
  · rw [Port.lawful_iff] at h ⊢
    obtain ⟨⟨h1, h2, h3, h4, h5, h6, h7, h8⟩, h9⟩ := h
    refine ⟨?_, hr h9⟩
    rw [he]
    exact ⟨h1, h2, h3, h4, h5, h6, h7, h8⟩
  · rw [he] at h
    exact h

theorem raise8_le {n : Nat} (h : n ≤ 255) : raise8 n ≤ 255 := by unfold raise8; split <;> omega

theorem Counters.zero_inRange : Counters.zero.InRange := by simp [Counters.InRange, Counters.zero]

theorem Port.Follows.errors (q : Port) {n : Nat} (hn : q.errors ≤ 255 → n ≤ 255) : q.Follows { q with errors := n } :=
  .counts (fun h => ⟨h.extension, hn h.errors, h.throws, h.config, h.counters⟩) rfl rfl

theorem Port.Follows.throws (q : Port) : q.Follows { q with throws := raise16 q.throws } :=
  .counts (fun h => ⟨h.extension, h.errors, raise16_le h.throws, h.config, h.counters⟩) rfl rfl

theorem Port.Follows.counters (q : Port) {n : Counters} (hn : q.counters.InRange → n.InRange) (d : Option Decision) :
    q.Follows { q with counters := n, lastDecision := d } :=
  .counts (fun h => ⟨h.extension, h.errors, h.throws, h.config, hn h.counters⟩) rfl rfl

/-- One of the seven counters raised (R99). -/
inductive Counters.Raise : (Counters → Counters) → Prop
  | none : Counters.Raise id
  | completed : Counters.Raise fun n => { n with completed := raise16 n.completed }
  | missed : Counters.Raise fun n => { n with missed := raise16 n.missed }
  | expired : Counters.Raise fun n => { n with expired := raise16 n.expired }
  | swept : Counters.Raise fun n => { n with swept := raise16 n.swept }
  | presumed : Counters.Raise fun n => { n with presumed := raise16 n.presumed }
  | grant : Counters.Raise fun n => { n with grant := raise16 n.grant }
  | deny : Counters.Raise fun n => { n with deny := raise16 n.deny }

theorem Counters.Raise.inRange {f : Counters → Counters} (hf : Counters.Raise f) {n : Counters} (h : n.InRange) :
    (f n).InRange := by
  obtain ⟨h1, h2, h3, h4, h5, h6, h7⟩ := h
  cases hf with
  | none => exact ⟨h1, h2, h3, h4, h5, h6, h7⟩
  | completed => exact ⟨h1, h2, raise16_le h3, h4, h5, h6, h7⟩
  | missed => exact ⟨h1, h2, h3, raise16_le h4, h5, h6, h7⟩
  | expired => exact ⟨h1, h2, h3, h4, raise16_le h5, h6, h7⟩
  | swept => exact ⟨h1, h2, h3, h4, h5, raise16_le h6, h7⟩
  | presumed => exact ⟨h1, h2, h3, h4, h5, h6, raise16_le h7⟩
  | grant => exact ⟨raise16_le h1, h2, h3, h4, h5, h6, h7⟩
  | deny => exact ⟨h1, raise16_le h2, h3, h4, h5, h6, h7⟩

theorem Port.Follows.raise (q : Port) {f : Counters → Counters} (hf : Counters.Raise f) :
    q.Follows { q with counters := f q.counters } := .counters q hf.inRange q.lastDecision

theorem Port.Follows.withMask {q : Port} (h : q.role = .switch) (m : Bool) : q.Follows { q with masked := m } := by
  refine ⟨⟨fun hq => ?_, rfl, rfl⟩, id⟩
  obtain ⟨⟨h1, h2, h3, -, h5, h6, h7, h8⟩, hr⟩ := (Port.lawful_iff q).1 hq
  exact (Port.lawful_iff _).2 ⟨⟨h1, h2, h3, fun _ => h, h5, h6, h7, h8⟩, hr.congr⟩

/-- The mark of a motion that was cut off may fall (log entry 36). -/
theorem Port.Follows.dropMark (q : Port) (b : Bool) : q.Follows { q with lateMotion := q.lateMotion && b } := by
  refine ⟨⟨fun hq => ?_, rfl, rfl⟩, id⟩
  obtain ⟨⟨h1, h2, h3, h4, h5, h6, h7, h8⟩, hr⟩ := (Port.lawful_iff q).1 hq
  refine (Port.lawful_iff _).2 ⟨⟨h1, h2, h3, h4, h5, h6, h7, fun hm => h8 ?_⟩, hr.congr⟩
  exact hm.imp_left fun hl => (Bool.and_eq_true_iff.1 hl).1

/-! ### Where no motion and no reset is under way -/

/-- Neither the reset deadline nor a mark for late reports stands at the port (R96, log entry 36). -/
structure Port.OutOfReset (q : Port) : Prop where
  resetDue : q.resetDue = none
  lateMotion : q.lateMotion = false
  roleTaken : q.roleTaken = none

theorem Port.Lawful.outOfReset {q : Port} (h : q.Lawful) (hs : q.state ≠ .resetting) : q.OutOfReset := by
  obtain ⟨⟨-, -, -, -, -, h6, -, h8⟩, -⟩ := (Port.lawful_iff q).1 h
  simp only [hs, iff_false, imp_false, not_or, Bool.not_eq_true, Option.isSome_eq_false_iff, Option.isNone_iff_eq_none] at h6 h8
  obtain ⟨hl, ht⟩ := h8
  exact ⟨h6, hl, ht⟩

/-- No motion is under way at the port: nothing of one is pending, runs or is awaited (R102, R104). -/
structure Port.Still (q : Port) : Prop where
  returnPending : q.returnPending = false
  flapDue : q.flapDue = none
  flapAwaiting : q.flapAwaiting = false

theorem Port.Lawful.still {q : Port} (h : q.Lawful) (h1 : q.state ≠ .throwing) (h2 : q.state ≠ .returning) : q.Still := by
  obtain ⟨⟨-, -, -, -, h5, -, h7, -⟩, -⟩ := (Port.lawful_iff q).1 h
  simp only [h1, h2, or_self, imp_false, not_or, Bool.not_eq_true, Option.isSome_eq_false_iff, Option.isNone_iff_eq_none] at h5 h7
  obtain ⟨hd, ha⟩ := h7
  exact ⟨h5, hd, ha⟩

/-- A record in a state of its role in which neither motion nor reset is under way. -/
theorem Port.StateLawful.of_still {q : Port} (hr : q.OutOfReset) (hs : q.Still) (ho : q.state = .off ↔ q.role = .unused)
    (hn : q.state ≠ .resetting) (hf : q.state = .straight ∨ q.state = .thrown ∨ q.state = .fault → q.role = .switch)
    (h1 : q.state ≠ .throwing) (h2 : q.state ≠ .returning)
    (hb : q.state = .ready → q.role = .bay ∨ q.role = .delegated) (hm : q.masked = true → q.role = .switch) :
    q.StateLawful where
  off := ho
  flap := by simpa [h1, h2] using hf
  ready := hb
  masked := hm
  returnPending := by simp [hs.returnPending]
  resetDue := by simp [hr.resetDue, hn]
  flapDue := by simp [hs.flapDue, hs.flapAwaiting]
  marks := by simp [hr.lateMotion, hr.roleTaken]

/-- The record as a motion has just begun (R101, R104). -/
theorem Port.startMotion_lawful {q : Port} (hq : q.RangesLawful) (hr : q.OutOfReset) (hs : q.role = .switch) (m : HubMsg)
    {st : PortState} (hst : st = .throwing ∨ st = .returning) : (q.startMotion m st).Lawful := by
  have hst' : st ≠ .off ∧ st ≠ .ready ∧ st ≠ .resetting := by rcases hst with rfl | rfl <;> decide
  obtain ⟨h1, h2, h3⟩ := hst'
  unfold Port.startMotion
  rw [Port.issue_eq, Port.lawful_iff]
  refine ⟨⟨?_, ?_, ?_, ?_, ?_, ?_, ?_, ?_⟩, ⟨by simp, hq.errors, hq.throws, hq.config, hq.counters⟩⟩
  · simp [h1, hs]
  · simp [hs]
  · simp [h2]
  · simp [hs]
  · simp
  · simp [h3, hr.resetDue]
  · simpa using hst
  · simp [hr.lateMotion, hr.roleTaken]

@[simp] theorem Port.startMotion_state (q : Port) (m : HubMsg) (st : PortState) : (q.startMotion m st).state = st := rfl

@[simp] theorem Port.startMotion_zone (q : Port) (m : HubMsg) (st : PortState) :
    (q.startMotion m st).config.zone = q.config.zone := by
  unfold Port.startMotion
  rw [Port.issue_eq]

theorem Port.needsEntry_of_state {q : Port} (h1 : q.state ≠ .thrown) (h2 : q.state ≠ .throwing) : ¬q.NeedsEntry := by
  rintro (h | ⟨h, -⟩)
  · exact h1 h
  · exact h2 h

/-- A flap of a SWITCH port that is not being reset turns to straight (R103 to R105). -/
theorem Port.Follows.startReturn {q : Port} (hs : q.Lawful → q.role = .switch ∧ q.state ≠ .resetting) :
    q.Follows q.startReturn := by
  refine ⟨⟨fun hq => ?_, by simp, by simp [Port.startReturn]⟩,
    fun h => absurd h (Port.needsEntry_of_state (by simp [Port.startReturn]) (by simp [Port.startReturn]))⟩
  obtain ⟨h1, h2⟩ := hs hq
  exact Port.startMotion_lawful ((Port.lawful_iff q).1 hq).2 (hq.outOfReset h2) h1 _ (.inr rfl)

/-- In the states of the flap machine the port is a SWITCH port (R92). -/
theorem Port.Lawful.role_of_flap {q : Port} (h : q.Lawful) (hs : q.state = .straight ∨ q.state = .throwing ∨
    q.state = .thrown ∨ q.state = .returning ∨ q.state = .fault) : q.role = .switch :=
  ((Port.lawful_iff q).1 h).1.flap hs

/-! ### The flap machine -/

/-- A return pending at a port in THROWING (R104). -/
theorem Port.Follows.markReturn {q : Port} (hs : q.state = .throwing) : q.Follows { q with returnPending := true } := by
  refine ⟨⟨fun hq => ?_, rfl, rfl⟩, ?_⟩
  · obtain ⟨⟨h1, h2, h3, h4, -, h6, h7, h8⟩, hr⟩ := (Port.lawful_iff q).1 hq
    exact (Port.lawful_iff _).2 ⟨⟨h1, h2, h3, h4, fun _ => hs, h6, h7, h8⟩, hr.congr⟩
  · rintro (h | ⟨-, h⟩)
    · exact .inl h
    · cases h

/-- The motion settles (R103). -/
theorem Port.Follows.settle {q : Port} {st : PortState} (hp : q.state = .returning ∨ q.returnPending = false)
    (h : (q.state = .throwing ∧ st = .thrown) ∨ (q.state = .returning ∧ st = .straight)) :
    q.Follows { q with state := st, flapDue := none, flapAwaiting := false } := by
  refine ⟨⟨fun hq => ?_, rfl, rfl⟩, ?_⟩
  · have hr := hq.role_of_flap (by rcases h with ⟨h, -⟩ | ⟨h, -⟩ <;> simp [h])
    have ho := hq.outOfReset (by rcases h with ⟨h, -⟩ | ⟨h, -⟩ <;> simp [h])
    have hk : q.returnPending = false := by
      obtain ⟨⟨-, -, -, -, h5, -⟩, -⟩ := (Port.lawful_iff q).1 hq
      rcases hp with hp | hp
      · simpa [hp] using h5
      · exact hp
    rw [Port.lawful_iff] at hq ⊢
    obtain ⟨h1, h2, h3, h4, h5⟩ := hq.2
    refine ⟨.of_still ⟨ho.resetDue, ho.lateMotion, ho.roleTaken⟩ ⟨hk, rfl, rfl⟩ ?_ ?_ (fun _ => hr) ?_ ?_ ?_ fun _ => hr,
      ⟨h1, h2, h3, h4, h5⟩⟩ <;> rcases h with ⟨-, rfl⟩ | ⟨-, rfl⟩ <;> simp [hr]
  · rintro (hn | ⟨hn, -⟩) <;> rcases h with ⟨h, rfl⟩ | ⟨-, rfl⟩
    · rcases hp with hp | hp
      · rw [h] at hp; cases hp
      · exact .inr ⟨h, hp⟩
    all_goals cases hn

/-- A motion is extended, or its deadline starts (R102). -/
theorem Port.Follows.flapDeadline {q : Port} (hs : q.state = .throwing ∨ q.state = .returning) {n : Nat}
    (hn : q.extension ≤ 2 → n ≤ 2) (d : Option Nat) (leaving : Option HubMsg) :
    q.Follows { q with extension := n, flapDue := d, flapAwaiting := false, leaving := leaving } := by
  refine ⟨⟨fun hq => ?_, rfl, rfl⟩, id⟩
  obtain ⟨⟨h1, h2, h3, h4, h5, h6, -, h8⟩, ⟨r1, r2, r3, r4, r5⟩⟩ := (Port.lawful_iff q).1 hq
  exact (Port.lawful_iff _).2 ⟨⟨h1, h2, h3, h4, h5, h6, fun _ => hs, h8⟩, ⟨hn r1, r2, r3, r4, r5⟩⟩

/-- A SWITCH port that is not being reset enters FAULT (R100). -/
theorem Port.Follows.intoFault {q : Port} (hs : q.Lawful → q.role = .switch ∧ q.state ≠ .resetting) :
    q.Follows q.intoFault := by
  refine ⟨⟨fun hq => ?_, rfl, rfl⟩, fun h => absurd h (Port.needsEntry_of_state (fun e => nomatch e) fun e => nomatch e)⟩
  obtain ⟨hr, hn⟩ := hs hq
  have ho := hq.outOfReset hn
  rw [Port.lawful_iff] at hq ⊢
  obtain ⟨-, h2, h3, h4, h5⟩ := hq.2
  refine ⟨.of_still ⟨ho.resetDue, ho.lateMotion, ho.roleTaken⟩ ⟨rfl, rfl, rfl⟩ ?_ ?_ (fun _ => hr) ?_ ?_ ?_ fun _ => hr,
    ⟨Nat.zero_le _, h2, h3, h4, h5⟩⟩ <;> simp [Port.intoFault, Port.clearMotion, Port.discardFlap, hr]

theorem Port.Follows.faultCode (q : Port) (c : Option (BitVec 8)) : q.Follows { q with faultCode := c } :=
  .counts (fun h => ⟨h.extension, h.errors, h.throws, h.config, h.counters⟩) rfl rfl

theorem Port.Follows.clearSection (q : Port) : q.Follows q.clearSection := by
  have h1 : q.Follows { q with counters := Counters.zero, lastDecision := none } :=
    .counters q (fun _ => Counters.zero_inRange) none
  unfold Port.clearSection
  dsimp only
  split
  case isTrue h =>
    obtain ⟨hr, hs⟩ := h
    refine (h1.trans (.startReturn fun _ => ⟨hr, ?_⟩)).trans (.faultCode _ none)
    rw [hs]
    decide
  case isFalse => exact h1

/-! ### Lines that become free -/

theorem Port.Follows.messageLeft (q : Port) (due : Nat) : q.Follows (q.messageLeft due) := by
  by_cases h : q.FlapStarts
  · rw [Port.messageLeft_of_flap h]
    obtain ⟨-, -, hm⟩ := h
    exact .flapDeadline (hm.imp (fun k => k.2) fun k => k.2) id _ _
  · rw [Port.messageLeft_of_not_flap h]
    exact .line q _ _ _

theorem Port.Follows.lineFree (q : Port) (due : Nat) : q.Follows (q.lineFree due) := by
  rw [Port.lineFree_eq]
  exact (Port.Follows.messageLeft q due).trans (.line _ _ _ _)

theorem Port.Follows.flapCommandLeft (q : Port) (due : Nat) : q.Follows (q.flapCommandLeft due) := by
  unfold Port.flapCommandLeft
  split
  · exact .messageLeft q due
  · exact .refl q

/-! ### Reset, rest and wake -/

/-- The record of a port whose module is reset, the reset deadline running (R95, R109, R110). -/
theorem Port.StateLawful.of_resetting {q : Port} (hs : q.state = .resetting) (hd : q.resetDue.isSome) (hk : q.Still)
    (hr : q.role ≠ .unused) (hm : q.masked = true → q.role = .switch) : q.StateLawful where
  off := by simp [hs, hr]
  flap := by simp [hs]
  ready := by simp [hs]
  masked := hm
  returnPending := by simp [hk.returnPending]
  resetDue := by simp [hs, hd]
  flapDue := by simp [hk.flapDue, hk.flapAwaiting]
  marks := fun _ => hs

/-- The reset deadline expires (R96). -/
theorem Port.Follows.intoAbsent {q : Port} (hs : q.state = .resetting) :
    q.Follows { q with state := .absent, resetDue := none, lateMotion := false, roleTaken := none } := by
  refine ⟨⟨fun hq => ?_, rfl, rfl⟩, fun h => absurd h (Port.needsEntry_of_state (fun e => nomatch e) fun e => nomatch e)⟩
  have hk := hq.still (by simp [hs]) (by simp [hs])
  obtain ⟨⟨h1, -, -, h4, -⟩, hr⟩ := (Port.lawful_iff q).1 hq
  rw [Port.lawful_iff]
  refine ⟨.of_still ⟨rfl, rfl, rfl⟩ ⟨hk.returnPending, hk.flapDue, hk.flapAwaiting⟩ ?_ ?_ ?_ ?_ ?_ ?_ h4,
    hr.congr⟩ <;> simp [← h1, hs]

theorem Port.Follows.rest (q : Port) : q.Follows q.rest := by
  unfold Port.rest
  split
  case isTrue => exact .refl q
  case isFalse ho =>
    rw [Port.issue_eq]
    refine ⟨⟨fun hq => ?_, rfl, rfl⟩,
      fun h => absurd h (Port.needsEntry_of_state (fun e => nomatch e) fun e => nomatch e)⟩
    obtain ⟨⟨h1, -, -, h4, -⟩, hr⟩ := (Port.lawful_iff q).1 hq
    rw [Port.lawful_iff]
    refine ⟨.of_still ⟨rfl, rfl, rfl⟩ ⟨rfl, rfl, rfl⟩ ?_ ?_ ?_ ?_ ?_ ?_ h4,
      ⟨Nat.zero_le _, hr.errors, hr.throws, hr.config, hr.counters⟩⟩ <;> simp [Port.clearMotion, ← h1, ho]

theorem Port.Follows.wake (q : Port) (due : Nat) : q.Follows (q.wake due) := by
  unfold Port.wake
  split
  case isFalse => exact .refl q
  case isTrue hs =>
    rw [Port.issue_eq]
    refine ⟨⟨fun hq => ?_, rfl, rfl⟩,
      fun h => absurd h (Port.needsEntry_of_state (fun e => nomatch e) fun e => nomatch e)⟩
    have hk := hq.still (by simp [hs]) (by simp [hs])
    obtain ⟨⟨h1, -, -, h4, -⟩, hr⟩ := (Port.lawful_iff q).1 hq
    rw [Port.lawful_iff]
    refine ⟨.of_resetting rfl rfl ⟨hk.returnPending, hk.flapDue, hk.flapAwaiting⟩ ?_ h4,
      hr.congr⟩
    rw [Ne, ← h1, hs]
    decide

theorem Port.powerIfDormant_eq (q : Port) : q.powerIfDormant =
    { q with leaving := q.powerIfDormant.leaving, waiting := q.powerIfDormant.waiting } := by
  unfold Port.powerIfDormant
  split
  · exact Port.issue_eq q _
  · rfl

theorem Port.resetModule_eq (q : Port) (due : Nat) : q.resetModule due = { q with
    leaving := (q.resetModule due).leaving, waiting := (q.resetModule due).waiting, state := .resetting
    resetDue := some due } := by
  unfold Port.resetModule
  rw [Port.issue_eq]

theorem Port.Follows.softReset (q : Port) (due : Nat) : q.Follows (q.softReset due) := by
  unfold Port.softReset
  split
  case isTrue =>
    exact .counts (fun h => ⟨h.extension, Nat.zero_le _, h.throws, h.config, Counters.zero_inRange⟩) rfl rfl
  case isFalse ho =>
    rw [Port.resetModule_eq, Port.powerIfDormant_eq]
    refine ⟨⟨fun hq => ?_, rfl, rfl⟩,
      fun h => absurd h (Port.needsEntry_of_state (fun e => nomatch e) fun e => nomatch e)⟩
    obtain ⟨⟨h1, -, -, h4, -⟩, hr⟩ := (Port.lawful_iff q).1 hq
    rw [Port.lawful_iff]
    refine ⟨.of_resetting rfl rfl ⟨rfl, rfl, rfl⟩ ?_ h4,
      ⟨Nat.zero_le _, Nat.zero_le _, hr.throws, hr.config, Counters.zero_inRange⟩⟩
    exact fun h => ho (h1.2 h)

end Sys2Proof.Machine

/-! Which states may come after a state as far as crossing lists, port records and flaps go: the records succeed, no list grows,
and a flap that an entry had to serve is served still (R92, R103, R112, R113, R116). -/

namespace Sys2Proof.Machine

/-! ### Zones and the entries that flaps need -/

/-- The clauses of the crossing lists' law on capacity and conflict flag (R112, R115). -/
def Zone.Sound (x : Zone) : Prop := 1 ≤ x.capacity ∧ x.capacity ≤ 3 ∧ (x.entries = [] → x.conflict = false)

/-- The zone record `y` may come after `x`: sound where `x` is, and no entry has joined the list. -/
structure Zone.Shrinks (x y : Zone) : Prop where
  sound : x.Sound → y.Sound
  entries : y.entries.Sublist x.entries

theorem Zone.Shrinks.refl (x : Zone) : x.Shrinks x := ⟨id, .refl _⟩

theorem Zone.Shrinks.trans {x y w : Zone} (h : x.Shrinks y) (k : y.Shrinks w) : x.Shrinks w :=
  ⟨fun hx => k.sound (h.sound hx), k.entries.trans h.entries⟩

/-- Entries leave, and the conflict flag falls with the last (R115, R133). -/
theorem Zone.Shrinks.leave {x : Zone} {rest : List Entry} (h : rest.Sublist x.entries) :
    x.Shrinks { x with entries := rest, conflict := x.conflict && !rest.isEmpty } := by
  refine ⟨fun ⟨h1, h2, _⟩ => ⟨h1, h2, fun he => ?_⟩, h⟩
  have he' : rest = [] := he
  simp [he']

/-- The guard is written or falls (R123, R124). -/
theorem Zone.Shrinks.withGuard (x : Zone) (g : Option Guard) : x.Shrinks { x with guard := g } := ⟨id, .refl _⟩

theorem Zone.holds_iff (x : Zone) (p : PortIx) : x.holds p = true ↔ ∃ e ∈ x.entries, e.port = p := by
  simp [Zone.holds]

/-- Port `p` has an entry in its zone's list where it needs one (R103). -/
def State.Serves (s : State) (p : PortIx) : Prop := (s.port p).NeedsEntry → (s.zone (s.zoneOfPort p)).holds p = true

/-- The state `t` may come after `s`: each port record succeeds, no list has grown, and each port but `free` is served as it
was. -/
structure State.Follows (free : Option PortIx) (s t : State) : Prop where
  port : ∀ p, (s.port p).Succeeds (t.port p)
  zone : ∀ z, (s.zone z).Shrinks (t.zone z)
  serves : ∀ p, free ≠ some p → (s.port p).Lawful → s.Serves p → t.Serves p

theorem State.Follows.refl (free : Option PortIx) (s : State) : State.Follows free s s :=
  ⟨fun p => (Port.Follows.refl (s.port p)).toSucceeds, fun z => .refl (s.zone z), fun _ _ _ h => h⟩

theorem State.Follows.trans {free : Option PortIx} {s t u : State} (h : State.Follows free s t)
    (k : State.Follows free t u) : State.Follows free s u :=
  ⟨fun p => (h.port p).trans (k.port p), fun z => (h.zone z).trans (k.zone z),
    fun p hp hl hs => k.serves p hp ((h.port p).lawful hl) (h.serves p hp hl hs)⟩

theorem State.Follows.weaken {s t : State} (h : State.Follows none s t) (free : Option PortIx) : State.Follows free s t :=
  ⟨h.port, h.zone, fun p _ => h.serves p (fun e => nomatch e)⟩

/-- What the ports' records alone decide. -/
theorem State.Follows.of_ports {free : Option PortIx} {s t : State} (hp : ∀ p, (s.port p).Follows (t.port p))
    (hz : t.zones = s.zones) : State.Follows free s t := by
  have hzone : ∀ z, t.zone z = s.zone z := fun z => congrArg (·[z.val]) hz
  refine ⟨fun p => (hp p).toSucceeds, fun z => by rw [hzone]; exact .refl _, fun p _ _ hs hn => ?_⟩
  have h1 : t.zoneOfPort p = s.zoneOfPort p := (hp p).zone
  rw [h1, hzone]
  exact hs ((hp p).needs hn)

/-- Operations that touch neither ports nor zones. -/
theorem State.Follows.untouched {free : Option PortIx} {s t : State} (hp : t.ports = s.ports := by simp)
    (hz : t.zones = s.zones := by simp) : State.Follows free s t :=
  .of_ports (fun p => by rw [show t.port p = s.port p from congrArg (·[p.val]) hp]; exact .refl _) hz

/-- One record is written anew. -/
theorem State.Follows.of_set {free : Option PortIx} {s t : State} {p : PortIx} {r : Port} (hr : (s.port p).Follows r)
    (ht : t.ports = s.ports.set p r) (hz : t.zones = s.zones := by rfl) : State.Follows free s t := by
  refine .of_ports (fun q => ?_) hz
  have hq : t.port q = (s.modPort p fun _ => r).port q := congrArg (·[q.val]) ht
  rw [hq, State.port_modPort]
  split
  case isTrue e => rw [← e]; exact hr
  case isFalse => exact .refl _

theorem State.Follows.modPort {free : Option PortIx} (s : State) {p : PortIx} {f : Port → Port}
    (hf : (s.port p).Follows (f (s.port p))) : State.Follows free s (s.modPort p f) := .of_set hf rfl

theorem State.Follows.mapPorts {free : Option PortIx} {s t : State} {f : Port → Port} (hf : ∀ q, Port.Follows q (f q))
    (ht : ∀ p, t.port p = f (s.port p)) (hz : t.zones = s.zones) : State.Follows free s t :=
  .of_ports (fun p => by rw [ht]; exact hf _) hz

/-! ### The laws together -/

/-- The laws of crossing lists, ports and flaps, the flap of port `free` excepted. -/
structure State.SectionsLawful (free : Option PortIx) (s : State) : Prop where
  lists : s.ListsLawful
  ports : s.PortsLawful
  serves : ∀ p, free ≠ some p → s.Serves p

theorem State.sectionsLawful_iff (s : State) :
    State.SectionsLawful none s ↔ s.ListsLawful ∧ s.PortsLawful ∧ s.FlapsServeEntries :=
  ⟨fun ⟨h1, h2, h3⟩ => ⟨h1, h2, fun p => h3 p (fun e => nomatch e)⟩, fun ⟨h1, h2, h3⟩ => ⟨h1, h2, fun p _ => h3 p⟩⟩

theorem State.SectionsLawful.weaken {s : State} (h : State.SectionsLawful none s) (free : Option PortIx) :
    State.SectionsLawful free s := ⟨h.lists, h.ports, fun p _ => h.serves p (fun e => nomatch e)⟩

theorem State.SectionsLawful.port {free : Option PortIx} {s : State} (h : State.SectionsLawful free s) (p : PortIx) :
    (s.port p).Lawful := by
  obtain ⟨hp, -⟩ := h.ports
  exact hp p

theorem State.bayCount_congr {s t : State} (h : ∀ p, (t.port p).role = (s.port p).role) : t.bayCount = s.bayCount := by
  unfold State.bayCount
  simp only [h]

/-- The crossing lists stay lawful where none grows and no port changes role or zone (R112, R113, R116). -/
theorem State.ListsLawful.shrink {s t : State} (h : s.ListsLawful) (hp : ∀ p, (s.port p).Succeeds (t.port p))
    (hz : ∀ z, (s.zone z).Shrinks (t.zone z)) : t.ListsLawful := by
  obtain ⟨h1, h2⟩ := h
  have hmem : ∀ z, ∀ e ∈ (t.zone z).entries, e ∈ (s.zone z).entries := fun z e he => (hz z).entries.subset he
  refine ⟨fun z => ?_, fun z y d hd e he => h2 z y d (hmem z d hd) e (hmem y e he)⟩
  obtain ⟨c1, c2, hl, hc, hn, he⟩ := h1 z
  obtain ⟨k1, k2, k3⟩ := (hz z).sound ⟨c1, c2, hc⟩
  refine ⟨k1, k2, (hz z).entries.length_le.trans hl, k3, ((hz z).entries.filterMap _).nodup hn, fun e hm => ?_⟩
  have hzone : t.zoneOfPort e.port = s.zoneOfPort e.port := (hp e.port).zone
  rw [hzone, (hp e.port).role]
  exact he e (hmem z e hm)

theorem State.PortsLawful.succeed {s t : State} (h : s.PortsLawful) (hp : ∀ p, (s.port p).Succeeds (t.port p)) :
    t.PortsLawful := by
  obtain ⟨h1, h2⟩ := h
  refine ⟨fun p => (hp p).lawful (h1 p), ?_⟩
  rw [State.bayCount_congr fun p => (hp p).role]
  exact h2

/-- What may come after a lawful state is lawful. -/
theorem State.SectionsLawful.follow {free : Option PortIx} {s t : State} (h : State.SectionsLawful free s)
    (k : State.Follows free s t) : State.SectionsLawful free t :=
  ⟨h.lists.shrink k.port k.zone, h.ports.succeed k.port, fun p hp => k.serves p hp (h.port p) (h.serves p hp)⟩

/-! ### A port that no entry names -/

/-- No crossing list holds an entry of port `p`. -/
def State.NoEntryOf (s : State) (p : PortIx) : Prop := ∀ z, ∀ e ∈ (s.zone z).entries, e.port ≠ p

/-- The record of a port without entries is written anew: lawful, and in need of no entry. -/
theorem State.SectionsLawful.write_free {s : State} {p : PortIx} (h : State.SectionsLawful (some p) s)
    (hn : s.NoEntryOf p) {f : Port → Port} (hl : (f (s.port p)).Lawful) (hk : ¬(f (s.port p)).NeedsEntry)
    (hb : (s.modPort p f).bayCount ≤ 4) : State.SectionsLawful none (s.modPort p f) := by
  have hzone : ∀ z, (s.modPort p f).zone z = s.zone z := fun z => by simp
  have hother : ∀ q, q ≠ p → (s.modPort p f).port q = s.port q := fun q hq => by
    rw [State.port_modPort, if_neg fun e => hq e.symm]
  have hself : (s.modPort p f).port p = f (s.port p) := by rw [State.port_modPort, if_pos rfl]
  obtain ⟨h1, h2⟩ := h.lists
  refine ⟨⟨fun z => ?_, fun z y => by simpa only [hzone] using h2 z y⟩, ⟨fun q => ?_, hb⟩, fun q _ hq => ?_⟩
  · rw [hzone]
    obtain ⟨k1, k2, k3, k4, k5, k6⟩ := h1 z
    refine ⟨k1, k2, k3, k4, k5, fun e he => ?_⟩
    have hp := hother e.port (hn z e he)
    unfold State.zoneOfPort at k6 ⊢
    rw [hp]
    exact k6 e he
  · by_cases e : q = p
    · rw [e, hself]; exact hl
    · rw [hother q e]; exact h.port q
  · by_cases e : q = p
    · rw [e, hself] at hq
      exact absurd hq hk
    · have hz : (s.modPort p f).zoneOfPort q = s.zoneOfPort q := by unfold State.zoneOfPort; rw [hother q e]
      rw [hother q e] at hq
      rw [hz, hzone]
      exact h.serves q (fun k => e (Option.some.inj k).symm) hq

/-! ### The Port Controller -/

theorem State.Follows.notifyPort {free : Option PortIx} (s : State) (n : Notice) (p : PortIx) :
    State.Follows free s (s.notifyPort n p) := .untouched

theorem State.Follows.notifyCar {free : Option PortIx} (s : State) (n : Notice) (a : CarIx) :
    State.Follows free s (s.notifyCar n a) := .untouched

/-- A change of one record, and a notice. -/
theorem State.Follows.modPort_notify {free : Option PortIx} (s : State) {p : PortIx} {f : Port → Port}
    (hf : (s.port p).Follows (f (s.port p))) (n : Notice) : State.Follows free s ((s.modPort p f).notifyPort n p) :=
  (State.Follows.modPort s hf).trans (.notifyPort _ n p)

theorem State.Follows.portError {free : Option PortIx} (s : State) (p : PortIx) : State.Follows free s (s.portError p) :=
  .modPort_notify s (.errors _ raise8_le) _

theorem State.Follows.countThrow {free : Option PortIx} (s : State) (p : PortIx) : State.Follows free s (s.countThrow p) := by
  unfold State.countThrow
  dsimp only
  split
  · exact .modPort_notify s (.throws _) _
  · exact .modPort s (.throws _)

theorem State.Follows.requestReturn {free : Option PortIx} (s : State) (p : PortIx) :
    State.Follows free s (s.requestReturn p) := by
  unfold State.requestReturn
  split
  case h_1 hs =>
    exact .modPort s (.startReturn fun hl => ⟨hl.role_of_flap (by simp only [hs, or_true, true_or]), by rw [hs]; decide⟩)
  case h_2 hs => exact .modPort s (.markReturn hs)
  all_goals exact .refl _ s

theorem State.Follows.flapFails {free : Option PortIx} {s : State} {p : PortIx}
    (hs : (s.port p).state = .throwing ∨ (s.port p).state = .returning) : State.Follows free s (s.flapFails p) := by
  refine .modPort_notify s (Port.Follows.trans (.intoFault fun hl => ⟨hl.role_of_flap ?_, ?_⟩) (.issue _ _)) _
  · rcases hs with hs | hs <;> simp only [hs, or_true, true_or]
  · rcases hs with hs | hs <;> rw [hs] <;> decide

theorem State.Follows.takeModuleFault {free : Option PortIx} {s : State} {p : PortIx} (hr : (s.port p).role = .switch)
    (hw : (s.port p).state.working = true) (code : BitVec 8) : State.Follows free s (s.takeModuleFault p code) := by
  have hn : (s.port p).state ≠ .resetting := fun e => by rw [e] at hw; cases hw
  refine .modPort_notify s (Port.Follows.trans ?_ (.faultCode _ _)) _
  split
  · exact .refl _
  · exact .intoFault fun _ => ⟨hr, hn⟩

theorem State.Follows.takeReady {free : Option PortIx} (s : State) (p : PortIx) (thrown : Bool) :
    State.Follows free s (s.takeReady p thrown) := by
  unfold State.takeReady
  split
  case h_1 hs =>
    split
    · split
      case isTrue =>
        exact .modPort s (.startReturn fun hl => ⟨hl.role_of_flap (by simp only [hs, or_true, true_or]), by rw [hs]; decide⟩)
      case isFalse hp => exact .modPort s (.settle (.inr (Bool.not_eq_true _ ▸ hp)) (.inl ⟨hs, rfl⟩))
    · exact .flapFails (.inl hs)
  case h_2 hs =>
    split
    · exact .flapFails (.inr hs)
    · exact .modPort s (.settle (.inl hs) (.inr ⟨hs, rfl⟩))
  all_goals exact .refl _ s

theorem State.Follows.takeMoving {free : Option PortIx} (s : State) (p : PortIx) :
    State.Follows free s (s.takeMoving p) := by
  unfold State.takeMoving
  split
  case isTrue h =>
    obtain ⟨hs, he⟩ := h
    exact .modPort s (.flapDeadline hs (fun _ => he) _ _)
  case isFalse => exact .refl _ s

theorem State.Follows.sendLamp {free : Option PortIx} (s : State) (p : PortIx) (v : Lamp) :
    State.Follows free s (s.sendLamp p v) := by
  unfold State.sendLamp
  split
  · exact .modPort s (.issue _ _)
  · exact .refl _ s

/-! ### Sessions -/

theorem State.Follows.showSession {free : Option PortIx} (s : State) (p : PortIx) (old : SessionState) (x : Session) :
    State.Follows free s (s.showSession p old x) := by
  have h : State.Follows free s (s.setSession p (some x)) := .untouched
  unfold State.showSession
  dsimp only
  split
  · exact h
  · exact h.trans (.sendLamp _ _ _)

theorem State.Follows.openSession {free : Option PortIx} (s : State) (p : PortIx) (old : SessionState) (h : Option SlotIx)
    (ms : Nat) : State.Follows free s (s.openSession p old h ms) :=
  State.Follows.trans (.untouched (t := s.claimSlot h (some p))) (.showSession _ _ _ _)

theorem State.Follows.releaseSession {free : Option PortIx} (s : State) (p : PortIx) (x : Session) :
    State.Follows free s (s.releaseSession p x) := .untouched

theorem State.Follows.failSession {free : Option PortIx} (s : State) (p : PortIx) (x : Session) (why : SessionOutcome) :
    State.Follows free s (s.failSession p x why) :=
  ((State.Follows.releaseSession s p x).trans (.showSession _ _ _ _)).trans (.notifyPort _ _ _)

theorem State.Follows.abortSession {free : Option PortIx} (s : State) (p : PortIx) :
    State.Follows free s (s.abortSession p) := .untouched

theorem State.Follows.reserveFor {free : Option PortIx} (s : State) (p : PortIx) (x : Session) (a : CarIx) :
    State.Follows free s (s.reserveFor p x a) := .untouched

theorem State.Follows.lookup {free : Option PortIx} (s : State) (p : PortIx) (x : Session) (id : Identity) :
    State.Follows free s (s.lookup p x id) := by
  unfold State.lookup
  split
  · exact .failSession s p x _
  · split
    · split
      · exact .failSession s p x _
      · exact .reserveFor s p x _
    · split
      · exact .failSession s p x _
      · exact .reserveFor s p x _

theorem State.Follows.fillSession {free : Option PortIx} (s : State) (p : PortIx) (x : Session) :
    State.Follows free s (s.fillSession p x) := by
  have h : State.Follows free s (s.setSession p (some x)) := .untouched
  unfold State.fillSession
  dsimp only
  split
  · exact h.trans (.lookup _ _ _ _)
  · exact h

theorem State.Follows.takeIdentity {free : Option PortIx} (s : State) (p : PortIx) (id : Identity) :
    State.Follows free s (s.takeIdentity p id) := by
  unfold State.takeIdentity
  split
  · exact .refl _ s
  · split
    · exact .fillSession s p _
    · exact .refl _ s

theorem State.Follows.joinSession {free : Option PortIx} (s : State) (p : PortIx) (h : SlotIx) :
    State.Follows free s (s.joinSession p h) := by
  unfold State.joinSession
  split
  · exact .refl _ s
  · exact State.Follows.trans (.untouched (t := s.claimSlot (some h) (some p))) (.fillSession _ _ _)

theorem State.Follows.openDefault {free : Option PortIx} (s : State) (h : SlotIx) :
    State.Follows free s (s.openDefault h) := by
  unfold State.openDefault
  split
  · exact .refl _ s
  · split
    · exact .refl _ s
    · split
      · exact .refl _ s
      · exact .openSession _ _ _ _ _

theorem State.Follows.gesture {free : Option PortIx} (s : State) (h : SlotIx) : State.Follows free s (s.gesture h) := by
  unfold State.gesture
  split
  · exact .refl _ s
  · split
    · exact .joinSession _ _ _
    · exact .openDefault _ _

theorem State.Follows.driveFlags {free : Option PortIx} (s : State) (h : SlotIx) (target : Option CarIx)
    (lane pair : Bool) : State.Follows free s (s.driveFlags h target lane pair) := by
  have h1 : State.Follows free s (s.laneEdge h target lane) := .untouched
  have h2 : State.Follows free s ((s.laneEdge h target lane).pairEdge h pair) := by
    unfold State.pairEdge
    split
    · exact h1.trans (.gesture _ h)
    · exact h1
  exact h2.trans (.untouched (t := State.writeFlags _ h lane pair))

theorem State.Follows.commitSession {free : Option PortIx} (s : State) (p : PortIx) (x : Session) (h : SlotIx) (a : CarIx)
    (id : Identity) : State.Follows free s (s.commitSession p x h a id) := by
  have h1 : State.Follows free s ((s.commit h a id).claimSlot (some h) none) := .untouched
  unfold State.commitSession
  exact (h1.trans (.showSession _ p x.state _)).trans (.notifyCar _ _ _)

theorem State.Follows.assignResult {free : Option PortIx} (s : State) (p : PortIx) (answered : Bool) :
    State.Follows free s (s.assignResult p answered) := by
  unfold State.assignResult
  split
  · exact .refl _ s
  · rename_i x _
    split
    · split
      · split
        · exact .commitSession s p x _ _ _
        · exact .refl _ s
      · unfold State.silentAttempt
        dsimp only
        split
        · exact .untouched
        · exact .failSession s p _ _
    · exact .refl _ s

/-! ### Entries that leave -/

theorem State.Follows.modZone {free : Option PortIx} (s : State) {z : ZoneIx} {f : Zone → Zone}
    (hf : (s.zone z).Shrinks (f (s.zone z)))
    (hs : ∀ p, free ≠ some p → (s.zone z).holds p = true → (f (s.zone z)).holds p = true) :
    State.Follows free s (s.modZone z f) := by
  refine ⟨fun p => (Port.Follows.refl _).toSucceeds, fun y => ?_, fun p hp _ h hn => ?_⟩
  · rw [State.zone_modZone]
    split
    case isTrue e => rw [← e]; exact hf
    case isFalse => exact .refl _
  · have hz : (s.modZone z f).zoneOfPort p = s.zoneOfPort p := rfl
    have hh := h hn
    rw [hz, State.zone_modZone]
    split
    case isTrue e => rw [← e] at hh; exact hs p hp hh
    case isFalse => exact hh

theorem State.Follows.withGuard {free : Option PortIx} (s : State) (z : ZoneIx) (g : Option Guard) :
    State.Follows free s (s.modZone z fun x => { x with guard := g }) :=
  .modZone s (.withGuard _ g) fun _ _ h => h

theorem State.Follows.takeGuard {free : Option PortIx} (s : State) (p : PortIx) (code : BitVec 5) :
    State.Follows free s (s.takeGuard p code) := by
  unfold State.takeGuard
  dsimp only
  split
  · exact .refl _ s
  · split
    · exact .refl _ s
    · exact .withGuard s _ _

/-- The entries of port `p` leave its zone's list (R133). -/
theorem State.Follows.abandon (s : State) (p : PortIx) : State.Follows (some p) s (s.abandon p) := by
  unfold State.abandon
  split
  · refine .modZone s (.leave List.filter_sublist) fun q hq h => ?_
    obtain ⟨e, he, hp⟩ := (Zone.holds_iff _ q).1 h
    have hne : e.port ≠ p := fun k => hq (by rw [← k, hp])
    exact (Zone.holds_iff _ q).2 ⟨e, List.mem_filter.2 ⟨he, by simpa using hne⟩, hp⟩
  · exact .refl _ s

/-- Where every entry stands in its port's zone, none of port `p` is left then. -/
theorem State.ListsLawful.noEntryOf_abandon {s : State} (h : s.ListsLawful) (p : PortIx) : (s.abandon p).NoEntryOf p := by
  obtain ⟨h1, -⟩ := h
  intro z e he hp
  have hmem : e ∈ (s.zone z).entries := ((State.Follows.abandon s p).zone z).entries.subset he
  obtain ⟨-, -, -, -, -, h6⟩ := h1 z
  obtain ⟨hz, -⟩ := h6 e hmem
  rw [hp] at hz
  subst hz
  have hh : (s.zone (s.zoneOfPort p)).holds p = true := (Zone.holds_iff _ p).2 ⟨e, hmem, hp⟩
  unfold State.abandon at he
  rw [if_pos hh, State.zone_modZone, if_pos rfl] at he
  simpa [hp] using (List.mem_filter.1 he).2

/-- A port asked to return needs no entry any more (R104). -/
theorem State.requestReturn_needs (s : State) (p : PortIx) : ¬((s.requestReturn p).port p).NeedsEntry := by
  unfold State.requestReturn
  split
  case h_1 =>
    rw [State.port_modPort, if_pos rfl]
    exact Port.needsEntry_of_state (fun e => nomatch e) fun e => nomatch e
  case h_2 hs =>
    rw [State.port_modPort, if_pos rfl]
    rintro (h | ⟨-, h⟩)
    · have h' : (s.port p).state = .thrown := h
      rw [hs] at h'; cases h'
    · cases h
  all_goals
    rename_i hs
    exact Port.needsEntry_of_state (by rw [hs]; decide) (by rw [hs]; decide)

theorem State.Follows.returnIfDone {free : Option PortIx} (s : State) (z : ZoneIx) (p : PortIx) :
    State.Follows free s (s.returnIfDone z p) := by
  unfold State.returnIfDone
  split
  · exact .requestReturn s p
  · exact .refl _ s

/-- A lawful port that has no entry left in its zone's list is asked to return where it needs one (R103, R115). -/
theorem State.returnIfDone_serves (s : State) (p : PortIx) (hl : (s.port p).Lawful) :
    (s.returnIfDone (s.zoneOfPort p) p).Serves p := by
  unfold State.returnIfDone
  split
  case isTrue => exact fun hn => absurd hn (s.requestReturn_needs p)
  case isFalse hc =>
    intro hn
    have hr : (s.port p).role = .switch := hl.role_of_flap (by
      rcases hn with hn | ⟨hn, -⟩ <;> simp only [hn, or_true, true_or])
    simpa [-State.port_eq, -State.zone_eq, hr] using hc

/-- Where an entry leaves, the other ports' entries stay. -/
theorem State.Follows.without (s : State) {z : ZoneIx} {k : Nat} {e : Entry} (he : (s.zone z).entries[k]? = some e) :
    State.Follows (some e.port) s (s.modZone z fun x => x.without k) := by
  refine .modZone s (.leave (List.eraseIdx_sublist _ _)) fun q hq h => ?_
  obtain ⟨d, hd, hp⟩ := (Zone.holds_iff _ q).1 h
  obtain ⟨i, hi⟩ := List.mem_iff_getElem?.1 hd
  have hik : i ≠ k := fun e' => by
    rw [e', he] at hi
    exact hq (by rw [Option.some.inj hi, hp])
  exact (Zone.holds_iff _ q).2 ⟨d, List.mem_eraseIdx_iff_getElem?.2 ⟨i, hik, hi⟩, hp⟩

/-- An entry leaves (R115): its port returns when it was the last that served it. -/
theorem State.Follows.removeEntry {free : Option PortIx} (s : State) (z : ZoneIx) (k : Nat) {f : Counters → Counters}
    (hf : Counters.Raise f) : State.Follows free s (s.removeEntry z k f) := by
  refine State.Follows.weaken ?_ free
  unfold State.removeEntry
  split
  · exact .refl _ s
  · rename_i e he
    refine State.Follows.trans ?_ (.modPort _ (.raise _ hf))
    have h1 : State.Follows (some e.port) s (s.modZone z fun x => x.without k) := .without s he
    have h2 := h1.trans (.returnIfDone (s.modZone z fun x => x.without k) z e.port)
    refine ⟨h2.port, h2.zone, fun q _ hl hs => ?_⟩
    by_cases hq : e.port = q
    · subst hq
      by_cases hz : z = s.zoneOfPort e.port
      · subst hz
        exact State.returnIfDone_serves (s.modZone (s.zoneOfPort e.port) fun x => x.without k) e.port hl
      · refine (State.Follows.returnIfDone (free := none) (s.modZone z fun x => x.without k) z e.port).serves e.port
          (fun e => nomatch e) hl fun hn => ?_
        show ((s.modZone z fun x => x.without k).zone (s.zoneOfPort e.port)).holds e.port = true
        rw [State.zone_modZone, if_neg hz]
        exact hs hn
    · exact h2.serves q (fun e => hq (Option.some.inj e)) hl hs

end Sys2Proof.Machine

/-! How a module starts up (R96, R97), how an entry joins a crossing list (R113, R116, R119, R129), and that both keep the laws of
lists, ports and flaps. -/

namespace Sys2Proof.Machine

/-! ### Start-up -/

/-- The record of a port that has heard a HELLO it does not ignore, whatever follows of kind and role (R96). -/
def Port.begun (q : Port) (kind : ModuleKind) : Port :=
  { q with kind := some kind, resetDue := none, lateMotion := false, roleTaken := none }

theorem State.startUp_of_mismatch {s : State} {p : PortIx} {kind : ModuleKind}
    (h : kindMatches (s.port p).role kind = false) (thrown : Bool) : s.startUp p kind thrown = { s with
      ports := s.ports.set p { (s.port p).begun kind with state := .mismatch, errors := raise8 (s.port p).errors }
      notices := setFlag s.notices .portErrors, lastPort := some p } := by
  unfold State.startUp
  simp only [h]
  simp [State.portError, State.modPort, State.notifyPort, Port.begun]

theorem State.startUp_of_switch {s : State} {p : PortIx} (h : (s.port p).role = .switch) (thrown : Bool) :
    s.startUp p .switch thrown = { s with ports := s.ports.set p (if thrown then ((s.port p).begun .switch).startReturn
      else { (s.port p).begun .switch with state := .straight }) } := by
  unfold State.startUp
  simp only [h, kindMatches, if_true]
  simp [State.modPort, Port.begun]

theorem State.startUp_of_delegated {s : State} {p : PortIx} (h : (s.port p).role = .delegated) (thrown : Bool) :
    s.startUp p .external thrown = { s with
      ports := s.ports.set p { (s.port p).begun .external with state := .ready } } := by
  unfold State.startUp
  simp only [h, kindMatches, if_true]
  simp [State.modPort, Port.begun]

theorem State.startUp_of_bay {s : State} {p : PortIx} (h : (s.port p).role = .bay) (thrown : Bool) :
    s.startUp p .bay thrown = { s with ports := s.ports.set p ((s.session p).elim
      { (s.port p).begun .bay with state := .ready }
      fun x => Port.issue { (s.port p).begun .bay with state := .ready } (.lamp x.state.lamp)) } := by
  unfold State.startUp
  simp only [h, kindMatches, if_true]
  unfold State.sendSessionLamp
  cases hx : s.session p with
  | none =>
    have hx' : s.sessions[p.val] = none := hx
    simp [State.modPort, Port.begun, hx']
  | some x =>
    have hx' : s.sessions[p.val] = some x := hx
    simp [State.modPort, Port.begun, hx', State.sendLamp]

theorem kindMatches_cases {role : Role} {kind : ModuleKind} (h : kindMatches role kind = true) :
    (role = .switch ∧ kind = .switch) ∨ (role = .bay ∧ kind = .bay) ∨ (role = .delegated ∧ kind = .external) := by
  revert h
  cases role <;> cases kind <;> decide

/-- The record `r` may come after `q` and needs no entry. -/
structure Port.Settles (q r : Port) : Prop extends Port.Succeeds q r where
  settled : ¬r.NeedsEntry

theorem Port.Settles.follow {q r u : Port} (h : q.Settles r) (k : r.Follows u) : q.Settles u :=
  ⟨h.toSucceeds.trans k.toSucceeds, fun hu => h.settled (k.needs hu)⟩

theorem Port.Settles.begun {q : Port} (hk : q.Still) (hu : q.role ≠ .unused) (kind : ModuleKind) {st : PortState}
    (hst : (st = .straight ∧ q.role = .switch) ∨ (st = .ready ∧ (q.role = .bay ∨ q.role = .delegated)) ∨
      st = .mismatch) : q.Settles { q.begun kind with state := st } := by
  refine ⟨⟨fun hq => ?_, rfl, rfl⟩, Port.needsEntry_of_state ?_ ?_⟩
  · obtain ⟨⟨-, -, -, h4, -⟩, hr⟩ := (Port.lawful_iff q).1 hq
    refine (Port.lawful_iff _).2 ⟨.of_still ⟨rfl, rfl, rfl⟩ ⟨hk.returnPending, hk.flapDue, hk.flapAwaiting⟩
      ?_ ?_ ?_ ?_ ?_ ?_ h4, hr.congr⟩
    all_goals rcases hst with ⟨rfl, hr⟩ | ⟨rfl, hr⟩ | rfl <;> simp [Port.begun, hr, hu]
  all_goals rcases hst with ⟨rfl, -⟩ | ⟨rfl, -⟩ | rfl <;> exact fun e => nomatch e

theorem Port.Settles.begunReturn {q : Port} (hr : q.role = .switch) (kind : ModuleKind) :
    q.Settles (q.begun kind).startReturn := by
  refine ⟨⟨fun hq => ?_, by simp [Port.begun], by simp [Port.startReturn, Port.begun]⟩,
    Port.needsEntry_of_state (fun e => nomatch e) fun e => nomatch e⟩
  obtain ⟨-, h⟩ := (Port.lawful_iff q).1 hq
  exact Port.startMotion_lawful (q := q.begun kind) h.congr ⟨rfl, rfl, rfl⟩ hr _ (.inr rfl)

/-- A port starts up in a state that its role allows and that needs no entry (R96). -/
theorem State.startUp_settles {s : State} {p : PortIx} (hk : (s.port p).Still) (hu : (s.port p).role ≠ .unused)
    (kind : ModuleKind) (thrown : Bool) :
    ∃ r, (s.port p).Settles r ∧ (s.startUp p kind thrown).ports = s.ports.set p r := by
  cases hm : kindMatches (s.port p).role kind with
  | false =>
    rw [State.startUp_of_mismatch hm]
    exact ⟨_, (Port.Settles.begun hk hu kind (.inr (.inr rfl))).follow (.errors _ raise8_le), rfl⟩
  | true =>
    rcases kindMatches_cases hm with ⟨hr, rfl⟩ | ⟨hr, rfl⟩ | ⟨hr, rfl⟩
    · rw [State.startUp_of_switch hr]
      refine ⟨_, ?_, rfl⟩
      split
      · exact .begunReturn hr _
      · exact .begun hk hu _ (.inl ⟨rfl, hr⟩)
    · rw [State.startUp_of_bay hr]
      have hb := Port.Settles.begun hk hu .bay (st := .ready) (.inr (.inl ⟨rfl, .inl hr⟩))
      refine ⟨_, ?_, rfl⟩
      cases s.session p with
      | none => exact hb
      | some x => exact hb.follow (.issue _ _)
    · rw [State.startUp_of_delegated hr]
      exact ⟨_, .begun hk hu _ (.inr (.inl ⟨rfl, .inr hr⟩)), rfl⟩

/-- A lawful state in which a record is written anew that needs no entry or whose port has one in its zone's list. -/
theorem State.SectionsLawful.write {s t : State} {p : PortIx} (h : State.SectionsLawful (some p) s) {r : Port}
    (hr : (s.port p).Succeeds r) (hn : r.NeedsEntry → (s.zone (s.zoneOfPort p)).holds p = true)
    (ht : t.ports = s.ports.set p r) (hz : t.zones = s.zones) : State.SectionsLawful none t := by
  have hport : ∀ q, t.port q = if p = q then r else s.port q := fun q => by
    have hq : t.port q = (s.modPort p fun _ => r).port q := congrArg (·[q.val]) ht
    rw [hq, State.port_modPort]
  have hzone : ∀ z, t.zone z = s.zone z := fun z => congrArg (·[z.val]) hz
  have hp : ∀ q, (s.port q).Succeeds (t.port q) := fun q => by
    rw [hport]
    split
    case isTrue e => rw [← e]; exact hr
    case isFalse => exact (Port.Follows.refl _).toSucceeds
  refine ⟨h.lists.shrink hp fun z => by rw [hzone]; exact .refl _, h.ports.succeed hp, fun q _ hq => ?_⟩
  have hzq : t.zoneOfPort q = s.zoneOfPort q := (hp q).zone
  rw [hzq, hzone]
  rw [hport] at hq
  split at hq
  case isTrue e => rw [← e]; exact hn hq
  case isFalse e => exact h.serves q (fun k => e (Option.some.inj k)) hq

theorem State.SectionsLawful.startUp {s : State} {p : PortIx} (h : State.SectionsLawful (some p) s)
    (hk : (s.port p).Still) (hu : (s.port p).role ≠ .unused) (kind : ModuleKind) (thrown : Bool) :
    State.SectionsLawful none (s.startUp p kind thrown) := by
  obtain ⟨r, hr, ht⟩ := State.startUp_settles hk hu kind thrown
  exact h.write hr.toSucceeds (fun hn => absurd hn hr.settled) ht (by simp)

/-- A motion forgotten, with the flap commands that wait (R97). -/
theorem Port.Succeeds.clearMotion (q : Port) : q.Succeeds q.clearMotion.discardFlap := by
  refine ⟨fun hq => ?_, rfl, rfl⟩
  obtain ⟨⟨h1, h2, h3, h4, -, h6, -, h8⟩, ⟨-, r2, r3, r4, r5⟩⟩ := (Port.lawful_iff q).1 hq
  exact (Port.lawful_iff _).2 ⟨⟨h1, h2, h3, h4, fun e => (nomatch e), h6, (by simp [Port.clearMotion, Port.discardFlap]), h8⟩,
    ⟨Nat.zero_le _, r2, r3, r4, r5⟩⟩

/-- What a restart first undoes leaves the flap of its own port aside (R97). -/
theorem State.Follows.restartPort (s : State) (p : PortIx) : State.Follows (some p) s (s.restartPort p) := by
  have hport : ∀ q, (s.restartPort p).port q =
      if p = q then ((s.abandon p).port p).clearMotion.discardFlap else (s.abandon p).port q :=
    fun q => (s.abandon p).port_modPort p q _
  refine (State.Follows.abandon s p).trans ⟨fun q => ?_, fun z => .refl _, fun q hq _ hs hn => ?_⟩
  · rw [hport]
    split
    case isTrue e => rw [← e]; exact .clearMotion _
    case isFalse => exact (Port.Follows.refl _).toSucceeds
  · unfold State.zoneOfPort State.Serves at *
    rw [hport, if_neg fun e => hq (congrArg some e)] at hn ⊢
    exact hs hn

/-- A HELLO keeps the laws of lists, ports and flaps (R94, R96, R97). -/
theorem State.SectionsLawful.takeHello {s : State} {p : PortIx} (h : State.SectionsLawful none s) (kind : ModuleKind)
    (thrown : Bool) : State.SectionsLawful none (s.takeHello p kind thrown) := by
  have hl := h.port p
  have hu : (s.port p).state ≠ .off → (s.port p).role ≠ .unused := fun hs hr =>
    hs (((Port.lawful_iff _).1 hl).1.off.2 hr)
  have hstart : (s.port p).state ≠ .off → (s.port p).state ≠ .throwing → (s.port p).state ≠ .returning →
      State.SectionsLawful none (s.startUp p kind thrown) := fun h1 h2 h3 =>
    (h.weaken (some p)).startUp (hl.still h2 h3) (hu h1) kind thrown
  have hrestart : (s.port p).state ≠ .off → State.SectionsLawful none
      (if (s.port p).role = .bay then s.startUp p kind thrown else (s.restartPort p).startUp p kind thrown) := fun h1 => by
    split
    case isTrue hr =>
      have hnot : ∀ st, (s.port p).state = st → (st = .throwing ∨ st = .returning) → False := fun st hst hk => by
        have := hl.role_of_flap (by rcases hk with rfl | rfl <;> simp only [hst, or_true, true_or])
        rw [hr] at this
        cases this
      exact hstart h1 (fun e => hnot _ e (.inl rfl)) (fun e => hnot _ e (.inr rfl))
    case isFalse =>
      have hport : (s.restartPort p).port p = (s.port p).clearMotion.discardFlap := by
        unfold State.restartPort
        rw [State.port_modPort, if_pos rfl]
        simp
      refine ((h.weaken (some p)).follow (.restartPort s p)).startUp ?_ ?_ kind thrown
      · rw [hport]
        exact ⟨rfl, rfl, rfl⟩
      · rw [hport]
        exact hu h1
  unfold State.takeHello
  split
  case h_1 | h_2 => exact h
  case h_3 hs | h_4 hs | h_5 hs => exact hstart (by rw [hs]; decide) (by rw [hs]; decide) (by rw [hs]; decide)
  all_goals
    rename_i hs
    exact hrestart (by rw [hs]; decide)

/-! ### An entry joins a list -/

/-- Car `a` stands in no crossing list. -/
def State.CarFree (s : State) (a : CarIx) : Prop := ∀ z, ∀ e ∈ (s.zone z).entries, e.car ≠ some a

theorem State.CarFree.shrink {s t : State} {a : CarIx} (h : s.CarFree a) (hz : ∀ z, (s.zone z).Shrinks (t.zone z)) :
    t.CarFree a := fun z e he => h z e ((hz z).entries.subset he)

theorem State.findEntry_eq_none_iff (s : State) (a : CarIx) : s.findEntry a = none ↔ s.CarFree a := by
  simp [State.findEntry, Zone.placeOf, State.CarFree, -State.zone_eq]

theorem State.findEntry_some {s : State} {a : CarIx} {z : ZoneIx} {k : Nat} (h : s.findEntry a = some (z, k)) :
    ∃ e, (s.zone z).entries[k]? = some e ∧ e.car = some a := by
  obtain ⟨y, -, hy⟩ := List.exists_of_findSome?_eq_some h
  obtain ⟨i, hi, he⟩ := Option.map_eq_some_iff.1 hy
  obtain ⟨rfl, rfl⟩ := Prod.mk.inj he
  obtain ⟨hlt, hcar, -⟩ := List.findIdx?_eq_some_iff_getElem.1 hi
  exact ⟨_, List.getElem?_eq_getElem hlt, of_decide_eq_true hcar⟩

/-- The list after the supersede of a car's entry, and the other lists (R116). -/
theorem State.supersede_zones {s : State} {a : CarIx} {z : ZoneIx} {k : Nat} (h : s.findEntry a = some (z, k))
    (p : PortIx) : (s.supersede a p).zones = s.zones.set z ((s.zone z).without k) := by
  obtain ⟨e, he, -⟩ := State.findEntry_some h
  unfold State.supersede
  rw [h]
  dsimp only
  split
  · rfl
  · unfold State.removeEntry
    rw [he]
    simp [-State.zone_eq, State.modZone]

theorem State.Follows.supersede (s : State) (a : CarIx) (p : PortIx) : State.Follows (some p) s (s.supersede a p) := by
  unfold State.supersede
  split
  · exact .refl _ s
  · rename_i z k h
    obtain ⟨e, he, -⟩ := State.findEntry_some h
    split
    case isTrue hp =>
      rw [he] at hp
      rw [← show e.port = p from Option.some.inj hp]
      exact .without s he
    case isFalse => exact .removeEntry s z k .none

/-- In a list without a car standing twice, the entry at a place is the only one of its car. -/
theorem Entry.car_ne_of_eraseIdx {l : List Entry} (h : (l.filterMap (·.car)).Nodup) {k : Nat} {e : Entry} {a : CarIx}
    (he : l[k]? = some e) (ha : e.car = some a) : ∀ d ∈ l.eraseIdx k, d.car ≠ some a := by
  intro d hd hda
  obtain ⟨i, hik, hi⟩ := List.mem_eraseIdx_iff_getElem?.1 hd
  obtain ⟨hk, rfl⟩ := List.getElem?_eq_some_iff.1 he
  obtain ⟨hi', rfl⟩ := List.getElem?_eq_some_iff.1 hi
  have hpw := List.pairwise_iff_getElem.1 (List.pairwise_filterMap.1 h)
  rcases Nat.lt_or_gt_of_ne hik with hlt | hlt
  · exact hpw i k hi' hk hlt a hda a ha rfl
  · exact hpw k i hk hi' hlt a ha a hda rfl

/-- After a supersede the car stands in no list (R116). -/
theorem State.ListsLawful.supersede_carFree {s : State} (h : s.ListsLawful) (a : CarIx) (p : PortIx) :
    (s.supersede a p).CarFree a := by
  cases hf : s.findEntry a with
  | none =>
    have hc := (s.findEntry_eq_none_iff a).1 hf
    exact hc.shrink (State.Follows.supersede s a p).zone
  | some zk =>
    obtain ⟨z, k⟩ := zk
    obtain ⟨e, he, ha⟩ := State.findEntry_some hf
    obtain ⟨h1, h2⟩ := h
    intro y d hd hda
    have hmem : d ∈ (s.zone y).entries := ((State.Follows.supersede s a p).zone y).entries.subset hd
    have hz : z = y := h2 z y e (List.mem_of_getElem? he) d hmem (by rw [ha]; rfl) (by rw [ha, hda])
    subst hz
    have hentries : ((s.supersede a p).zone z).entries = (s.zone z).entries.eraseIdx k := by
      have hzone : (s.supersede a p).zone z = (s.modZone z fun x => x.without k).zone z :=
        congrArg (·[z.val]) (State.supersede_zones hf p)
      rw [hzone, State.zone_modZone, if_pos rfl]
      rfl
    obtain ⟨-, -, -, -, hn, -⟩ := h1 z
    rw [hentries] at hd
    exact Entry.car_ne_of_eraseIdx hn he ha d hd hda

/-- The list that the entry joins (R113). -/
theorem State.zone_appendEntry_self (s : State) (z : ZoneIx) (car : Option CarIx) (p : PortIx) (r : Option Supersede) :
    (s.appendEntry z car p r).zone z = { s.zone z with
      entries := (s.zone z).entries ++ [⟨car, p, s.after (s.port p).config.hold, r⟩] } :=
  (s.zone_modZone z z _).trans (if_pos rfl)

theorem State.zone_appendEntry_of_ne (s : State) {z y : ZoneIx} (hy : y ≠ z) (car : Option CarIx) (p : PortIx)
    (r : Option Supersede) : (s.appendEntry z car p r).zone y = s.zone y :=
  (s.zone_modZone z y _).trans (if_neg fun e => hy e.symm)

/-- An entry after an append is an earlier one or the new one. -/
theorem State.mem_appendEntry {s : State} {z y : ZoneIx} {car : Option CarIx} {p : PortIx} {r : Option Supersede} {e : Entry}
    (he : e ∈ ((s.appendEntry z car p r).zone y).entries) :
    e ∈ (s.zone y).entries ∨ (y = z ∧ e.car = car ∧ e.port = p) := by
  by_cases hy : y = z
  · subst hy
    rw [State.zone_appendEntry_self] at he
    rcases List.mem_append.1 he with he | he
    · exact .inl he
    · rw [List.mem_singleton.1 he]
      exact .inr ⟨rfl, rfl, rfl⟩
  · rw [State.zone_appendEntry_of_ne s hy] at he
    exact .inl he

/-- No entry leaves at an append. -/
theorem State.mem_appendEntry_of_mem {s : State} {y : ZoneIx} {e : Entry} (he : e ∈ (s.zone y).entries) (z : ZoneIx)
    (car : Option CarIx) (p : PortIx) (r : Option Supersede) : e ∈ ((s.appendEntry z car p r).zone y).entries := by
  by_cases hy : y = z
  · subst hy
    rw [State.zone_appendEntry_self]
    exact List.mem_append_left _ he
  · rw [State.zone_appendEntry_of_ne s hy]
    exact he

/-- The appended entry is its port's. -/
theorem State.appendEntry_holds (s : State) (z : ZoneIx) (car : Option CarIx) (p : PortIx) (r : Option Supersede) :
    ((s.appendEntry z car p r).zone z).holds p = true := by
  rw [State.zone_appendEntry_self]
  exact (Zone.holds_iff _ p).2 ⟨_, List.mem_append_right _ (List.mem_singleton.2 rfl), rfl⟩

/-- An entry joins the list of its port's zone (R113): there is a place, and its car stands in no list. -/
theorem State.ListsLawful.appendEntry {s : State} (h : s.ListsLawful) {p : PortIx} {z : ZoneIx} (hz : s.zoneOfPort p = z)
    (hlen : (s.zone z).entries.length < 3) (hr : (s.port p).role = .switch ∨ (s.port p).role = .delegated)
    {car : Option CarIx} (hc : ∀ a, car = some a → s.CarFree a) (r : Option Supersede) :
    (s.appendEntry z car p r).ListsLawful := by
  obtain ⟨h1, h2⟩ := h
  refine ⟨fun y => ?_, fun x y d hd e he hs hde => ?_⟩
  · obtain ⟨k1, k2, k3, k4, k5, k6⟩ := h1 y
    have hport : ∀ e ∈ ((s.appendEntry z car p r).zone y).entries, s.zoneOfPort e.port = y ∧
        ((s.port e.port).role = .switch ∨ (s.port e.port).role = .delegated) := fun e he => by
      rcases State.mem_appendEntry he with he | ⟨rfl, -, hp⟩
      · exact k6 e he
      · rw [hp]; exact ⟨hz, hr⟩
    by_cases hy : y = z
    · subst hy
      refine ⟨?_, ?_, ?_, ?_, ?_, hport⟩ <;> rw [State.zone_appendEntry_self]
      · exact k1
      · exact k2
      · simpa [-State.zone_eq] using hlen
      · simp
      · rw [List.filterMap_append]
        refine List.nodup_append.2 ⟨k5, ?_, ?_⟩
        · cases car <;> simp
        · intro a ha b hb hab
          obtain ⟨d, hd, hda⟩ := List.mem_filterMap.1 ha
          obtain ⟨e, he, heb⟩ := List.mem_filterMap.1 hb
          rw [List.mem_singleton.1 he] at heb
          exact hc b heb y d hd (by rw [hda, hab])
    · have hzone := s.zone_appendEntry_of_ne hy car p r
      exact ⟨hzone ▸ k1, hzone ▸ k2, hzone ▸ k3, hzone ▸ k4, hzone ▸ k5, hport⟩
  · obtain ⟨a, ha⟩ := Option.isSome_iff_exists.1 hs
    rcases State.mem_appendEntry hd with hd' | ⟨rfl, hdc, -⟩ <;>
      rcases State.mem_appendEntry he with he' | ⟨rfl, hec, -⟩
    · exact h2 x y d hd' e he' hs hde
    · exact absurd ha (hc a (by rw [← hec, ← hde, ha]) x d hd')
    · exact absurd (hde ▸ ha) (hc a (by rw [← hdc, ha]) y e he')
    · rfl

/-- With the entry the laws hold together: the new entry serves its port's flap, the others serve theirs still. -/
theorem State.SectionsLawful.appendEntry {s : State} {p : PortIx} (h : State.SectionsLawful (some p) s) {z : ZoneIx}
    (hz : s.zoneOfPort p = z) (hlen : (s.zone z).entries.length < 3)
    (hr : (s.port p).role = .switch ∨ (s.port p).role = .delegated) {car : Option CarIx}
    (hc : ∀ a, car = some a → s.CarFree a) (r : Option Supersede) :
    State.SectionsLawful none (s.appendEntry z car p r) := by
  obtain ⟨-, hb⟩ := h.ports
  refine ⟨h.lists.appendEntry hz hlen hr hc r, ⟨fun q => h.port q, hb⟩, fun q _ hq => ?_⟩
  show ((s.appendEntry z car p r).zone (s.zoneOfPort q)).holds q = true
  by_cases e : q = p
  · rw [e, hz]
    exact s.appendEntry_holds z car p r
  · obtain ⟨d, hd, hp⟩ := (Zone.holds_iff _ q).1 (h.serves q (fun k => e (Option.some.inj k).symm) hq)
    exact (Zone.holds_iff _ q).2 ⟨d, State.mem_appendEntry_of_mem hd z car p r, hp⟩

/-- The flap is asked to go across for an entry that stands in the list (R101). -/
theorem State.SectionsLawful.requestThrow {s : State} {p : PortIx} (h : State.SectionsLawful none s)
    (hh : (s.zone (s.zoneOfPort p)).holds p = true) : State.SectionsLawful none (s.requestThrow p) := by
  have hl := h.port p
  have hw : ∀ {f : Port → Port}, (s.port p).Succeeds (f (s.port p)) → State.SectionsLawful none (s.modPort p f) :=
    fun hf => (h.weaken (some p)).write hf (fun _ => hh) rfl rfl
  unfold State.requestThrow
  split
  case h_1 hs =>
    have hr := hl.role_of_flap (.inl hs)
    have ho := hl.outOfReset (by rw [hs]; decide)
    refine (hw ⟨fun hq => ?_, by simp, by simp⟩).follow (.countThrow _ p)
    exact Port.startMotion_lawful ((Port.lawful_iff _).1 hq).2 ho hr _ (.inl rfl)
  case h_2 =>
    refine hw ⟨fun hq => ?_, rfl, rfl⟩
    obtain ⟨⟨k1, k2, k3, k4, -, k6, k7, k8⟩, hr⟩ := (Port.lawful_iff _).1 hq
    exact (Port.lawful_iff _).2 ⟨⟨k1, k2, k3, k4, fun e => (nomatch e), k6, k7, k8⟩, hr.congr⟩
  all_goals exact h

/-! ### Approaches -/

theorem State.Follows.recordDecision {free : Option PortIx} (s : State) (p : PortIx) (code : BitVec 5) (v : Verdict) :
    State.Follows free s (s.recordDecision p code v) := by
  cases v with
  | grant => exact .modPort s (.counters _ Counters.Raise.grant.inRange _)
  | pass => exact .modPort s (.counters _ id _)
  | deny => exact .modPort s (.counters _ Counters.Raise.deny.inRange _)

/-- A grant needs a place beside the car's own entry (R117 check 12). -/
theorem State.room_of_grant {s : State} {p : PortIx} {code : BitVec 5} {a : CarIx}
    (h : s.decideApproach p code = .grant) (ha : carOf code.toNat = some a) :
    ((s.zone (s.zoneOfPort p)).entries.filter (Entry.notOf a)).length < (s.zone (s.zoneOfPort p)).capacity := by
  unfold State.decideApproach at h
  rw [ha] at h
  by_contra hn
  rw [Nat.not_lt] at hn
  have hc : ∀ v, s.decideCar p a = v → v ≠ .grant := fun v hv => by
    unfold State.decideCar at hv
    dsimp only at hv
    rw [if_pos hn] at hv
    rw [← hv]
    repeat' split
    all_goals exact fun e => nomatch e
  dsimp only at h
  repeat' split at h
  all_goals first | cases h | exact hc _ h rfl

theorem State.SectionsLawful.grantCar {s : State} {p : PortIx} {code : BitVec 5} {a : CarIx}
    (h : State.SectionsLawful none s) (hr : (s.port p).role = .switch) (hg : s.decideApproach p code = .grant)
    (ha : carOf code.toNat = some a) : State.SectionsLawful none (s.grantCar p code a) := by
  have h1 : State.SectionsLawful none (s.disarm a) := h.follow .untouched
  have hk := State.Follows.supersede (s.disarm a) a p
  have h2 : State.SectionsLawful (some p) ((s.disarm a).supersede a p) := (h1.weaken _).follow hk
  have hfree : ((s.disarm a).supersede a p).CarFree a := h1.lists.supersede_carFree a p
  have hzone : ((s.disarm a).supersede a p).zoneOfPort p = s.zoneOfPort p := (hk.port p).zone
  have hroom : (((s.disarm a).supersede a p).zone (s.zoneOfPort p)).entries.length < 3 := by
    have hsub : (((s.disarm a).supersede a p).zone (s.zoneOfPort p)).entries.Sublist
        (s.zone (s.zoneOfPort p)).entries := (hk.zone _).entries
    have hf := hsub.filter (Entry.notOf a)
    rw [List.filter_eq_self.2 fun e he => by simpa [Entry.notOf] using hfree _ e he] at hf
    have hcap := State.room_of_grant hg ha
    obtain ⟨-, hc, -⟩ := h.lists.1 (s.zoneOfPort p)
    have := hf.length_le
    omega
  have hrole : (((s.disarm a).supersede a p).port p).role = .switch := (hk.port p).role.trans hr
  have h3 := h2.appendEntry hzone hroom (.inl hrole) (car := some a)
    (fun b hb => by obtain rfl := Option.some.inj hb; exact hfree) (s.replacing (s.zoneOfPort p) (some a))
  have hu : (((s.disarm a).supersede a p).appendEntry (s.zoneOfPort p) (some a) p
    (s.replacing (s.zoneOfPort p) (some a))).zoneOfPort p = s.zoneOfPort p := hzone
  have hh := ((s.disarm a).supersede a p).appendEntry_holds (s.zoneOfPort p) (some a) p
    (s.replacing (s.zoneOfPort p) (some a))
  unfold State.grantCar
  dsimp only
  generalize ((s.disarm a).supersede a p).appendEntry (s.zoneOfPort p) (some a) p
    (s.replacing (s.zoneOfPort p) (some a)) = u at h3 hh hu
  have h4 := State.Follows.recordDecision (free := none) u p code .grant
  refine (h3.follow h4).requestThrow ?_
  have hz : (u.recordDecision p code .grant).zoneOfPort p = s.zoneOfPort p := (h4.port p).zone.trans hu
  rw [hz]
  exact hh

/-- The decision on an approach keeps the laws (R117, R119, R121). -/
theorem State.SectionsLawful.approach {s : State} {p : PortIx} (h : State.SectionsLawful none s)
    (hr : (s.port p).role = .switch) (code : BitVec 5) : State.SectionsLawful none (s.approach p code) := by
  have hrefuse : ∀ v, State.SectionsLawful none (s.refuseCar p code v) := fun v =>
    h.follow ((State.Follows.recordDecision s p code v).trans (.requestReturn _ p))
  unfold State.approach
  split
  case h_1 hg ha => exact h.grantCar hr hg ha
  case h_2 => exact h
  case h_3 => exact hrefuse _
  case h_4 => exact hrefuse _

/-! ### Exits, self-throws and expiries of entries -/

theorem State.Follows.countSwept {free : Option PortIx} (s : State) (p : PortIx) :
    State.Follows free s (s.countSwept p) := .modPort s (.raise _ .swept)

theorem State.Follows.takeExitCross {free : Option PortIx} (s : State) (p : PortIx) (code : BitVec 5) :
    State.Follows free s (s.takeExitCross p code) := by
  unfold State.takeExitCross
  dsimp only
  split
  · split
    · exact .removeEntry s _ _ .completed
    · exact .countSwept s p
  · split
    · exact .removeEntry s _ _ .presumed
    · exact .countSwept s p

theorem State.Follows.takeExitStraight {free : Option PortIx} (s : State) (p : PortIx) (code : BitVec 5) :
    State.Follows free s (s.takeExitStraight p code) := by
  unfold State.takeExitStraight
  dsimp only
  split
  · split
    · exact .removeEntry s _ _ .missed
    · exact .refl _ s
  · exact .refl _ s

theorem State.Follows.selfThrowCar (s : State) (p : PortIx) (car : Option CarIx) :
    State.Follows (some p) s (s.selfThrowCar p car) := by
  unfold State.selfThrowCar
  split
  · exact .refl _ s
  · rename_i a
    split
    · exact (State.Follows.supersede s a p).trans .untouched
    · exact .supersede s a p

theorem State.ListsLawful.selfThrowCar_carFree {s : State} (h : s.ListsLawful) (p : PortIx) {car : Option CarIx}
    {a : CarIx} (ha : car = some a) : (s.selfThrowCar p car).CarFree a := by
  subst ha
  have hc := h.supersede_carFree a p
  unfold State.selfThrowCar
  dsimp only
  split
  · exact hc.shrink (State.Follows.untouched (free := none) (t := (s.supersede a p).disarm a)).zone
  · exact hc

/-- The conflict flag is set on a list that holds an entry (R130). -/
theorem State.Follows.markConflict {free : Option PortIx} (s : State) (p : PortIx) (z : ZoneIx) :
    State.Follows free s (s.markConflict p z) := by
  unfold State.markConflict
  split
  case isTrue h =>
    have hne : (s.zone z).entries ≠ [] := fun e => by
      unfold Zone.holdsOther at h
      rw [e] at h
      cases h
    have h1 : State.Follows free s (s.modZone z fun x => { x with conflict := true }) :=
      .modZone s ⟨fun ⟨k1, k2, _⟩ => ⟨k1, k2, fun e => absurd e hne⟩, .refl _⟩ fun _ _ k => k
    exact h1.trans (.notifyPort _ _ _)
  case isFalse => exact .refl _ s

theorem State.Follows.displace {free : Option PortIx} (s : State) (z : ZoneIx) : State.Follows free s (s.displace z) := by
  unfold State.displace
  split
  · exact .removeEntry s z 0 .none
  · exact .refl _ s

/-- After the displacement the list has a place (R129 step 3). -/
theorem State.displace_room {s : State} {z : ZoneIx} (h : (s.zone z).entries.length ≤ 3) :
    ((s.displace z).zone z).entries.length < 3 := by
  unfold State.displace
  split
  case isTrue h3 =>
    have h0 : 0 < (s.zone z).entries.length := by omega
    have hz : (s.removeEntry z 0 id).zone z = (s.modZone z fun x => x.without 0).zone z := by
      unfold State.removeEntry
      rw [List.getElem?_eq_getElem h0]
      simp
    rw [hz, State.zone_modZone, if_pos rfl]
    show ((s.zone z).entries.eraseIdx 0).length < 3
    rw [List.length_eraseIdx_of_lt h0]
    omega
  case isFalse => omega

/-- A self-throw keeps the laws: its entry finds a place and stands alone with its car (R129). -/
theorem State.SectionsLawful.takeSelfThrow {s : State} {p : PortIx} (h : State.SectionsLawful none s)
    (hr : (s.port p).role = .delegated) (code : BitVec 5) : State.SectionsLawful none (s.takeSelfThrow p code) := by
  have h1 : State.SectionsLawful none (s.countThrow p) := h.follow (.countThrow s p)
  have k2 := State.Follows.selfThrowCar (s.countThrow p) p (carOf code.toNat)
  have k3 := State.Follows.markConflict (free := some p) ((s.countThrow p).selfThrowCar p (carOf code.toNat)) p
    (s.zoneOfPort p)
  have k4 := State.Follows.displace (free := some p)
    (((s.countThrow p).selfThrowCar p (carOf code.toNat)).markConflict p (s.zoneOfPort p)) (s.zoneOfPort p)
  have hall := ((State.Follows.countThrow (free := some p) s p).trans k2).trans (k3.trans k4)
  refine ((h.weaken (some p)).follow hall).appendEntry (hall.port p).zone (State.displace_room ?_)
    (.inr ((hall.port p).role.trans hr)) (fun a ha => ?_) _
  · have h3 := (((h1.weaken (some p)).follow k2).follow k3).lists.1 (s.zoneOfPort p)
    obtain ⟨-, -, hlen, -⟩ := h3
    exact hlen
  · exact ((h1.lists.selfThrowCar_carFree p ha).shrink k3.zone).shrink k4.zone

end Sys2Proof.Machine

/-! Every request, every other command and every tick keep the laws of crossing lists, ports and flaps; O57. -/

namespace Sys2Proof.Machine

/-! ### Roles -/

/-- The bays after one record is written: the written port alone counts otherwise (R92). -/
theorem State.bayCount_modPort (s : State) (p : PortIx) (f : Port → Port) :
    (s.modPort p f).bayCount + (if (s.port p).role = .bay then 1 else 0) =
      s.bayCount + (if (f (s.port p)).role = .bay then 1 else 0) := by
  have hperm := List.perm_cons_erase (List.mem_finRange p)
  have hrest : ((List.finRange 16).erase p).countP (fun q => decide (((s.modPort p f).port q).role = .bay)) =
      ((List.finRange 16).erase p).countP (fun q => decide ((s.port q).role = .bay)) :=
    List.countP_congr fun q hq => by
      have hne : p ≠ q := fun e => ((List.nodup_finRange 16).mem_erase_iff.1 hq).1 e.symm
      rw [State.port_modPort, if_neg hne]
  have hself : (s.modPort p f).port p = f (s.port p) := by rw [State.port_modPort, if_pos rfl]
  unfold State.bayCount
  rw [hperm.countP_eq, hperm.countP_eq, List.countP_cons, List.countP_cons, hrest, hself]
  simp only [decide_eq_true_eq]
  omega

/-- What a message does to the line depends on the line alone (R147). -/
theorem Port.issue_line (q : Port) (m : HubMsg) : ∃ leaving waiting, ∀ r : Port,
    r.leaving = q.leaving → r.waiting = q.waiting → r.moduleSending = q.moduleSending →
    r.issue m = { r with leaving := leaving, waiting := waiting } := by
  by_cases hfree : (q.leaving.isNone && q.waiting.isEmpty && !q.moduleSending) = true
  · refine ⟨some m, q.waiting, fun r hl hw hm => ?_⟩
    unfold Port.issue
    rw [hl, hw, hm, if_pos hfree, ← hw]
  · refine ⟨q.leaving, q.waiting ++ [m], fun r hl hw hm => ?_⟩
    unfold Port.issue
    rw [hl, hw, hm, if_neg hfree, ← hl]

/-- The record that PORT_ROLE writes, taken at tick `now` (R95). -/
def Port.inRole (q : Port) (role : Role) (now : Nat) : Port := (q.keepLate role now).clearRun.takeRole role (now + 100)

theorem Port.inRole_of_unused (q : Port) (now : Nat) : q.inRole .unused now = { q with
    role := .unused, state := .off, waiting := [], resetDue := none, masked := false, faultCode := none
    counters := Counters.zero, lastDecision := none, returnPending := false, extension := 0, flapDue := none
    flapAwaiting := false, lateMotion := false, roleTaken := none } := rfl

theorem Port.inRole_of_used {role : Role} (hr : role ≠ .unused) (q : Port) (now : Nat) : ∃ leaving waiting,
    Port.issue { q with waiting := [] } .moduleReset = { q with leaving := leaving, waiting := waiting } ∧
    q.inRole role now = { q with
      leaving := leaving, waiting := waiting, role := role, state := .resetting, resetDue := some (now + 100)
      masked := false, faultCode := none, counters := Counters.zero, lastDecision := none, returnPending := false
      extension := 0, flapDue := none, flapAwaiting := false, lateMotion := q.lateMotion || q.flapMoving
      roleTaken := if q.role = .switch then some now else q.roleTaken } := by
  obtain ⟨leaving, waiting, h⟩ := Port.issue_line { q with waiting := [] } .moduleReset
  refine ⟨leaving, waiting, h _ rfl rfl rfl, ?_⟩
  have hreset (r : Port) (hl : r.leaving = q.leaving) (hw : r.waiting = []) (hm : r.moduleSending = q.moduleSending) :
      r.resetModule (now + 100) = { r with
        leaving := leaving, waiting := waiting, state := .resetting, resetDue := some (now + 100) } := by
    unfold Port.resetModule
    rw [h r hl hw hm]
  unfold Port.inRole Port.keepLate Port.takeRole
  rw [if_neg hr, if_neg hr]
  exact hreset _ rfl rfl rfl

theorem Port.inRole_role (q : Port) (role : Role) (now : Nat) : (q.inRole role now).role = role := by
  by_cases hr : role = .unused
  · subst hr; rfl
  · obtain ⟨_, _, -, h⟩ := Port.inRole_of_used hr q now
    rw [h]

/-- A role written anew leaves a lawful record that needs no entry (R95). -/
theorem Port.inRole_lawful {q : Port} (h : q.Lawful) (role : Role) (now : Nat) :
    (q.inRole role now).Lawful ∧ ¬(q.inRole role now).NeedsEntry := by
  obtain ⟨-, hr⟩ := (Port.lawful_iff q).1 h
  rw [Port.lawful_iff]
  by_cases hu : role = .unused
  · subst hu
    rw [Port.inRole_of_unused]
    refine ⟨⟨.of_still ⟨rfl, rfl, rfl⟩ ⟨rfl, rfl, rfl⟩ ?_ ?_ ?_ ?_ ?_ ?_ (fun e => nomatch e),
      ⟨Nat.zero_le _, hr.errors, hr.throws, hr.config, Counters.zero_inRange⟩⟩,
      Port.needsEntry_of_state (fun e => nomatch e) fun e => nomatch e⟩ <;> simp
  · obtain ⟨_, _, -, he⟩ := Port.inRole_of_used hu q now
    rw [he]
    exact ⟨⟨.of_resetting rfl rfl ⟨rfl, rfl, rfl⟩ hu (fun e => nomatch e),
      ⟨Nat.zero_le _, hr.errors, hr.throws, hr.config, Counters.zero_inRange⟩⟩,
      Port.needsEntry_of_state (fun e => nomatch e) fun e => nomatch e⟩

/-- PORT_ROLE keeps the laws: the port's entries have left, and a fifth BAY port is refused (R92, R95, R133). -/
theorem State.SectionsLawful.writeRole {s : State} (h : State.SectionsLawful none s) {p : PortIx} {role : Role}
    (hb : role = .bay → (s.port p).role = .bay ∨ s.bayCount < 4) :
    State.SectionsLawful none (s.writeRole p role) := by
  have hports : ((s.abandon p).abortSession p).ports = s.ports := by simp
  have hport : ((s.abandon p).abortSession p).port p = s.port p := congrArg (·[p.val]) hports
  have hf : State.Follows (some p) s ((s.abandon p).abortSession p) :=
    (State.Follows.abandon s p).trans (.abortSession _ p)
  have hn : ((s.abandon p).abortSession p).NoEntryOf p := fun z e he =>
    h.lists.noEntryOf_abandon p z e (((State.Follows.abortSession (free := none) _ p).zone z).entries.subset he)
  obtain ⟨hl, hk⟩ := Port.inRole_lawful (h.port p) role s.now
  have hcount := ((s.abandon p).abortSession p).bayCount_modPort p fun q => q.inRole role s.now
  have hsame : ((s.abandon p).abortSession p).bayCount = s.bayCount :=
    State.bayCount_congr fun q => (hf.port q).role
  rw [hport, hsame, Port.inRole_role] at hcount
  obtain ⟨-, h4⟩ := h.ports
  have hw := ((h.weaken (some p)).follow hf).write_free hn (f := fun q => q.inRole role s.now)
    (by rw [hport]; exact hl) (by rw [hport]; exact hk) (by
      by_cases hr : role = .bay
      · rcases hb hr with hr' | hr'
        · rw [if_pos hr, if_pos hr'] at hcount; omega
        · rw [if_pos hr] at hcount; omega
      · rw [if_neg hr] at hcount; omega)
  exact hw.follow (.untouched rfl rfl)

/-! ### Requests -/

theorem clamp_mem {lo hi : Nat} (h : lo ≤ hi) (n : Nat) : lo ≤ clamp lo hi n ∧ clamp lo hi n ≤ hi := by
  unfold clamp
  omega

theorem clamp_dvd {d lo hi n : Nat} (h1 : d ∣ lo) (h2 : d ∣ hi) (h3 : d ∣ n) : d ∣ clamp lo hi n := by
  unfold clamp
  rcases max_choice lo (min hi n) with h | h <;> rw [h]
  · exact h1
  · rcases min_choice hi n with k | k <;> rw [k]
    · exact h2
    · exact h3

/-- What SECTION_WRITE stores is in its ranges (R98, R160). -/
theorem sectionConfig_inRange (z : ZoneIx) (cap hold guardTime flap : BitVec 8) (threshold : Word16) :
    (sectionConfig z cap hold guardTime flap threshold).InRange := by
  have h1 := clamp_mem (lo := 100) (hi := 5000) (by decide) (hold.toNat * 20)
  have h2 := clamp_mem (lo := 0) (hi := 2000) (by decide) (guardTime.toNat * 10)
  have h3 := clamp_mem (lo := 10) (hi := 250) (by decide) flap.toNat
  exact ⟨Nat.le_of_lt_succ cap.isLt, h1.1, h1.2, clamp_dvd (by decide) (by decide) (Nat.dvd_mul_left _ _), h2.2,
    clamp_dvd (by decide) (by decide) (Nat.dvd_mul_left _ _), h3.1, h3.2, Nat.le_of_lt_succ threshold.isLt⟩

theorem State.portHolds_iff (s : State) (p : PortIx) :
    s.portHolds p = true ↔ ∃ z, ∃ e ∈ (s.zone z).entries, e.port = p := by
  simp only [State.portHolds, List.any_eq_true, List.mem_finRange, true_and, Zone.holds_iff]

theorem State.not_portHolds_iff (s : State) (p : PortIx) : ¬s.portHolds p = true ↔ s.NoEntryOf p := by
  rw [State.portHolds_iff]
  unfold State.NoEntryOf
  push Not
  exact Iff.rfl

theorem reqSectionWrite_sections {s : State} (h : State.SectionsLawful none s) (port zone : BitVec 4)
    (cap hold g f : BitVec 8) (th : Word16) :
    State.SectionsLawful none (reqSectionWrite port zone cap hold g f th s).1 := by
  unfold reqSectionWrite
  split
  case h_2 => exact h
  case h_1 p z _ _ =>
    dsimp only
    split
    case isTrue => exact h
    case isFalse hc =>
      have hf : ∀ q : Port, q.RangesLawful → (q.writeSection (sectionConfig z cap hold g f th)).RangesLawful :=
        fun q hq => ⟨hq.extension, hq.errors, Nat.zero_le _, sectionConfig_inRange z cap hold g f th,
          Counters.zero_inRange⟩
      by_cases hz : z = s.zoneOfPort p
      · exact h.follow (.modPort s (.counts (hf _) rfl hz))
      · have hn : s.NoEntryOf p := (s.not_portHolds_iff p).1 fun hp => hc ⟨hz, hp⟩
        obtain ⟨hs, hr⟩ := (Port.lawful_iff _).1 (h.port p)
        have hl : ((s.port p).writeSection (sectionConfig z cap hold g f th)).Lawful := by
          obtain ⟨h1, h2, h3, h4, h5, h6, h7, h8⟩ := hs
          exact (Port.lawful_iff _).2 ⟨⟨h1, h2, h3, h4, h5, h6, h7, h8⟩, hf _ hr⟩
        have hk : ¬(s.port p).NeedsEntry := fun hneed => by
          obtain ⟨e, he, hp⟩ := (Zone.holds_iff _ p).1 (h.serves p (fun e => nomatch e) hneed)
          exact hn _ e he hp
        have hb := s.bayCount_modPort p (Port.writeSection (sectionConfig z cap hold g f th))
        obtain ⟨-, h4⟩ := h.ports
        exact (h.weaken (some p)).write_free hn hl hk (by
          have hrole : ((s.port p).writeSection (sectionConfig z cap hold g f th)).role = (s.port p).role := rfl
          rw [hrole] at hb
          omega)

theorem reqPortRole_sections {s : State} (h : State.SectionsLawful none s) (port : BitVec 8) (role : BitVec 4) :
    State.SectionsLawful none (reqPortRole port role s).1 := by
  unfold reqPortRole
  split
  case h_2 => exact h
  case h_1 p r _ _ =>
    split
    · exact h
    · split
      · exact h
      · rename_i hc
        refine h.writeRole fun hr => ?_
        by_contra hn
        rw [not_or, Nat.not_lt] at hn
        exact hc ⟨hr, hn⟩

theorem reqPortMask_sections {s : State} (h : State.SectionsLawful none s) (port : BitVec 8) (m : Bool) :
    State.SectionsLawful none (reqPortMask port m s).1 := by
  unfold reqPortMask
  split
  · exact h
  · split
    · exact h
    · rename_i hr
      exact h.follow (.of_set (.withMask (not_not.1 hr) m) rfl)

theorem reqSectionCounts_sections {s : State} (h : State.SectionsLawful none s) (port : BitVec 8) (page : BitVec 2)
    (e : Bool) : State.SectionsLawful none (reqSectionCounts port page e s).1 := by
  unfold reqSectionCounts
  split
  · exact h
  · split
    · exact h
    · cases e
      · exact h
      · exact h.follow (.of_set (.errors _ fun _ => Nat.zero_le 255) rfl)

theorem reqSectionClear_sections {s : State} (h : State.SectionsLawful none s) (port : BitVec 8) :
    State.SectionsLawful none (reqSectionClear port s).1 := by
  unfold reqSectionClear
  split
  · exact h
  · split
    · exact h
    · split
      · exact h
      · exact h.follow (.modPort s (.clearSection _))

theorem reqZoneWrite_sections {s : State} (h : State.SectionsLawful none s) (zone capacity : BitVec 8) :
    State.SectionsLawful none (reqZoneWrite zone capacity s).1 := by
  unfold reqZoneWrite
  split
  · exact h
  · rename_i z _
    obtain ⟨h1, h2⟩ := clamp_mem (lo := 1) (hi := 3) (by decide) capacity.toNat
    have hz : (s.zone z).Shrinks { s.zone z with capacity := clamp 1 3 capacity.toNat } :=
      ⟨fun ⟨_, _, h3⟩ => ⟨h1, h2, h3⟩, .refl _⟩
    have hf : State.Follows none s (s.modZone z fun x => { x with capacity := clamp 1 3 capacity.toNat }) :=
      .modZone s hz fun _ _ k => k
    exact h.follow hf

theorem reqPairOpen_sections {s : State} (h : State.SectionsLawful none s) (port slot window : BitVec 8) :
    State.SectionsLawful none (reqPairOpen port slot window s).1 := by
  unfold reqPairOpen
  split
  · split
    · exact h
    · split
      · exact h
      · split
        · exact h
        · split
          · exact h
          · exact h.follow (.openSession s _ _ _ _)
  · exact h

theorem reqPairCancel_sections {s : State} (h : State.SectionsLawful none s) (port : BitVec 8) :
    State.SectionsLawful none (reqPairCancel port s).1 := by
  unfold reqPairCancel
  split
  · exact h
  · split
    · exact h
    · split
      · exact h.follow (.failSession s _ _ _)
      · exact h

theorem reqMode_sections {s : State} (h : State.SectionsLawful none s) (w v on : Bool) (bay : BitVec 8) :
    State.SectionsLawful none (reqMode w v on bay s).1 := by
  unfold reqMode
  split
  · exact h
  · split
    · exact h
    · exact h.follow (.untouched (t := s.writeMode w v on _))

theorem State.Follows.enterRest {free : Option PortIx} (s : State) : State.Follows free s s.enterRest :=
  .mapPorts Port.Follows.rest (fun p => by simp [State.enterRest]) (by simp)

theorem State.Follows.beginWake {free : Option PortIx} (s : State) : State.Follows free s s.beginWake :=
  .mapPorts (f := Port.wake (s.after 100)) (fun q => .wake q _) (fun p => by simp [State.beginWake]) (by simp)

/-- At a soft reset every list is emptied, and no flap needs an entry (R110, R134). -/
theorem State.Follows.softReset {free : Option PortIx} (s : State) : State.Follows free s s.softReset := by
  have hport : ∀ p, s.softReset.port p = (s.port p).softReset (s.after 100) := fun p => by
    simp [State.softReset, State.softResetTables]
  have hzone : ∀ z, s.softReset.zone z = (s.zone z).softReset := fun z => by
    simp [State.softReset, State.softResetTables]
  refine ⟨fun p => ?_, fun z => ?_, fun p _ _ _ hn => ?_⟩
  · rw [hport]
    exact (Port.Follows.softReset _ _).toSucceeds
  · rw [hzone]
    exact ⟨fun ⟨h1, h2, _⟩ => ⟨h1, h2, fun _ => rfl⟩, List.nil_sublist _⟩
  · rw [hport] at hn
    refine absurd hn ?_
    unfold Port.softReset
    split
    case isTrue ho => exact Port.needsEntry_of_state (fun e => nomatch ho.symm.trans e) fun e => nomatch ho.symm.trans e
    case isFalse => exact Port.needsEntry_of_state (fun e => nomatch e) fun e => nomatch e

/-- A request that touches neither ports nor zones keeps the laws. -/
theorem State.SectionsLawful.answer {s : State} (h : State.SectionsLawful none s) {a : Answer} (hp : a.1.ports = s.ports)
    (hz : a.1.zones = s.zones) : State.SectionsLawful none a.1 := h.follow (.untouched hp hz)

/-- Every request keeps the laws of lists, ports and flaps (R157). -/
theorem requestBody_sections {s : State} (h : State.SectionsLawful none s) (code : Nat) (arg : BitVec 8)
    (d1 d2 d3 : Word16) : State.SectionsLawful none (requestBody code arg d1 d2 d3 s).1 := by
  unfold requestBody
  split
  · exact h
  · exact h.answer (by unfold reqStatus; cases arg.getLsbD 0 <;> rfl) (by unfold reqStatus; cases arg.getLsbD 0 <;> rfl)
  · exact h.answer rfl rfl
  · exact h.answer rfl rfl
  · exact reqPortRole_sections h _ _
  · exact reqPortMask_sections h _ _
  · exact reqSectionWrite_sections h _ _ _ _ _ _ _
  · exact h.answer (by unfold reqSectionRead; split <;> rfl) (by unfold reqSectionRead; split <;> rfl)
  · exact reqSectionCounts_sections h _ _ _
  · exact reqSectionClear_sections h _
  · exact reqZoneWrite_sections h _ _
  · unfold reqZoneRead
    split
    · exact h
    · split <;> exact h
  · unfold reqCurveWrite
    split
    · exact h.follow (.untouched rfl rfl)
    · exact h
  · unfold reqCurveRead
    split
    · exact h
    · split <;> exact h
  · unfold reqCarWrite
    split
    · exact h.follow (.untouched rfl rfl)
    · exact h
  · unfold reqCarRead
    split <;> exact h
  · unfold reqCarIdentity
    split
    · exact h
    · split <;> exact h
  · unfold reqBind
    split
    · split
      · exact h
      · exact h.follow (.untouched (t := s.bindCar _ _))
    · exact h
  · unfold reqUnbind
    split
    · exact h
    · split
      · exact h
      · exact h.follow (.untouched (t := s.unbindSlot _))
  · unfold reqForget
    split
    · exact h
    · split
      · exact h
      · exact h.follow (.untouched (t := s.forgetCar _))
  · exact reqPairOpen_sections h _ _ _
  · exact reqPairCancel_sections h _
  · unfold reqPairRead
    repeat' split
    all_goals exact h
  · unfold reqRevive
    split
    · exact h
    · exact h.follow (.untouched rfl rfl)
  · exact h.answer rfl rfl
  · exact reqMode_sections h _ _ _ _
  · unfold reqRest
    split
    · exact h.follow (.enterRest s)
    · exact h
  · unfold reqWake
    dsimp only
    split
    · exact h.follow (.beginWake s)
    · exact h
  · exact h.follow (.softReset s)
  · exact h

/-! ### The Management Unit and the upstream frames -/

theorem State.SectionsLawful.respond {s : State} (h : State.SectionsLawful none s) (code : BitVec 6) {f : State → Answer}
    (hf : State.SectionsLawful none (f s).1) : State.SectionsLawful none (s.respond code f) := by
  unfold State.respond
  split
  · exact h.follow .untouched
  · exact hf.follow .untouched

theorem State.SectionsLawful.complete {s : State} (h : State.SectionsLawful none s) (r : Assembly) :
    State.SectionsLawful none (s.complete r) := by
  unfold State.complete
  split
  · exact h.follow .untouched
  · split
    · exact h.follow .untouched
    · split
      · exact h.follow .untouched
      · exact h.respond _ (requestBody_sections h _ _ _ _ _)

theorem State.SectionsLawful.freePosition {s : State} (h : State.SectionsLawful none s) :
    State.SectionsLawful none s.freePosition := h.follow .untouched

theorem State.SectionsLawful.completeAtPosition {s : State} (h : State.SectionsLawful none s) (r : Assembly) :
    State.SectionsLawful none (s.completeAtPosition r) := by
  have h1 : State.SectionsLawful none { s with free := s.free + 1 } := h.follow (.untouched rfl rfl)
  unfold State.completeAtPosition
  split
  · exact h.freePosition.complete r
  · dsimp only
    split
    · exact (h1.complete r).freePosition
    · exact h1.freePosition.complete r

theorem State.SectionsLawful.arriveOther {s : State} (h : State.SectionsLawful none s) :
    State.SectionsLawful none s.arriveOther := h.follow .untouched

/-- An erroneous frame keeps the laws, whatever it counts (R4). -/
theorem State.SectionsLawful.discardFrame {s t : State} (h : State.SectionsLawful none s)
    (ht : t = { s with notices := t.notices, frameErrors := t.frameErrors, kindErrors := t.kindErrors }) :
    State.SectionsLawful none t.discardFrame := by
  have h1 : State.SectionsLawful none t := h.follow (.untouched (by rw [ht]) (by rw [ht]))
  exact h1.arriveOther.freePosition

theorem State.SectionsLawful.cycleFrame {s : State} (h : State.SectionsLawful none s) (race : RaceState) (e : Bool)
    (b : BitVec 13) : State.SectionsLawful none (s.cycleFrame race e b) := by
  unfold State.cycleFrame
  have h1 : State.SectionsLawful none
      ((s.arrive.cycleWindow.position (.frame (.cycle race e b))).writeRace race e) := h.follow .untouched
  refine h1.follow ?_
  generalize (s.arrive.cycleWindow.position (.frame (.cycle race e b))).writeRace race e = u
  unfold State.cycleRun
  split
  · exact .untouched rfl rfl
  · exact .untouched rfl rfl
  · exact .beginWake u
  · exact .refl _ u
  · exact .refl _ u

theorem State.Follows.driveOut {free : Option PortIx} (s : State) (x : Option CarIx) (t : Nat) (brake : Bool) :
    State.Follows free s (s.driveOut x t brake) := .untouched

theorem State.SectionsLawful.driveFrame {s : State} (h : State.SectionsLawful none s) (slot : BitVec 5) (t : BitVec 6)
    (b l p : Bool) : State.SectionsLawful none (s.driveFrame slot t b l p) := by
  unfold State.driveFrame
  split
  · exact h.discardFrame rfl
  · split
    · exact h.arriveOther
    · have h1 := fun g x => h.arriveOther.follow (.driveFlags s.arriveOther g x l p)
      exact (h1 _ _).follow (.driveOut _ _ _ b)

/-- Another request under assembly. -/
theorem State.SectionsLawful.withAssembly {s : State} (h : State.SectionsLawful none s) (r : Option Assembly) :
    State.SectionsLawful none { s with assembly := r } := h.follow (.untouched rfl rfl)

theorem State.SectionsLawful.beginRequest {s : State} (h : State.SectionsLawful none s) (r : Assembly) :
    State.SectionsLawful none (s.beginRequest r) := by
  unfold State.beginRequest
  split
  · exact h.completeAtPosition r
  · exact (h.withAssembly _).freePosition

theorem State.SectionsLawful.dataFrame {s : State} (h : State.SectionsLawful none s) (w : Word16) :
    State.SectionsLawful none (s.dataFrame w) := by
  unfold State.dataFrame
  split
  · exact h.freePosition
  · dsimp only
    split
    · exact (h.withAssembly none).completeAtPosition _
    · exact (h.withAssembly _).freePosition

theorem State.Follows.closeWindow {free : Option PortIx} {s : State} {f : AnswerWindow → Bool} {w : AnswerWindow}
    {t : State} (hc : s.closeWindow f = some (w, t)) : State.Follows free s t := by
  unfold State.closeWindow at hc
  split at hc
  · cases hc
    exact .untouched rfl rfl
  · split at hc
    · cases hc
      exact .untouched rfl rfl
    · cases hc

theorem State.Follows.closeCarAddress {free : Option PortIx} (s : State) (address : BitVec 5) (answered : Bool) :
    State.Follows free s (s.closeCarAddress address answered) := by
  unfold State.closeCarAddress
  split
  · exact .refl _ s
  · unfold State.closeCarWindow
    split
    · exact .refl _ s
    · rename_i hw
      exact (State.Follows.closeWindow hw).trans .untouched

theorem State.Follows.closeAssignWindow {free : Option PortIx} (s : State) (p : PortIx) (answered : Bool) :
    State.Follows free s (s.closeAssignWindow p answered) := by
  unfold State.closeAssignWindow
  split
  · exact .refl _ s
  · rename_i hw
    split
    · exact (State.Follows.closeWindow hw).trans (.assignResult _ p answered)
    · exact .closeWindow hw

/-! ### The module messages -/

/-- A module message keeps the laws when its handling does, where the port hears it. -/
theorem State.SectionsLawful.onMessage {s : State} (h : State.SectionsLawful none s) (p : PortIx) {f : State → State}
    (hf : ∀ u, State.SectionsLawful none u → State.SectionsLawful none (f u)) :
    State.SectionsLawful none (s.onMessage p f) := by
  unfold State.onMessage
  split
  · exact h
  · exact hf _ (h.follow (.modPort s (.line _ _ _ _)))

theorem State.SectionsLawful.portError {s : State} (h : State.SectionsLawful none s) (p : PortIx) :
    State.SectionsLawful none (s.portError p) := h.follow (.portError s p)

theorem State.SectionsLawful.readerMessage {s : State} (h : State.SectionsLawful none s) (p : PortIx) {f : State → State}
    (hf : ∀ u, State.SectionsLawful none u → State.SectionsLawful none (f u)) :
    State.SectionsLawful none (s.readerMessage p f) :=
  h.onMessage p fun u hu => by
    split
    · exact hf u hu
    · exact hf u hu
    · exact hu.portError p
    · exact hu

theorem State.SectionsLawful.roleMessage {s : State} (h : State.SectionsLawful none s) (p : PortIx) (role : Role)
    {f : State → State}
    (hf : ∀ u, State.SectionsLawful none u → (u.port p).role = role → State.SectionsLawful none (f u)) :
    State.SectionsLawful none (s.roleMessage p role f) :=
  h.onMessage p fun u hu => by
    split
    · exact hf u hu ‹_›
    · split
      · exact hu
      · exact hu.portError p

theorem State.SectionsLawful.flapMessage {s : State} (h : State.SectionsLawful none s) (p : PortIx) (ends : Bool)
    {f : State → State} (hf : ∀ u : State, (u.port p).role = .switch → (u.port p).state.working = true →
      State.Follows none u (f u)) : State.SectionsLawful none (s.flapMessage p ends f) := by
  unfold State.flapMessage
  split
  · exact h.onMessage p fun u hu => hu.follow (.modPort u (.dropMark _ _))
  · refine h.roleMessage p .switch fun u hu hr => ?_
    split
    · exact hu.follow (hf u hr ‹_›)
    · exact hu

/-! ### Expiries, resets and ticks -/

/-- An expiry keeps the laws when what it does in the states it acts in does. -/
theorem State.Follows.expire_ite {free : Option PortIx} (s : State) (due : Option Nat) {c : State → Prop}
    [∀ u, Decidable (c u)] {f : State → State} (hf : c s → State.Follows free s (f s)) :
    State.Follows free s (s.expire due fun u => if c u then f u else u) := by
  refine State.expire_induct (P := State.Follows free s) (.refl _ s) fun _ _ _ => ?_
  split
  · exact hf ‹_›
  · exact .refl _ s

theorem State.Follows.enterHalt {free : Option PortIx} (s : State) : State.Follows free s s.enterHalt := .untouched

theorem State.Follows.startUpSettled {free : Option PortIx} (s : State) : State.Follows free s s.startUpSettled := by
  unfold State.startUpSettled
  exact .expire_ite s _ fun _ => .untouched rfl rfl

theorem State.Follows.wakeSettled {free : Option PortIx} (s : State) : State.Follows free s s.wakeSettled := by
  unfold State.wakeSettled
  exact .expire_ite s _ fun _ => .untouched rfl rfl

theorem State.Follows.silenceExpires {free : Option PortIx} (s : State) : State.Follows free s s.silenceExpires := by
  unfold State.silenceExpires
  exact .expire_ite s _ fun _ => .enterHalt s

theorem State.Follows.ownCycleExpires {free : Option PortIx} (s : State) : State.Follows free s s.ownCycleExpires := by
  unfold State.ownCycleExpires
  exact .expire_ite s _ fun _ => .untouched

theorem State.Follows.flapExpires {free : Option PortIx} (s : State) (p : PortIx) :
    State.Follows free s (s.flapExpires p) := by
  unfold State.flapExpires
  exact .expire_ite s _ fun hs => .flapFails hs

theorem State.Follows.resetExpires {free : Option PortIx} (s : State) (p : PortIx) :
    State.Follows free s (s.resetExpires p) := by
  unfold State.resetExpires
  exact .expire_ite s _ fun hs => .modPort s (.intoAbsent hs)

theorem State.Follows.windowExpires {free : Option PortIx} (s : State) (p : PortIx) :
    State.Follows free s (s.windowExpires p) := by
  unfold State.windowExpires
  split
  · exact .refl _ s
  · exact .expire_ite s _ fun _ => .failSession s p _ _

theorem State.Follows.showExpires {free : Option PortIx} (s : State) (p : PortIx) :
    State.Follows free s (s.showExpires p) := by
  unfold State.showExpires
  split
  · exact .refl _ s
  · exact .expire_ite s _ fun _ => .showSession s p _ _

theorem State.Follows.entryExpires {free : Option PortIx} (s : State) (z : ZoneIx) (k : Nat) :
    State.Follows free s (s.entryExpires z k) := by
  unfold State.entryExpires
  split
  · exact .refl _ s
  · exact State.expire_induct (P := State.Follows free s) (.refl _ s) fun _ _ _ => .removeEntry s z k .expired

theorem State.Follows.guardExpires {free : Option PortIx} (s : State) (z : ZoneIx) :
    State.Follows free s (s.guardExpires z) := by
  unfold State.guardExpires
  split
  · exact .refl _ s
  · exact State.expire_induct (P := State.Follows free s) (.refl _ s) fun _ _ _ => .withGuard s z none

theorem State.Follows.holdReset {free : Option PortIx} (s : State) (cause : Cause) :
    State.Follows free s (s.holdReset cause) :=
  .mapPorts (f := fun q => { q with leaving := none, moduleSending := false }) (fun q => .line q _ _ _)
    (fun p => by simp [State.holdReset]) rfl

theorem State.Follows.idle {free : Option PortIx} (s : State) : State.Follows free s s.idle := by
  unfold State.idle
  split
  · exact .refl _ s
  · refine .of_ports (fun p => ?_) rfl
    rw [State.port_tick]
    exact .line _ _ _ _

/-- A port after a hard reset is lawful (R92). -/
theorem Port.reset_lawful (p : PortIx) : (Port.reset p).Lawful := by
  refine (Port.lawful_iff _).2 ⟨.of_still ⟨rfl, rfl, rfl⟩ ⟨rfl, rfl, rfl⟩ ?_ ?_ ?_ ?_ ?_ ?_ (fun e => nomatch e),
    ⟨Nat.zero_le _, Nat.zero_le _, Nat.zero_le _, ?_, Counters.zero_inRange⟩⟩
  · simp [Port.reset]
  · simp [Port.reset]
  · simp [Port.reset]
  · simp [Port.reset]
  · simp [Port.reset]
  · simp [Port.reset]
  · simp [Port.reset, SectionConfig.reset, SectionConfig.InRange]

/-- The values of a hard reset are lawful: no entries, no bays, every port OFF (R92, R112). -/
theorem State.hardReset_sections (high : Bool) (c : Cause) (l : List Instr) :
    State.SectionsLawful none (State.hardReset high c l) := by
  have hport : ∀ p, (State.hardReset high c l).port p = Port.reset p := fun p => by simp [State.hardReset]
  have hzone : ∀ z, (State.hardReset high c l).zone z = Zone.reset := fun z => by simp [State.hardReset]
  refine ⟨⟨fun z => ?_, fun z y d hd => ?_⟩, ⟨fun p => ?_, ?_⟩, fun p _ hn => ?_⟩
  · rw [hzone]
    simp [Zone.reset]
  · rw [hzone] at hd
    cases hd
  · rw [hport]
    exact Port.reset_lawful p
  · unfold State.bayCount
    simp only [hport]
    decide
  · rw [hport] at hn
    exact absurd hn (Port.needsEntry_of_state (fun e => nomatch e) fun e => nomatch e)

/-! ### Every command -/

/-- Every command that is neither a request nor a reset command keeps the laws. -/
theorem effect_sections (c : Instr) {s : State} (h : State.SectionsLawful none s) :
    State.SectionsLawful none (effect c s) := by
  cases c with
  | cycleFrame race e b => exact h.cycleFrame race e b
  | driveFrame slot t b l p => exact h.driveFrame slot t b l p
  | headFrame code count arg => exact h.arriveOther.beginRequest _
  | dataFrame w => exact (h.follow (.untouched (t := s.arrive))).dataFrame w
  | fillFrame => exact h.arriveOther.freePosition
  | auxFrame k b => exact h.arriveOther.follow (.untouched (t := State.position _ _))
  | frameError => exact h.discardFrame rfl
  | kindError => exact h.discardFrame rfl
  | frameBrokenOff => exact h.discardFrame rfl
  | carAnswerWindowClose address answered => exact h.follow (.closeCarAddress s address answered)
  | assignAnswerWindowClose p answered => exact h.follow (.closeAssignWindow s p answered)
  | railOutputFree => exact h.follow (.untouched (t := s.railFree))
  | insertionQueuePlace => exact h.follow (.untouched (t := s.queuePlace))
  | hello p k b => exact h.onMessage p fun u hu => hu.takeHello k b
  | approach p code =>
    refine h.readerMessage p fun u hu => ?_
    split
    · exact hu.approach ‹_› code
    · exact hu
  | guard p code => exact h.readerMessage p fun u hu => hu.follow (.takeGuard u p code)
  | exitCross p code => exact h.readerMessage p fun u hu => hu.follow (.takeExitCross u p code)
  | exitStraight p code => exact h.readerMessage p fun u hu => hu.follow (.takeExitStraight u p code)
  | ready p b => exact h.flapMessage p true fun u _ _ => .takeReady u p b
  | moving p => exact h.flapMessage p false fun u _ _ => .takeMoving u p
  | moduleFault p code => exact h.flapMessage p true fun _ hr hw => .takeModuleFault hr hw code
  | selfThrow p code => exact h.roleMessage p .delegated fun u hu hr => hu.takeSelfThrow hr code
  | identity p id =>
    refine h.roleMessage p .bay fun u hu _ => ?_
    split
    · exact hu.follow (.takeIdentity u p id)
    · exact hu
  | portLineError p => exact h.onMessage p fun u hu => hu.portError p
  | portMessageBrokenOff p => exact h.onMessage p fun u hu => hu.portError p
  | portLineFree p => exact h.follow (.of_set (.lineFree (s.port p) _) rfl)
  | flapCommandLeft p => exact h.follow (.of_set (.flapCommandLeft (s.port p) _) rfl)
  | startUpSettleExpiry => exact h.follow (.startUpSettled s)
  | wakeSettleExpiry => exact h.follow (.wakeSettled s)
  | silenceDeadlineExpiry => exact h.follow (.silenceExpires s)
  | ownCycleTimerExpiry => exact h.follow (.ownCycleExpires s)
  | resetDeadlineExpiry p => exact h.follow (.resetExpires s p)
  | flapDeadlineExpiry p => exact h.follow (.flapExpires s p)
  | windowDeadlineExpiry p => exact h.follow (.windowExpires s p)
  | showDeadlineExpiry p => exact h.follow (.showExpires s p)
  | entryExpiry z k => exact h.follow (.entryExpires s z _)
  | guardExpiry z => exact h.follow (.guardExpires s z)
  | _ => exact h

/-- Settles O57: the three laws hold together. Each operation leaves lawful records in their roles and zones, lets no list grow and
leaves each flap served; an entry joins a list that has a place, without the car, and for its own port's flap; a role or a
zone is written where no entry names the port. -/
theorem stepsKeepZonesAndPortsLawful : Obligations.StepsKeepZonesAndPortsLawful := by
  unfold Obligations.StepsKeepZonesAndPortsLawful
  intro s t h hs
  rw [← State.sectionsLawful_iff] at hs ⊢
  refine step_keeps (P := State.SectionsLawful none) (fun s l hl => hl.follow (.untouched rfl rfl))
    (fun s hi => hi.follow (.idle s)) (fun c s t hs h => ?_) h hs
  exact exec_keeps (P := State.SectionsLawful none) (fun c s _ _ _ hs => effect_sections c hs)
    (fun s code n arg d1 d2 d3 _ hs => hs.respond code (requestBody_sections hs n arg d1 d2 d3))
    (fun s cause hs => hs.follow (.holdReset s cause))
    (fun s high _ => (State.hardReset_sections high s.cause s.pending).follow (.untouched rfl rfl)) hs h

end Sys2Proof.Machine

/-! What the reports of a SWITCH port's flap do in each state of the port, and what the two deadlines of a port do (R94, R96, R100
to R103, R108, R111); O45 and O46. -/

namespace Sys2Proof.Machine

/-! ### The record in FAULT -/

theorem HubMsg.not_isFlap (m : HubMsg) : (!m.isFlap) = (decide (m ≠ .throw) && decide (m ≠ .straight)) := by
  cases m <;> simp [HubMsg.isFlap]

/-- The flap commands that wait go, the other messages stay in their order (R97, R100). -/
theorem Port.discardFlap_eq (q : Port) : q.discardFlap =
    { q with waiting := q.waiting.filter fun m => decide (m ≠ .throw) && decide (m ≠ .straight) } := by
  unfold Port.discardFlap
  rw [funext HubMsg.not_isFlap]

theorem Port.intoFault_eq (q : Port) : q.intoFault = { q with
    state := .fault, returnPending := false, extension := 0, flapDue := none, flapAwaiting := false
    waiting := q.waiting.filter fun m => decide (m ≠ .throw) && decide (m ≠ .straight) } := by
  unfold Port.intoFault
  rw [Port.discardFlap_eq]
  rfl

/-! ### Flap reports -/

section Reports
variable {s : State} {p : PortIx}

/-- A READY of THROWN that settles a throw (R103). -/
theorem State.takeReady_of_settledThrown (h : (s.port p).state = .throwing) (hr : (s.port p).returnPending = false) :
    s.takeReady p true = s.modPort p fun q => { q with state := .thrown, flapDue := none, flapAwaiting := false } := by
  simp only [State.takeReady, h, hr, if_true, Bool.false_eq_true, if_false]

/-- A READY of THROWN while a return is pending turns the flap round (R103, R104). -/
theorem State.takeReady_of_pendingReturn (h : (s.port p).state = .throwing) (hr : (s.port p).returnPending = true) :
    s.takeReady p true = s.modPort p Port.startReturn := by
  simp only [State.takeReady, h, hr, if_true]

/-- A READY of STRAIGHT that settles a return (R103). -/
theorem State.takeReady_of_settledReturn (h : (s.port p).state = .returning) :
    s.takeReady p false = s.modPort p fun q => { q with state := .straight, flapDue := none, flapAwaiting := false } := by
  simp only [State.takeReady, h, Bool.false_eq_true, if_false]

/-- A READY of the position that the flap does not move to (R100, R103). -/
theorem State.takeReady_of_wrong {thrown : Bool}
    (h : (s.port p).state = .throwing ∧ thrown = false ∨ (s.port p).state = .returning ∧ thrown = true) :
    s.takeReady p thrown = s.flapFails p := by
  rcases h with ⟨h, rfl⟩ | ⟨h, rfl⟩
  · simp only [State.takeReady, h, Bool.false_eq_true, if_false]
  · simp only [State.takeReady, h, if_true]

/-- A READY at a flap that does not move says nothing new (R103). -/
theorem State.takeReady_of_resting (ht : (s.port p).state ≠ .throwing) (hr : (s.port p).state ≠ .returning) (thrown : Bool) :
    s.takeReady p thrown = s := by
  unfold State.takeReady
  split
  · exact absurd ‹_› ht
  · exact absurd ‹_› hr
  all_goals rfl

theorem State.takeMoving_of_moving (h : (s.port p).state = .throwing ∨ (s.port p).state = .returning)
    (he : (s.port p).extension < 2) : s.takeMoving p = s.modPort p fun q =>
      { q with extension := q.extension + 1, flapDue := some (s.now + q.config.flapTimeout), flapAwaiting := false } :=
  if_pos ⟨h, he⟩

theorem State.takeMoving_of_resting (ht : (s.port p).state ≠ .throwing) (hr : (s.port p).state ≠ .returning) :
    s.takeMoving p = s := if_neg fun h => h.1.elim ht hr

/-- A motion is extended twice at most (R102). -/
theorem State.takeMoving_of_extended (he : 2 ≤ (s.port p).extension) : s.takeMoving p = s :=
  if_neg fun h => Nat.not_lt.2 he h.2

/-- A flap that fails takes the port into FAULT with STRAIGHT issued (R100). -/
theorem State.flapFails_eq (s : State) (p : PortIx) : s.flapFails p = { s with
    ports := s.ports.set p (Port.issue { s.port p with
      state := .fault, returnPending := false, extension := 0, flapDue := none, flapAwaiting := false
      waiting := (s.port p).waiting.filter fun m => decide (m ≠ .throw) && decide (m ≠ .straight) } .straight)
    notices := setFlag s.notices .flapFault, lastPort := some p } := by
  rw [← Port.intoFault_eq]
  rfl

theorem State.flapFails_heard (s : State) (p : PortIx) : (s.heard p).flapFails p = { s with
    ports := s.ports.set p (Port.issue { s.port p with
      moduleSending := false
      state := .fault, returnPending := false, extension := 0, flapDue := none, flapAwaiting := false
      waiting := (s.port p).waiting.filter fun m => decide (m ≠ .throw) && decide (m ≠ .straight) } .straight)
    notices := setFlag s.notices .flapFault, lastPort := some p } := by
  unfold State.flapFails
  rw [State.modPort_heard, Port.intoFault_eq]
  rfl

theorem State.takeModuleFault_heard (s : State) (p : PortIx) (code : BitVec 8) :
    (s.heard p).takeModuleFault p code = { s with
      ports := s.ports.set p { (if (s.port p).state = .fault then { s.port p with moduleSending := false }
        else Port.intoFault { s.port p with moduleSending := false }) with faultCode := some code }
      notices := setFlag s.notices .flapFault, lastPort := some p } := by
  unfold State.takeModuleFault
  rw [State.modPort_heard]
  rfl

/-- The reports in RESETTING that R95 and R111 ignore are the late ones; in no other state is a report late. -/
theorem Port.ignoresLateFlap_of_state {q : Port} (h : q.state ≠ .resetting) (now : Nat) : q.ignoresLateFlap now = false := by
  unfold Port.ignoresLateFlap
  rw [decide_eq_false h, Bool.false_and]

/-- A flap report at a SWITCH port in a working state is taken (R94). -/
theorem State.flapMessage_of_working (hr : (s.port p).role = .switch) (hw : (s.port p).state.working = true) (ends : Bool)
    (f : State → State) : s.flapMessage p ends f = f (s.heard p) := by
  have ho : (s.port p).state ≠ .off := fun e => by rw [e] at hw; exact nomatch hw
  have hn : (s.port p).state ≠ .resetting := fun e => by rw [e] at hw; exact nomatch hw
  have hw' : ((s.heard p).port p).state.working = true := by rw [State.port_heard]; exact hw
  unfold State.flapMessage
  rw [Port.ignoresLateFlap_of_state hn, if_neg Bool.false_ne_true, State.roleMessage_of_role ho hr, if_pos hw']

/-- In the other states of a SWITCH port a flap report only ends the module's message (R94); of one that ends a motion
this needs that no motion was cut off (R95, R111). -/
theorem State.flapMessage_of_idle (hr : (s.port p).role = .switch) (hw : (s.port p).state.working = false)
    (ho : (s.port p).state ≠ .off) {ends : Bool}
    (hl : ends = true → (s.port p).state = .resetting → (s.port p).lateMotion = false) (f : State → State) :
    s.flapMessage p ends f = s.heard p := by
  by_cases hlate : (s.port p).state = .resetting ∧ ((s.port p).lateMotion = true ∨ (s.port p).roleTaken = some s.now)
  · obtain ⟨hs, hlate⟩ := hlate
    have hkept : ((s.port p).lateMotion && !ends) = (s.port p).lateMotion := by
      cases ends with
      | false => exact Bool.and_true _
      | true => rw [hl rfl hs]; rfl
    rw [State.flapMessage_of_late hs hlate, hkept]
    rfl
  · have hi : ¬(s.port p).ignoresLateFlap s.now = true := by simpa [Port.ignoresLateFlap, -State.port_eq] using hlate
    have hw' : ¬((s.heard p).port p).state.working = true := by rw [State.port_heard, Bool.not_eq_true]; exact hw
    unfold State.flapMessage
    rw [if_neg hi, State.roleMessage_of_role ho hr, if_neg hw']

end Reports

/-- Settles O45: a report in a working state reaches its handler on the state that has heard it; there the state of the flap, a
pending return and the extensions used decide. -/
theorem flapReportsMoveTheFlapMachine : Obligations.FlapReportsMoveTheFlapMachine := by
  unfold Obligations.FlapReportsMoveTheFlapMachine
  intro p s h hr hw
  have hport := State.port_heard s p
  have hready (thrown : Bool) : exec (.ready p thrown) s = .next ((s.heard p).takeReady p thrown) :=
    exec_of_effect_eq h rfl rfl ((effect_ready ..).trans (State.flapMessage_of_working hr hw ..))
  have hmoving : exec (.moving p) s = .next ((s.heard p).takeMoving p) :=
    exec_of_effect_eq h rfl rfl ((effect_moving ..).trans (State.flapMessage_of_working hr hw ..))
  have hfault (code : BitVec 8) : exec (.moduleFault p code) s = .next ((s.heard p).takeModuleFault p code) :=
    exec_of_effect_eq h rfl rfl ((effect_moduleFault ..).trans (State.flapMessage_of_working hr hw ..))
  refine ⟨_, _, rfl, rfl, fun ht hp => ?_, fun ht hp => ?_, fun ht => ?_, fun thrown ht => ?_, fun thrown ht hb => ⟨?_, ?_⟩,
    fun ht => ⟨fun he => ?_, fun he => ?_⟩, fun code => ?_⟩
  · rw [hready, State.takeReady_of_settledThrown (by rw [hport]; exact ht) (by rw [hport]; exact hp), State.modPort_heard]
  · rw [hready, State.takeReady_of_pendingReturn (by rw [hport]; exact ht) (by rw [hport]; exact hp), State.modPort_heard]
    rfl
  · rw [hready, State.takeReady_of_settledReturn (by rw [hport]; exact ht), State.modPort_heard]
  · rw [hready, State.takeReady_of_wrong (by rw [hport]; exact ht), State.flapFails_heard]
  · rw [hready, State.takeReady_of_resting (by rw [hport]; exact ht) (by rw [hport]; exact hb)]
  · rw [hmoving, State.takeMoving_of_resting (by rw [hport]; exact ht) (by rw [hport]; exact hb)]
  · rw [hmoving, State.takeMoving_of_moving (by rw [hport]; exact ht) (by rw [hport]; exact he), State.modPort_heard]
    rfl
  · rw [hmoving, State.takeMoving_of_extended (by rw [hport]; exact he)]
  · rw [hfault, State.takeModuleFault_heard, Port.intoFault_eq]

/-! ### Deadlines -/

theorem effect_resetDeadlineExpiry (p : PortIx) (s : State) : effect (.resetDeadlineExpiry p) s = s.resetExpires p := rfl

theorem effect_flapDeadlineExpiry (p : PortIx) (s : State) : effect (.flapDeadlineExpiry p) s = s.flapExpires p := rfl

/-- Settles O46: an expiry acts only when its deadline's tick is reached in the state the deadline belongs to; the reports that a
port ignores only end the module's message. -/
theorem portDeadlinesExpire : Obligations.PortDeadlinesExpire := by
  unfold Obligations.PortDeadlinesExpire
  intro p s h
  refine ⟨fun d hs hd hle => ?_, fun hn => ?_, fun d hs hd hle => ?_, fun hn => ?_,
    fun hr hw ho => ⟨?_, fun hl thrown code => ⟨?_, ?_⟩⟩, fun hb hs ho id => ?_⟩
  · refine exec_of_effect_eq h rfl rfl ?_
    rw [effect_resetDeadlineExpiry, State.resetExpires, hd, State.expire_of_reached hle, if_pos hs]
    rfl
  · refine exec_of_effect_eq h rfl rfl ?_
    rw [effect_resetDeadlineExpiry, State.resetExpires]
    rcases hn with hs | hd
    · simp only [if_neg hs, State.expire, ite_self]
    · exact State.expire_of_early hd _
  · refine exec_of_effect_eq h rfl rfl ?_
    rw [effect_flapDeadlineExpiry, State.flapExpires, hd, State.expire_of_reached hle, if_pos hs, State.flapFails_eq]
  · refine exec_of_effect_eq h rfl rfl ?_
    rw [effect_flapDeadlineExpiry, State.flapExpires]
    rcases hn with ⟨ht, hb⟩ | hd
    · simp only [if_neg (not_or.2 ⟨ht, hb⟩), State.expire, ite_self]
    · exact State.expire_of_early hd _
  · exact exec_of_effect_eq h rfl rfl
      ((effect_moving ..).trans (State.flapMessage_of_idle (ends := false) hr hw ho (fun e => absurd e Bool.false_ne_true) _))
  · exact exec_of_effect_eq h rfl rfl ((effect_ready ..).trans (State.flapMessage_of_idle hr hw ho (fun _ => hl) _))
  · exact exec_of_effect_eq h rfl rfl ((effect_moduleFault ..).trans (State.flapMessage_of_idle hr hw ho (fun _ => hl) _))
  · have hs' : ((s.heard p).port p).state ≠ .ready := by rw [State.port_heard]; exact hs
    refine exec_of_effect_eq h rfl rfl ?_
    rw [effect_identity, State.roleMessage_of_role ho hb, if_neg hs']

end Sys2Proof.Machine

/-! What a port's entries leave behind when they are abandoned (R133), and what a HELLO makes of the port (R94, R96, R97); O44. -/

namespace Sys2Proof.Machine

/-! ### Abandoned entries -/

theorem State.abandon_frame (s : State) (p : PortIx) : s.abandon p = { s with zones := (s.abandon p).zones } := by
  unfold State.abandon
  split <;> rfl

/-- A zone that the port does not feed, or where it has no entry, stays as it is (R133). -/
theorem State.zone_abandon_of_without {s : State} {p : PortIx} {z : ZoneIx}
    (h : z ≠ s.zoneOfPort p ∨ ∀ e ∈ (s.zone z).entries, e.port ≠ p) : (s.abandon p).zone z = s.zone z := by
  unfold State.abandon
  split
  case isTrue hh =>
    obtain ⟨e, he, hp⟩ := (Zone.holds_iff _ p).1 hh
    have hz : ¬s.zoneOfPort p = z := fun hz => h.elim (fun hn => hn hz.symm) fun hn => hn e (hz ▸ he) hp
    rw [State.zone_modZone, if_neg hz]
  case isFalse => rfl

/-- The port's zone loses the port's entries; its conflict lasts while others stand there (R133). -/
theorem State.zone_abandon_of_holding {s : State} {p : PortIx} (h : ∃ e ∈ (s.zone (s.zoneOfPort p)).entries, e.port = p) :
    ∃ rest, rest = (s.zone (s.zoneOfPort p)).entries.filter (fun e => decide (e.port ≠ p)) ∧
      (s.abandon p).zone (s.zoneOfPort p) = { s.zone (s.zoneOfPort p) with
        entries := rest, conflict := (s.zone (s.zoneOfPort p)).conflict && !rest.isEmpty } := by
  refine ⟨_, rfl, ?_⟩
  unfold State.abandon
  rw [if_pos ((Zone.holds_iff _ p).2 h), State.zone_modZone, if_pos rfl]

/-! ### A HELLO -/

/-- Whether a HELLO restarts the port (R97): a SWITCH or DELEGATED port that has started up before. A DORMANT one ignores it. -/
def Port.Restarts (q : Port) : Prop :=
  (q.role = .switch ∨ q.role = .delegated) ∧ q.state ≠ .resetting ∧ q.state ≠ .absent ∧ q.state ≠ .mismatch

/-- The state in which the start-up of a HELLO begins (R97): a restart has taken the port's entries and motion. -/
structure State.HelloBegins (s u : State) (p : PortIx) : Prop where
  frame : u = { s with ports := s.ports.set p (u.port p), zones := u.zones }
  kept : ∀ z, ¬(s.port p).Restarts ∨ z ≠ s.zoneOfPort p ∨ (∀ e ∈ (s.zone z).entries, e.port ≠ p) → u.zone z = s.zone z
  left : (s.port p).Restarts → (∃ e ∈ (s.zone (s.zoneOfPort p)).entries, e.port = p) → ∃ rest,
    rest = (s.zone (s.zoneOfPort p)).entries.filter (fun e => decide (e.port ≠ p)) ∧
    u.zone (s.zoneOfPort p) = { s.zone (s.zoneOfPort p) with
      entries := rest, conflict := (s.zone (s.zoneOfPort p)).conflict && !rest.isEmpty }
  restarted : (s.port p).Restarts → u.port p = { s.port p with
    moduleSending := false, returnPending := false, extension := 0, flapDue := none, flapAwaiting := false
    waiting := (s.port p).waiting.filter fun m => decide (m ≠ .throw) && decide (m ≠ .straight) }
  started : ¬(s.port p).Restarts → u.port p = { s.port p with moduleSending := false }

theorem State.HelloBegins.heard {s : State} {p : PortIx} (h : ¬(s.port p).Restarts) : s.HelloBegins (s.heard p) p where
  frame := by rw [State.port_heard]; rfl
  kept _ _ := rfl
  left hr := absurd hr h
  restarted hr := absurd hr h
  started _ := State.port_heard s p

theorem State.HelloBegins.restart {s : State} {p : PortIx} (h : (s.port p).Restarts) :
    s.HelloBegins ((s.heard p).restartPort p) p := by
  have hzone : (s.heard p).zoneOfPort p = s.zoneOfPort p := by unfold State.zoneOfPort; rw [State.port_heard]
  obtain ⟨zs, hz⟩ : ∃ zs, (s.heard p).abandon p = { s.heard p with zones := zs } := ⟨_, State.abandon_frame _ _⟩
  have hframe : (s.heard p).restartPort p = { s with
      ports := s.ports.set p (Port.discardFlap (Port.clearMotion { s.port p with moduleSending := false })), zones := zs } := by
    unfold State.restartPort
    rw [hz]
    exact congrArg (fun u : State => { u with zones := zs })
      (State.modPort_heard s p fun q => q.clearMotion.discardFlap)
  have hport : ((s.heard p).restartPort p).port p =
      Port.discardFlap (Port.clearMotion { s.port p with moduleSending := false }) := by
    rw [hframe]
    exact Vector.getElem_set_self _
  refine ⟨?_, fun z hz => ?_, fun _ hin => ?_, fun _ => hport.trans (Port.discardFlap_eq _), fun hn => absurd h hn⟩
  · have hzones : ((s.heard p).restartPort p).zones = zs := by rw [hframe]
    rw [hport, hzones]
    exact hframe
  · exact State.zone_abandon_of_without (by rw [hzone]; exact hz.resolve_left (not_not_intro h))
  · rw [← hzone]
    exact State.zone_abandon_of_holding (by rw [hzone]; exact hin)

/-- A HELLO that a port does not ignore ends in the start-up (R94, R96, R97). -/
theorem State.takeHello_begins {s : State} {p : PortIx} (hu : (s.port p).role ≠ .unused) (ho : (s.port p).state ≠ .off)
    (hd : (s.port p).state ≠ .dormant) (kind : ModuleKind) (thrown : Bool) :
    ∃ u, s.HelloBegins u p ∧ (s.heard p).takeHello p kind thrown = u.startUp p kind thrown := by
  have hstate : ((s.heard p).port p).state = (s.port p).state := by rw [State.port_heard]
  have hrole : ((s.heard p).port p).role = (s.port p).role := by rw [State.port_heard]
  by_cases hr : (s.port p).Restarts
  · refine ⟨_, .restart hr, ?_⟩
    obtain ⟨hsd, h1, h2, h3⟩ := hr
    have hb : (s.port p).role ≠ .bay := fun e => by rw [e] at hsd; exact hsd.elim nofun nofun
    unfold State.takeHello
    rw [hstate, hrole, if_neg hb]
    split
    iterate 5 contradiction
    all_goals rfl
  · refine ⟨_, .heard hr, ?_⟩
    unfold State.takeHello
    rw [hstate, hrole]
    by_cases hb : (s.port p).role = .bay
    · rw [if_pos hb]
      split
      iterate 2 contradiction
      all_goals rfl
    · have hsd : (s.port p).role = .switch ∨ (s.port p).role = .delegated := by
        cases hrl : (s.port p).role with
        | unused => exact absurd hrl hu
        | switch => exact Or.inl rfl
        | bay => exact absurd hrl hb
        | delegated => exact Or.inr rfl
      have hst : (s.port p).state = .resetting ∨ (s.port p).state = .absent ∨ (s.port p).state = .mismatch := by
        unfold Port.Restarts at hr
        tauto
      rcases hst with hst | hst | hst <;> rw [hst]

/-- Start-up changes the port's record and, at a mismatch, the notices (R96). -/
theorem State.startUp_frame (u : State) (p : PortIx) (kind : ModuleKind) (thrown : Bool) :
    u.startUp p kind thrown = { u with
      ports := u.ports.set p ((u.startUp p kind thrown).port p)
      notices := (u.startUp p kind thrown).notices, lastPort := (u.startUp p kind thrown).lastPort } := by
  by_cases hm : kindMatches (u.port p).role kind = true
  · rcases kindMatches_cases hm with ⟨hr, rfl⟩ | ⟨hr, rfl⟩ | ⟨hr, rfl⟩
    · rw [State.startUp_of_switch hr]
      simp
    · rw [State.startUp_of_bay hr]
      simp
    · rw [State.startUp_of_delegated hr]
      simp
  · rw [State.startUp_of_mismatch (Bool.not_eq_true _ ▸ hm)]
    simp

theorem State.startUp_notices_of_match {u : State} {p : PortIx} {kind : ModuleKind}
    (hm : kindMatches (u.port p).role kind = true) (thrown : Bool) :
    (u.startUp p kind thrown).notices = u.notices ∧ (u.startUp p kind thrown).lastPort = u.lastPort := by
  rcases kindMatches_cases hm with ⟨hr, rfl⟩ | ⟨hr, rfl⟩ | ⟨hr, rfl⟩
  · rw [State.startUp_of_switch hr]
    exact ⟨rfl, rfl⟩
  · rw [State.startUp_of_bay hr]
    exact ⟨rfl, rfl⟩
  · rw [State.startUp_of_delegated hr]
    exact ⟨rfl, rfl⟩

/-- Settles O44: a HELLO that the port does not ignore ends in the start-up from the state that `State.HelloBegins` describes; role
and kind say what the start-up makes of the port. -/
theorem helloStartsOrRestartsThePort : Obligations.HelloStartsOrRestartsThePort := by
  unfold Obligations.HelloStartsOrRestartsThePort
  intro p kind thrown s h hu ho
  have hexec : exec (.hello p kind thrown) s = .next ((s.heard p).takeHello p kind thrown) :=
    exec_of_effect_eq h rfl rfl ((effect_hello ..).trans (State.onMessage_of_heard ho _))
  refine ⟨fun hd => ?_, fun hd => ?_⟩
  · have hstate : ((s.heard p).port p).state = .dormant := by rw [State.port_heard]; exact hd
    rw [hexec, State.takeHello, hstate]
  obtain ⟨u, hb, htake⟩ := State.takeHello_begins hu ho hd kind thrown
  have hrecord : (u.port p).role = (s.port p).role ∧ (u.port p).errors = (s.port p).errors := by
    by_cases hr : (s.port p).Restarts
    · rw [hb.restarted hr]
      exact ⟨rfl, rfl⟩
    · rw [hb.started hr]
      exact ⟨rfl, rfl⟩
  obtain ⟨hrole, herrors⟩ := hrecord
  have hzones : ∀ z, (u.startUp p kind thrown).zone z = u.zone z := fun z => by rw [State.startUp_frame]; rfl
  rw [htake] at hexec
  refine ⟨(s.port p).Restarts, u.startUp p kind thrown, (u.port p).begun kind, .rfl, hexec, ?_, fun z hz => ?_, fun hr hin => ?_,
    fun hr => ?_, fun hr => ?_, fun hr hk ht => ?_, fun hr hk ht => ?_, fun hr hk => ?_, fun x hr hk hx => ?_, fun hm => ?_,
    fun hm => ?_⟩
  · have hf := State.startUp_frame u p kind thrown
    generalize u.startUp p kind thrown = t at hf
    rw [hf, hb.frame]
    simp
  · rw [hzones]
    exact hb.kept z hz
  · rw [hzones]
    exact hb.left hr hin
  · rw [hb.restarted hr]
    rfl
  · rw [hb.started hr]
    rfl
  · subst hk ht
    rw [State.startUp_of_switch (hrole.trans hr)]
    exact Vector.getElem_set_self _
  · subst hk ht
    rw [State.startUp_of_switch (hrole.trans hr)]
    exact Vector.getElem_set_self _
  · subst hk
    rw [State.startUp_of_delegated (hrole.trans hr)]
    exact Vector.getElem_set_self _
  · subst hk
    have hx' : u.session p = some x := by rw [hb.frame]; exact hx
    rw [State.startUp_of_bay (hrole.trans hr), hx']
    exact Vector.getElem_set_self _
  · obtain ⟨hn, hl⟩ := State.startUp_notices_of_match (hrole ▸ hm) thrown
    rw [hn, hl, hb.frame]
    exact ⟨rfl, rfl⟩
  · rw [State.startUp_of_mismatch (hrole ▸ hm), herrors]
    refine ⟨?_, rfl, Vector.getElem_set_self _⟩
    rw [hb.frame]

end Sys2Proof.Machine

/-! The requests about one section: what they refuse, what they write and the words they reply (R98, R99, R105, R106, R159 to R161);
O39. -/

namespace Sys2Proof.Machine

/-! ### The words of a section -/

theorem wordOf_eq (n : Nat) : wordOf n = BitVec.ofNat 16 n := word16_eq_ofNat (by simp)

/-- The stored values of a section as SECTION_READ and SECTION_WRITE give them (R160). -/
theorem SectionConfig.words_eq (c : SectionConfig) : c.words =
    [BitVec.ofNat 8 c.cap ++ BitVec.ofNat 8 (c.hold / 20),
      BitVec.ofNat 8 (c.guardTime / 10) ++ BitVec.ofNat 8 c.flapTimeout, BitVec.ofNat 16 c.threshold] := by
  rw [SectionConfig.words, bytes_eq, bytes_eq, wordOf_eq]

/-- The first word of SECTION_READ (R160), whose bits 6..3 no packing names (log entry 33). -/
theorem sectionWord_eq (role masked state kind zone : Nat) :
    word16 [⟨15, 14, role⟩, ⟨13, 13, masked⟩, ⟨12, 9, state⟩, ⟨8, 7, kind⟩, ⟨2, 0, zone⟩] =
      BitVec.ofNat 2 role ++ BitVec.ofNat 1 masked ++ BitVec.ofNat 4 state ++ BitVec.ofNat 2 kind ++ BitVec.ofNat 4 0 ++
        BitVec.ofNat 3 zone := by
  simp only [ofNat_append]
  exact word16_eq_ofNat (by simp; omega)

theorem Port.readWords_eq (q : Port) : q.readWords =
    [BitVec.ofNat 2 q.role.code ++ BitVec.ofBool q.masked ++ BitVec.ofNat 4 q.state.code ++
        BitVec.ofNat 2 (kindCode q.kind) ++ (0 : BitVec 4) ++ BitVec.ofNat 3 q.config.zone.val,
      BitVec.ofNat 8 q.config.cap ++ BitVec.ofNat 8 (q.config.hold / 20),
      BitVec.ofNat 8 (q.config.guardTime / 10) ++ BitVec.ofNat 8 q.config.flapTimeout, BitVec.ofNat 16 q.config.threshold] := by
  rw [Port.readWords, sectionWord_eq, SectionConfig.words_eq, ofBool_eq_ofNat]
  rfl

/-- A decision as page 2 of SECTION_COUNTS gives it (R161): 0 where there is none. -/
def decisionBits (d : Option Decision) : BitVec 11 :=
  match d with
  | none => (0 : BitVec 11)
  | some d => d.code ++ BitVec.ofNat 2 d.verdict.code ++ BitVec.ofNat 4 d.verdict.reasonCode

theorem decisionWord_eq (d : Option Decision) (fault : Bool) :
    word16 (decisionFields d ++ [⟨0, 0, fault.toNat⟩]) = decisionBits d ++ (0 : BitVec 4) ++ BitVec.ofBool fault := by
  rw [ofBool_eq_ofNat]
  cases d with
  | none => cases fault <;> decide
  | some d =>
    have hcode : d.code = BitVec.ofNat 5 d.code.toNat := BitVec.eq_of_toNat_eq (by simp)
    show word16 [⟨15, 11, d.code.toNat⟩, ⟨10, 9, d.verdict.code⟩, ⟨8, 5, d.verdict.reasonCode⟩, ⟨0, 0, fault.toNat⟩] =
      d.code ++ BitVec.ofNat 2 d.verdict.code ++ BitVec.ofNat 4 d.verdict.reasonCode ++ BitVec.ofNat 4 0 ++
        BitVec.ofNat 1 fault.toNat
    conv_rhs => rw [hcode]
    simp only [ofNat_append]
    exact word16_eq_ofNat (by simp; omega)

theorem Port.countWords_eq (q : Port) :
    q.countWords 0 = [BitVec.ofNat 16 q.throws, BitVec.ofNat 16 q.counters.grant, BitVec.ofNat 16 q.counters.deny,
      BitVec.ofNat 16 q.counters.completed] ∧
    q.countWords 1 = [BitVec.ofNat 16 q.counters.missed, BitVec.ofNat 16 q.counters.expired,
      BitVec.ofNat 16 q.counters.swept, BitVec.ofNat 16 q.counters.presumed] ∧
    q.countWords 2 = [decisionBits q.lastDecision ++ (0 : BitVec 4) ++ BitVec.ofBool q.faultCode.isSome,
      BitVec.ofNat 8 q.errors ++ q.faultCode.getD 0] := by
  refine ⟨?_, ?_, ?_⟩
  · simp only [Port.countWords, if_true, wordOf_eq]
  · rw [Port.countWords, if_neg (by decide), if_pos rfl, wordOf_eq, wordOf_eq, wordOf_eq, wordOf_eq]
  · rw [Port.countWords, if_neg (by decide), if_neg (by decide), decisionWord_eq, bytes_eq]
    cases q.faultCode with
    | none => rfl
    | some v => rw [Option.map_some, Option.getD_some, Option.getD_some, ofNat_toNat_byte]

/-! ### The requests -/

theorem portOf_ofNat (p : PortIx) : portOf (BitVec.ofNat 4 p.val).toNat = some p := by revert p; decide

theorem zoneOf_ofNat (z : ZoneIx) : zoneOf (BitVec.ofNat 4 z.val).toNat = some z := by revert z; decide

section Requests
variable {s : State} {p : PortIx}

theorem reqPortMask_of_other (h : (s.port p).role ≠ .switch) (m : Bool) :
    reqPortMask (portArg p) m s = refuse s .wrongRole := by
  rw [reqPortMask, portOf_portArg]
  exact if_pos h

theorem reqPortMask_of_switch (h : (s.port p).role = .switch) (m : Bool) :
    reqPortMask (portArg p) m s = accept { s with ports := s.ports.set p { s.port p with masked := m } } [] := by
  rw [reqPortMask, portOf_portArg]
  exact if_neg (not_not_intro h)

theorem reqSectionClear_of_rest (h : s.part = .rest) : reqSectionClear (portArg p) s = refuse s .asleep := by
  rw [reqSectionClear, portOf_portArg]
  exact if_pos h

theorem reqSectionClear_of_other (hp : s.part ≠ .rest) (h : (s.port p).role = .unused ∨ (s.port p).role = .bay) :
    reqSectionClear (portArg p) s = refuse s .wrongRole := by
  rw [reqSectionClear, portOf_portArg]
  dsimp only
  rw [if_neg hp, if_pos h]

theorem reqSectionClear_accepted (hp : s.part ≠ .rest) (h : ¬((s.port p).role = .unused ∨ (s.port p).role = .bay)) :
    reqSectionClear (portArg p) s = accept { s with ports := s.ports.set p (s.port p).clearSection } [] := by
  rw [reqSectionClear, portOf_portArg]
  dsimp only
  rw [if_neg hp, if_neg h]
  rfl

theorem reqSectionRead_accepted (s : State) (p : PortIx) :
    reqSectionRead (portArg p) s = accept s (s.port p).readWords := by
  rw [reqSectionRead, portOf_portArg]

/-- SECTION_COUNTS writes the record with its error count cleared or as it is (R99, R161). -/
theorem reqSectionCounts_accepted (s : State) (p : PortIx) {page : BitVec 2} (h : page ≠ 3) (clear : Bool) :
    reqSectionCounts (portArg p) page clear s = accept
      { s with ports := s.ports.set p { s.port p with errors := if clear then 0 else (s.port p).errors } }
      ((s.port p).countWords page) := by
  rw [reqSectionCounts, portOf_portArg]
  dsimp only
  rw [if_neg h]
  cases clear with
  | true => rfl
  | false =>
    have hself : s.ports.set p (s.port p) = s.ports := Vector.set_getElem_self _
    show accept s _ = accept { s with ports := s.ports.set p (s.port p) } _
    rw [hself]

variable {z : ZoneIx} {cap hold guardTime flap : BitVec 8} {threshold : Word16}

theorem reqSectionWrite_of_busy (h : z ≠ s.zoneOfPort p ∧ s.portHolds p = true) :
    reqSectionWrite (BitVec.ofNat 4 p.val) (BitVec.ofNat 4 z.val) cap hold guardTime flap threshold s = refuse s .busy := by
  rw [reqSectionWrite, portOf_ofNat, zoneOf_ofNat]
  exact if_pos h

theorem reqSectionWrite_accepted (h : ¬(z ≠ s.zoneOfPort p ∧ s.portHolds p = true)) :
    reqSectionWrite (BitVec.ofNat 4 p.val) (BitVec.ofNat 4 z.val) cap hold guardTime flap threshold s = accept
      { s with ports := s.ports.set p ((s.port p).writeSection (sectionConfig z cap hold guardTime flap threshold)) }
      (sectionConfig z cap hold guardTime flap threshold).words := by
  rw [reqSectionWrite, portOf_ofNat, zoneOf_ofNat]
  exact if_neg h

end Requests

/-- The echo of SECTION_WRITE (R160). -/
theorem sectionConfig_words (z : ZoneIx) (cap hold guardTime flap : BitVec 8) (threshold : Word16) :
    (sectionConfig z cap hold guardTime flap threshold).words =
      [cap ++ BitVec.ofNat 8 (clamp 100 5000 (hold.toNat * 20) / 20),
        BitVec.ofNat 8 (clamp 0 2000 (guardTime.toNat * 10) / 10) ++ BitVec.ofNat 8 (clamp 10 250 flap.toNat), threshold] := by
  have hthreshold : BitVec.ofNat 16 threshold.toNat = threshold := BitVec.eq_of_toNat_eq (by simp)
  rw [SectionConfig.words_eq]
  dsimp only [sectionConfig]
  rw [ofNat_toNat_byte, hthreshold]

theorem Port.clearSection_of_fault {q : Port} (hr : q.role = .switch) (hf : q.state = .fault) : q.clearSection =
    { q.issue .straight with
      counters := ⟨0, 0, 0, 0, 0, 0, 0⟩, lastDecision := none, faultCode := none, state := .returning
      extension := 0, returnPending := false, flapDue := none, flapAwaiting := true } := by
  obtain ⟨leaving, waiting, h⟩ := q.issue_line .straight
  have hcleared := h { q with counters := Counters.zero, lastDecision := none } rfl rfl rfl
  have hi : q.clearSection = { ({ q with counters := Counters.zero, lastDecision := none } : Port).startReturn with
      faultCode := none } := if_pos ⟨hr, hf⟩
  rw [hi, Port.startReturn, Port.startMotion, hcleared, h q rfl rfl rfl]
  rfl

theorem Port.clearSection_of_other {q : Port} (h : ¬(q.role = .switch ∧ q.state = .fault)) : q.clearSection =
    { q with counters := ⟨0, 0, 0, 0, 0, 0, 0⟩, lastDecision := none } := if_neg h

/-- Settles O39: each request in its cases, with the words of its packing. -/
theorem sectionRequestsWriteAndReadTheRecord : Obligations.SectionRequestsWriteAndReadTheRecord := by
  unfold Obligations.SectionRequestsWriteAndReadTheRecord
  refine ⟨rfl, rfl, rfl, rfl, rfl, fun _ => rfl, rfl, rfl, rfl, fun p s ht => ?_⟩
  obtain ⟨hpage0, hpage1, hpage2⟩ := Port.countWords_eq (s.port p)
  refine ⟨fun m => ⟨fun hr => ?_, fun hr => ?_⟩, fun hp => ?_,
    fun hp hr => ?_, fun hp hr hf => ?_, fun hp hr => ?_, fun z cap hold guardTime flap threshold => ⟨fun hz he => ?_, fun hz => ?_⟩,
    ?_, fun clear => ⟨_, rfl, ?_, ?_, ?_⟩⟩
  · exact exec_answered ht rfl (reqPortMask_of_other hr m)
  · exact exec_answered ht rfl (reqPortMask_of_switch hr m)
  · exact exec_answered ht rfl (reqSectionClear_of_rest hp)
  · exact exec_answered ht rfl (reqSectionClear_of_other hp hr)
  · rw [← Port.clearSection_of_fault hr hf]
    exact exec_answered ht rfl (reqSectionClear_accepted hp (by rw [hr]; decide))
  · have hfault : ¬((s.port p).role = .switch ∧ (s.port p).state = .fault) := by
      rintro ⟨hs, hf⟩
      rcases hr with ⟨-, hn⟩ | hd
      · exact hn hf
      · rw [hs] at hd
        cases hd
    have hrole : ¬((s.port p).role = .unused ∨ (s.port p).role = .bay) := by
      rcases hr with ⟨hs, -⟩ | hd
      · rw [hs]; decide
      · rw [hd]; decide
    rw [← Port.clearSection_of_other hfault]
    exact exec_answered ht rfl (reqSectionClear_accepted hp hrole)
  · exact exec_answered ht rfl (reqSectionWrite_of_busy ⟨hz, (s.portHolds_iff p).2 he⟩)
  · have hfree : ¬(z ≠ s.zoneOfPort p ∧ s.portHolds p = true) := fun ⟨hn, hh⟩ =>
      hz.elim hn fun hno => (s.not_portHolds_iff p).2 (fun y e he => hno y e he) hh
    refine ⟨clamp 100 5000 (hold.toNat * 20), clamp 0 2000 (guardTime.toNat * 10), clamp 10 250 flap.toNat, ?_, ?_, rfl, ?_⟩
    · rw [clamp, Nat.mul_comm]
    · rw [clamp, Nat.mul_comm, Nat.zero_max]
    · rw [← sectionConfig_words]
      exact exec_answered ht rfl (reqSectionWrite_accepted hfree)
  · rw [← Port.readWords_eq]
    exact exec_answered ht rfl (reqSectionRead_accepted s p)
  · rw [← hpage0]
    exact exec_answered ht rfl (reqSectionCounts_accepted s p (by decide) clear)
  · rw [← hpage1]
    exact exec_answered ht rfl (reqSectionCounts_accepted s p (by decide) clear)
  · exact exec_answered ht rfl ((reqSectionCounts_accepted s p (by decide) clear).trans
      (congrArg (accept _) hpage2))

end Sys2Proof.Machine

/-! What PORT_ROLE makes of a port's session and record, and what it leaves as it is (R86, R95, R99, R133); O38. -/

namespace Sys2Proof.Machine

/-! ### The session of a port that loses its role -/

section Abort
variable {s : State} {p : PortIx}

theorem State.abortSession_of_none (h : s.session p = none) : s.abortSession p = s := by
  unfold State.abortSession
  rw [h]

/-- An open session is released, closed with ABORTED and noticed (R86). -/
theorem State.abortSession_of_open {x : Session} (h : s.session p = some x) (ho : x.state.isOpen = true) :
    s.abortSession p = ((s.releaseSession p x).setSession p (some { x with
      state := .closed, windowDue := none, showDue := none, outcome := some .aborted })).notifyPort .pairFailed p := by
  unfold State.abortSession
  rw [h]
  dsimp only
  rw [if_pos ho, Session.closed, if_pos ho]

/-- A session that is not open only stops to be shown (R86). -/
theorem State.abortSession_of_shut {x : Session} (h : s.session p = some x) (ho : x.state.isOpen = false) :
    s.abortSession p = s.setSession p (some { x with state := .closed, windowDue := none, showDue := none }) := by
  unfold State.abortSession
  rw [h]
  dsimp only
  rw [if_neg (Bool.not_eq_true _ ▸ ho), Session.closed, if_neg (Bool.not_eq_true _ ▸ ho)]

theorem State.abortSession_session_of_ne (s : State) {p q : PortIx} (hq : q ≠ p) :
    (s.abortSession p).session q = s.session q := by
  cases hx : s.session p with
  | none => rw [State.abortSession_of_none hx]
  | some x =>
    cases ho : x.state.isOpen with
    | true =>
      have hs : (s.releaseSession p x).session q = s.session q :=
        congrArg (·[q.val]) (show (s.releaseSession p x).sessions = s.sessions by simp)
      rw [State.abortSession_of_open hx ho]
      exact ((s.releaseSession p x).session_setSession p q _).trans (by rw [if_neg hq.symm, hs])
    | false => rw [State.abortSession_of_shut hx ho, State.session_setSession, if_neg hq.symm]

end Abort

/-! ### The state after PORT_ROLE -/

section WriteRole
variable (s : State) (p : PortIx) (role : Role)

/-- PORT_ROLE writes the port's record and session after its entries and its session are gone (R95). -/
theorem State.writeRole_eq : s.writeRole p role = { (s.abandon p).abortSession p with
    ports := s.ports.set p ((s.port p).inRole role s.now)
    sessions := ((s.abandon p).abortSession p).sessions.set p
      (sessionForRole role (((s.abandon p).abortSession p).session p)) } := by
  have hports : ((s.abandon p).abortSession p).ports = s.ports := by simp
  unfold State.writeRole State.port
  generalize (s.abandon p).abortSession p = u at hports ⊢
  rw [← hports]
  rfl

theorem State.writeRole_frame : s.writeRole p role = { s with
    slots := (s.writeRole p role).slots, cars := (s.writeRole p role).cars, ports := (s.writeRole p role).ports
    sessions := (s.writeRole p role).sessions, zones := (s.writeRole p role).zones
    insertionQueue := (s.writeRole p role).insertionQueue, queueWaiting := (s.writeRole p role).queueWaiting
    window := (s.writeRole p role).window, closing := (s.writeRole p role).closing
    waitingLine := (s.writeRole p role).waitingLine, notices := (s.writeRole p role).notices
    lastPort := (s.writeRole p role).lastPort } := by
  apply State.ext <;> simp [State.writeRole]

theorem State.port_writeRole (q : PortIx) :
    (s.writeRole p role).port q = if p = q then (s.port p).inRole role s.now else s.port q := by
  rw [State.writeRole_eq]
  exact State.port_modPort s p q fun _ => (s.port p).inRole role s.now

theorem State.zone_writeRole (z : ZoneIx) : (s.writeRole p role).zone z = (s.abandon p).zone z :=
  congrArg (·[z.val]) (show (s.writeRole p role).zones = (s.abandon p).zones by simp [State.writeRole])

theorem State.session_writeRole_self : (s.writeRole p role).session p =
    sessionForRole role (((s.abandon p).abortSession p).session p) := by
  rw [State.writeRole_eq]
  exact Vector.getElem_set_self _

theorem State.session_abandon (q : PortIx) : (s.abandon p).session q = s.session q :=
  congrArg (·[q.val]) (show (s.abandon p).sessions = s.sessions by simp)

theorem State.session_writeRole_of_ne {q : PortIx} (hq : q ≠ p) : (s.writeRole p role).session q = s.session q := by
  have hset : (s.writeRole p role).session q = ((s.abandon p).abortSession p).session q := by
    rw [State.writeRole_eq]
    exact (State.session_setSession _ p q _).trans (if_neg hq.symm)
  rw [hset, State.abortSession_session_of_ne _ hq, State.session_abandon]

end WriteRole

/-- An open session of the port is released as R81 says (R86). -/
theorem State.writeRole_released {s : State} {p : PortIx} {x : Session} (h : s.session p = some x)
    (ho : x.state.isOpen = true) (role : Role) : s.SessionReleased (s.writeRole p role) p x := by
  have hx : (s.abandon p).session p = some x := (s.session_abandon p p).trans h
  have hr : s.SessionReleased ((s.abandon p).releaseSession p x) p x := by
    have hr := (s.abandon p).releaseSession_released p x
    generalize (s.abandon p).releaseSession p x = t at hr ⊢
    rw [State.abandon_frame] at hr
    exact hr
  refine hr.of_fields ?_ ?_ ?_ ?_ ?_ <;> rw [State.writeRole_eq, State.abortSession_of_open hx ho] <;> simp

/-- A role whose port had no open session changes nothing of slots, cars, output and notices (R86). -/
theorem State.writeRole_of_shut {s : State} {p : PortIx}
    (h : (s.abandon p).abortSession p = { s.abandon p with sessions := ((s.abandon p).abortSession p).sessions }) (role : Role) :
    (s.writeRole p role).slots = s.slots ∧ (s.writeRole p role).cars = s.cars ∧
    (s.writeRole p role).insertionQueue = s.insertionQueue ∧ (s.writeRole p role).queueWaiting = s.queueWaiting ∧
    (s.writeRole p role).window = s.window ∧ (s.writeRole p role).closing = s.closing ∧
    (s.writeRole p role).waitingLine = s.waitingLine ∧ (s.writeRole p role).notices = s.notices ∧
    (s.writeRole p role).lastPort = s.lastPort := by
  rw [State.writeRole_eq, h, State.abandon_frame]
  exact ⟨rfl, rfl, rfl, rfl, rfl, rfl, rfl, rfl, rfl⟩

/-- The record that PORT_ROLE writes, from what the line makes of MODULE_RESET (R95). -/
theorem Port.inRole_eq (q : Port) (role : Role) (now : Nat) : ∃ line : Port,
    line = (if role = .unused then { q with waiting := [] } else Port.issue { q with waiting := [] } .moduleReset) ∧
    q.inRole role now = { line with
      role := role, state := if role = .unused then .off else .resetting
      resetDue := if role = .unused then none else some (now + 100), masked := false, faultCode := none
      counters := ⟨0, 0, 0, 0, 0, 0, 0⟩, lastDecision := none, returnPending := false, extension := 0
      flapDue := none, flapAwaiting := false
      lateMotion := decide (role ≠ .unused) && (q.lateMotion || (decide (q.role = .switch) &&
        (decide (q.state = .throwing) || decide (q.state = .returning))))
      roleTaken := if role = .unused then none else if q.role = .switch then some now else q.roleTaken } := by
  refine ⟨_, rfl, ?_⟩
  by_cases hu : role = .unused
  · subst hu
    exact Port.inRole_of_unused q now
  · obtain ⟨leaving, waiting, hi, he⟩ := Port.inRole_of_used hu q now
    rw [he, if_neg hu, if_neg hu, if_neg hu, if_neg hu, hi, decide_eq_true hu, Bool.true_and]
    rfl

/-! ### PORT_ROLE -/

theorem roleOf_code (role : Role) : roleOf (BitVec.ofNat 4 role.code).toNat = some role := by cases role <;> rfl

section Request
variable {s : State} {p : PortIx} {role : Role}

theorem reqPortRole_of_rest (h : s.part = .rest) :
    reqPortRole (portArg p) (BitVec.ofNat 4 role.code) s = refuse s .asleep := by
  rw [reqPortRole, portOf_portArg, roleOf_code]
  exact if_pos h

theorem reqPortRole_of_full (hp : s.part ≠ .rest) (h : role = .bay ∧ (s.port p).role ≠ .bay ∧ 4 ≤ s.bayCount) :
    reqPortRole (portArg p) (BitVec.ofNat 4 role.code) s = refuse s .full := by
  rw [reqPortRole, portOf_portArg, roleOf_code]
  dsimp only
  rw [if_neg hp, if_pos h]

theorem reqPortRole_accepted (hp : s.part ≠ .rest) (h : ¬(role = .bay ∧ (s.port p).role ≠ .bay ∧ 4 ≤ s.bayCount)) :
    reqPortRole (portArg p) (BitVec.ofNat 4 role.code) s = accept (s.writeRole p role) [] := by
  rw [reqPortRole, portOf_portArg, roleOf_code]
  dsimp only
  rw [if_neg hp, if_neg h]

end Request

/-- Settles O38: the checks in their order; once accepted, the state is `State.writeRole`, whose record, zones and session the
lemmas above give. -/
theorem portRoleStartsThePortAfresh : Obligations.PortRoleStartsThePortAfresh := by
  unfold Obligations.PortRoleStartsThePortAfresh
  refine ⟨rfl, fun p role s ht => ⟨fun hp => exec_answered ht rfl (reqPortRole_of_rest hp),
    fun hp hb hr hn => exec_answered ht rfl (reqPortRole_of_full hp ⟨hb, hr, hn⟩), fun hp hok => ?_⟩⟩
  have hfree : ¬(role = .bay ∧ (s.port p).role ≠ .bay ∧ 4 ≤ s.bayCount) := fun ⟨hb, hr, hn⟩ =>
    hok.elim (fun h => h hb) fun h => h.elim hr fun h => Nat.not_lt.2 hn h
  have hself : (s.writeRole p role).session p = _ := s.session_writeRole_self p role
  refine ⟨s.writeRole p role, exec_answered ht rfl (reqPortRole_accepted hp hfree), s.writeRole_frame p role,
    fun q hq => ⟨?_, s.session_writeRole_of_ne p role hq⟩, ?_, fun z hz => ?_, fun hin => ?_, fun hb => ?_, fun hb hn => ?_,
    fun x hx ho => ?_, fun hshut => ?_⟩
  · rw [State.port_writeRole, if_neg hq.symm]
  · rw [State.port_writeRole, if_pos rfl]
    exact Port.inRole_eq _ role s.now
  · rw [State.zone_writeRole, State.zone_abandon_of_without hz]
  · rw [State.zone_writeRole]
    exact State.zone_abandon_of_holding hin
  · rw [hself, sessionForRole, if_neg hb]
  · rw [hself, sessionForRole, if_pos hb, State.abortSession_of_none ((s.session_abandon p p).trans hn), State.session_abandon, hn]
    rfl
  · have hopen := (SessionState.isOpen_iff x.state).2 ho
    have habort := State.abortSession_of_open ((s.session_abandon p p).trans hx) hopen
    refine ⟨State.writeRole_released hx hopen role, ?_, ?_, fun hb => ?_⟩
    · rw [State.writeRole_eq, habort]
      simp
    · rw [State.writeRole_eq, habort]
      rfl
    · rw [hself, sessionForRole, if_pos hb, habort]
      exact congrArg (fun y => some (Option.getD y Session.fresh)) (Vector.getElem_set_self _)
  · have habort : (s.abandon p).abortSession p =
        { s.abandon p with sessions := ((s.abandon p).abortSession p).sessions } := by
      cases hx : s.session p with
      | none => rw [State.abortSession_of_none ((s.session_abandon p p).trans hx)]
      | some x =>
        have hfalse := (SessionState.isOpen_eq_false_iff x.state).2 (hshut x hx)
        rw [State.abortSession_of_shut ((s.session_abandon p p).trans hx) hfalse]
        rfl
    obtain ⟨h1, h2, h3, h4, h5, h6, h7, h8, h9⟩ := State.writeRole_of_shut habort role
    refine ⟨h1, h2, h3, h4, h5, h6, h7, h8, h9, fun x hb hx => ?_⟩
    have hfalse := (SessionState.isOpen_eq_false_iff x.state).2 (hshut x hx)
    rw [hself, sessionForRole, if_pos hb, State.abortSession_of_shut ((s.session_abandon p p).trans hx) hfalse]
    exact congrArg (fun y => some (Option.getD y Session.fresh)) (Vector.getElem_set_self _)

end Sys2Proof.Machine

/-! The requests about one zone: the capacity that is written, and the words of the pages that are read (R114, R162); O40. -/

namespace Sys2Proof.Machine

/-! ### The words of a zone -/

/-- The first word of page 0 of ZONE_READ (R162). -/
theorem zoneWord_eq (capacity conflict count owned owner guarded code : Nat) :
    word16 [⟨15, 14, capacity⟩, ⟨13, 13, conflict⟩, ⟨12, 11, count⟩, ⟨10, 10, owned⟩, ⟨9, 6, owner⟩, ⟨5, 5, guarded⟩,
        ⟨4, 0, code⟩] =
      BitVec.ofNat 2 capacity ++ BitVec.ofNat 1 conflict ++ BitVec.ofNat 2 count ++ BitVec.ofNat 1 owned ++
        BitVec.ofNat 4 owner ++ BitVec.ofNat 1 guarded ++ BitVec.ofNat 5 code := by
  simp only [ofNat_append]
  exact word16_eq_ofNat (by simp; omega)

/-- A guard's car code as a field of its width (R162). -/
theorem guardCode_eq (g : Option Guard) :
    BitVec.ofNat 5 ((g.map fun g => g.code.toNat).getD 0) = (g.map Guard.code).getD 0 := by
  cases g with
  | none => rfl
  | some g => exact BitVec.eq_of_toNat_eq (by simp)

theorem State.zoneWords_eq (s : State) (x : Zone) : s.zoneWords x =
    [BitVec.ofNat 2 x.capacity ++ BitVec.ofBool x.conflict ++ BitVec.ofNat 2 x.entries.length ++
        BitVec.ofBool x.entries.head?.isSome ++ BitVec.ofNat 4 ((x.entries.head?.map fun e => e.port.val).getD 0) ++
        BitVec.ofBool x.guard.isSome ++ (x.guard.map Guard.code).getD 0,
      BitVec.ofNat 16 ((x.guard.map fun g => g.due - s.now).getD 0)] := by
  rw [State.zoneWords, zoneWord_eq, wordOf_eq, guardCode_eq, ofBool_eq_ofNat, ofBool_eq_ofNat, ofBool_eq_ofNat, Zone.owner,
    Option.isSome_map, Option.map_map]
  rfl

/-- The first word of an entry's page of ZONE_READ (R162), whose bits 9..4 no packing names (log entry 33). -/
theorem entryWord_eq (address port : Nat) : word16 [⟨15, 15, 1⟩, ⟨14, 10, address⟩, ⟨3, 0, port⟩] =
    (1 : BitVec 1) ++ BitVec.ofNat 5 address ++ (0 : BitVec 6) ++ BitVec.ofNat 4 port := by
  rw [show (1 : BitVec 1) = BitVec.ofNat 1 1 from rfl, show (0 : BitVec 6) = BitVec.ofNat 6 0 from rfl]
  simp only [ofNat_append]
  exact word16_eq_ofNat (by simp; omega)

theorem State.entryWords_some (s : State) (e : Entry) : s.entryWords (some e) =
    [(1 : BitVec 1) ++ BitVec.ofNat 5 ((e.car.map addressOf).getD 0) ++ (0 : BitVec 6) ++ BitVec.ofNat 4 e.port.val,
      BitVec.ofNat 16 (e.due - s.now)] := by
  rw [State.entryWords, entryWord_eq, wordOf_eq]

/-! ### The requests -/

theorem zoneOf_zoneArg (z : ZoneIx) : zoneOf (zoneArg z).toNat = some z := by revert z; decide

theorem reqZoneWrite_accepted (s : State) (z : ZoneIx) (capacity : BitVec 8) :
    reqZoneWrite (zoneArg z) capacity s =
      accept { s with zones := s.zones.set z { s.zone z with capacity := max 1 (min 3 capacity.toNat) } }
        [BitVec.ofNat 16 (max 1 (min 3 capacity.toNat))] := by
  have hword : word16 [⟨1, 0, clamp 1 3 capacity.toNat⟩] = BitVec.ofNat 16 (max 1 (min 3 capacity.toNat)) := by
    have hclamp : max 1 (min 3 capacity.toNat) < 4 := by omega
    exact word16_eq_ofNat (by simp [clamp, Nat.mod_eq_of_lt hclamp])
  rw [reqZoneWrite, zoneOf_zoneArg]
  dsimp only
  rw [hword]
  rfl

theorem reqZoneRead_zone (s : State) (z : ZoneIx) : reqZoneRead (zoneArg z) 0 s = accept s (s.zoneWords (s.zone z)) := by
  rw [reqZoneRead, zoneOf_zoneArg]
  rfl

/-- Pages 1 to 3 read the entries from the oldest on (R162). -/
theorem reqZoneRead_entry (s : State) (z : ZoneIx) (k : Fin 3) :
    reqZoneRead (zoneArg z) (BitVec.ofNat 2 (k.val + 1)) s = accept s (s.entryWords (s.zone z).entries[k.val]?) := by
  have hpage : BitVec.ofNat 2 (k.val + 1) ≠ 0 ∧ (BitVec.ofNat 2 (k.val + 1)).toNat - 1 = k.val := by revert k; decide
  obtain ⟨hne, hplace⟩ := hpage
  rw [reqZoneRead, zoneOf_zoneArg]
  dsimp only
  rw [if_neg hne, hplace]

/-- Settles O40: the capacity is written clamped; a page of ZONE_READ is the words of the zone or of one entry. -/
theorem zoneRequestsWriteAndReadTheRecord : Obligations.ZoneRequestsWriteAndReadTheRecord := by
  unfold Obligations.ZoneRequestsWriteAndReadTheRecord
  intro z s ht
  refine ⟨fun capacity => ⟨_, rfl, exec_answered ht rfl (reqZoneWrite_accepted s z capacity)⟩, ?_,
    fun k => ⟨fun hk => ?_, fun e he => ?_⟩⟩
  · exact exec_answered ht rfl ((reqZoneRead_zone s z).trans (by rw [State.zoneWords_eq]; rfl))
  · exact exec_answered ht rfl ((reqZoneRead_entry s z k).trans (by rw [hk]; rfl))
  · exact exec_answered ht rfl ((reqZoneRead_entry s z k).trans (by rw [he, State.entryWords_some]; rfl))

end Sys2Proof.Machine

/-! The handling of the messages of crossing readers, return requests and the decision on an approach (R93, R104, R117, R118, R121,
R122); O47. -/

namespace Sys2Proof.Machine

/-! ### Messages of a port that has been heard -/

/-- A message of a crossing reader at a SWITCH or DELEGATED port is taken (R93). -/
theorem State.readerMessage_of_reader {s : State} {p : PortIx} (ho : (s.port p).state ≠ .off)
    (hr : (s.port p).role = .switch ∨ (s.port p).role = .delegated) (f : State → State) :
    s.readerMessage p f = f (s.heard p) := by
  unfold State.readerMessage
  rw [State.onMessage_of_heard ho, State.port_heard]
  rcases hr with hr | hr <;> rw [hr]

theorem State.zone_heard (s : State) (p : PortIx) (z : ZoneIx) : (s.heard p).zone z = s.zone z := rfl

theorem State.zoneOfPort_heard (s : State) (p : PortIx) : (s.heard p).zoneOfPort p = s.zoneOfPort p := by
  unfold State.zoneOfPort
  rw [State.port_heard]

/-- The end of the module's message does not enter a decision (R117). -/
theorem State.decideApproach_heard (s : State) (p : PortIx) (code : BitVec 5) :
    (s.heard p).decideApproach p code = s.decideApproach p code := by
  have hcar : ∀ a, (s.heard p).decideCar p a = s.decideCar p a := fun a => by
    unfold State.decideCar
    rw [State.zoneOfPort_heard, State.port_heard]
    rfl
  have hdriven : ∀ a, (s.heard p).driven a = s.driven a := fun _ => rfl
  unfold State.decideApproach
  simp only [hcar, hdriven, State.port_heard]

theorem exec_approach_of_switch {s : State} {p : PortIx} (h : s.resetHeld = false) (hr : (s.port p).role = .switch)
    (ho : (s.port p).state ≠ .off) (code : BitVec 5) :
    exec (.approach p code) s = .next ((s.heard p).approach p code) := by
  have hr' : ((s.heard p).port p).role = .switch := by rw [State.port_heard]; exact hr
  rw [exec_of_effect h rfl rfl, effect_approach, State.readerMessage_of_reader ho (.inl hr), if_pos hr']

/-! ### One record, changed again -/

/-- A change of a port record is what it makes of the record that stands there. -/
theorem State.modPort_congr {s : State} {p : PortIx} {f g : Port → Port} (h : f (s.port p) = g (s.port p)) :
    s.modPort p f = s.modPort p g := by
  unfold State.modPort
  rw [h]

theorem State.modPort_of_fixed {s : State} {p : PortIx} {f : Port → Port} (h : f (s.port p) = s.port p) :
    s.modPort p f = s := by
  have hself : s.ports.set p (s.port p) = s.ports := Vector.set_getElem_self _
  unfold State.modPort
  rw [h, hself]

theorem State.modPort_modPort (s : State) (p : PortIx) (f g : Port → Port) :
    (s.modPort p f).modPort p g = s.modPort p fun q => g (f q) := by
  have hport : (s.modPort p f).port p = f (s.port p) := by rw [State.port_modPort, if_pos rfl]
  unfold State.modPort at hport ⊢
  rw [hport]
  simp only [Vector.set_set]

/-! ### Return requests -/

/-- A return request is the port's own answer to it (R104). -/
theorem State.requestReturn_eq (s : State) (p : PortIx) : s.requestReturn p = s.modPort p Port.returned := by
  unfold State.requestReturn
  split
  case h_1 hs =>
    refine State.modPort_congr ?_
    rw [Port.returned, if_pos hs]
    rfl
  case h_2 hs =>
    refine State.modPort_congr ?_
    rw [Port.returned, hs]
    rfl
  all_goals
    rename_i hs
    refine (State.modPort_of_fixed ?_).symm
    rw [Port.returned, hs]
    rfl

/-! ### The decision (R117) -/

theorem PortState.deniesFault_iff (st : PortState) : st.deniesFault = true ↔
    st = .fault ∨ st = .resetting ∨ st = .absent ∨ st = .mismatch ∨ st = .dormant := by
  cases st <;> decide

theorem State.laneOpen_eq_false_iff (s : State) : s.laneOpen = false ↔ s.race ≠ .green ∨ s.laneEnable = false := by
  rw [State.laneOpen, Bool.and_eq_false_iff, decide_eq_false_iff_not]

theorem Zone.holdsOther_iff (x : Zone) (p : PortIx) : x.holdsOther p = true ↔ ∃ e ∈ x.entries, e.port ≠ p := by
  simp [Zone.holdsOther]

/-- Checks 4 to 12 in the terms of the records (R117). -/
theorem State.decideCar_eq (s : State) (p : PortIx) (a : CarIx) : s.decideCar p a =
    if (s.car a).armed = false ∧ (s.car a).reservation = none ∧ (s.car a).link ≠ .lost then .pass
    else if (s.car a).reservation ≠ none then .deny .held
    else if s.part ≠ .run ∨ s.race ≠ .green ∨ s.laneEnable = false then .deny .race
    else if (s.car a).link = .passive ∨ (s.car a).link = .lost then .deny .link
    else if (s.port p).state = .returning then .deny .flapBusy
    else if (s.zone (s.zoneOfPort p)).conflict then .deny .conflict
    else if ∃ e ∈ (s.zone (s.zoneOfPort p)).entries, e.port ≠ p then .deny .zoneOther
    else if (s.zone (s.zoneOfPort p)).guard ≠ none then .deny .guarded
    else if (s.zone (s.zoneOfPort p)).capacity ≤
        ((s.zone (s.zoneOfPort p)).entries.filter fun e => decide (e.car ≠ some a)).length then .deny .full
    else .grant := by
  unfold State.decideCar
  simp only [State.laneOpen_eq_false_iff, Zone.holdsOther_iff, Option.isSome_iff_ne_none]
  rfl

theorem State.decideApproach_of_masked {s : State} {p : PortIx} (h : (s.port p).masked = true) (code : BitVec 5) :
    s.decideApproach p code = .deny .masked := if_pos h

section Unmasked
variable {s : State} {p : PortIx} (hm : (s.port p).masked = false)
include hm

theorem State.decideApproach_of_fault (h : (s.port p).state.deniesFault = true) (code : BitVec 5) :
    s.decideApproach p code = .deny .fault := by
  rw [State.decideApproach, if_neg (Bool.eq_false_iff.1 hm), if_pos h]

theorem State.decideApproach_of_undriven (h : ¬(s.port p).state.deniesFault = true) {code : BitVec 5}
    (hd : ∀ a, code = carCode a → s.driven a = false) : s.decideApproach p code = .deny .noCar := by
  rw [State.decideApproach, if_neg (Bool.eq_false_iff.1 hm), if_neg h]
  split
  case h_1 => rfl
  case h_2 a ha => rw [if_neg (Bool.eq_false_iff.1 (hd a (carCode_of_carOf ha)))]

theorem State.decideApproach_of_driven (h : ¬(s.port p).state.deniesFault = true) {a : CarIx} (hd : s.driven a = true) :
    s.decideApproach p (carCode a) = s.decideCar p a := by
  rw [State.decideApproach, if_neg (Bool.eq_false_iff.1 hm), if_neg h, carOf_carCode]
  exact if_pos hd

end Unmasked

/-- A grant is of a driven car, with every check passed by (R117, R118). -/
theorem State.decideCar_of_grant {s : State} {p : PortIx} {code : BitVec 5} (h : s.decideApproach p code = .grant) :
    ∃ a, carOf code.toNat = some a ∧ s.decideCar p a = .grant := by
  unfold State.decideApproach at h
  split at h
  case isTrue => cases h
  case isFalse =>
    split at h
    case isTrue => cases h
    case isFalse =>
      split at h
      case h_1 => cases h
      case h_2 a ha =>
        split at h
        case isTrue => exact ⟨a, ha, h⟩
        case isFalse => cases h

/-! ### What a decision does -/

theorem State.approach_of_grant {s : State} {p : PortIx} {code : BitVec 5} {a : CarIx}
    (h : s.decideApproach p code = .grant) (ha : carOf code.toNat = some a) :
    s.approach p code = s.grantCar p code a := by
  rw [State.approach, h, ha]

theorem State.approach_of_refused {s : State} {p : PortIx} {code : BitVec 5} (h : s.decideApproach p code ≠ .grant) :
    s.approach p code = s.refuseCar p code (s.decideApproach p code) := by
  unfold State.approach
  split
  case h_1 hg _ | h_2 hg _ => exact absurd hg h
  case h_3 hp => rw [hp]
  case h_4 hd => rw [hd]

/-- A refusal is written down and counted, and the port is asked to return (R121, R122). -/
theorem State.refuseCar_heard (s : State) (p : PortIx) (code : BitVec 5) (v : Verdict) :
    (s.heard p).refuseCar p code v = { s with ports := s.ports.set p (Port.returned { s.port p with
      moduleSending := false, lastDecision := some ⟨code, v⟩
      counters := match v with
        | .grant => { (s.port p).counters with grant := raise16 (s.port p).counters.grant }
        | .pass => (s.port p).counters
        | .deny _ => { (s.port p).counters with deny := raise16 (s.port p).counters.deny } }) } := by
  unfold State.refuseCar State.recordDecision
  rw [State.requestReturn_eq, State.modPort_modPort]
  exact State.modPort_heard s p _

theorem Port.issue_lastDecision (q : Port) (m : HubMsg) : (q.issue m).lastDecision = q.lastDecision := by
  rw [Port.issue_eq]

theorem Port.returned_lastDecision (q : Port) : q.returned.lastDecision = q.lastDecision := by
  unfold Port.returned
  split
  · exact Port.issue_lastDecision q _
  · split <;> rfl

theorem State.recordDecision_lastDecision (s : State) (p : PortIx) (code : BitVec 5) (v : Verdict) :
    ((s.recordDecision p code v).port p).lastDecision = some ⟨code, v⟩ := by
  rw [State.recordDecision, State.port_modPort, if_pos rfl]

theorem State.requestReturn_lastDecision (s : State) (p : PortIx) :
    ((s.requestReturn p).port p).lastDecision = (s.port p).lastDecision := by
  rw [State.requestReturn_eq, State.port_modPort, if_pos rfl, Port.returned_lastDecision]

theorem State.countThrow_lastDecision (s : State) (p : PortIx) :
    ((s.countThrow p).port p).lastDecision = (s.port p).lastDecision := by
  have hthrows : ((s.modPort p fun q => { q with throws := raise16 q.throws }).port p).lastDecision =
      (s.port p).lastDecision := by rw [State.port_modPort, if_pos rfl]
  unfold State.countThrow
  dsimp only
  split <;> exact hthrows

theorem State.requestThrow_lastDecision (s : State) (p : PortIx) :
    ((s.requestThrow p).port p).lastDecision = (s.port p).lastDecision := by
  unfold State.requestThrow
  split
  case h_1 =>
    rw [State.countThrow_lastDecision, State.port_modPort, if_pos rfl]
    exact Port.issue_lastDecision _ _
  case h_2 => rw [State.port_modPort, if_pos rfl]
  all_goals rfl

/-- Every decision is written down with the car code as received (R122). -/
theorem State.approach_lastDecision (s : State) (p : PortIx) (code : BitVec 5) :
    ((s.approach p code).port p).lastDecision = some ⟨code, s.decideApproach p code⟩ := by
  by_cases hg : s.decideApproach p code = .grant
  · obtain ⟨a, ha, -⟩ := State.decideCar_of_grant hg
    rw [State.approach_of_grant hg ha, State.grantCar, State.requestThrow_lastDecision, State.recordDecision_lastDecision, hg]
  · rw [State.approach_of_refused hg, State.refuseCar, State.requestReturn_lastDecision, State.recordDecision_lastDecision]

/-- Settles O47: the decision does not depend on the end of the message; its checks are those of R117 in their order, and what
a refusal does is to write down, to count and to ask for the return. -/
theorem approachesAreDecidedByTheFirstCheckThatHolds : Obligations.ApproachesAreDecidedByTheFirstCheckThatHolds := by
  unfold Obligations.ApproachesAreDecidedByTheFirstCheckThatHolds
  intro p code s h hr ho
  have hrefused : ∀ v, v ≠ .grant → s.decideApproach p code = v → (s.heard p).approach p code =
      (s.heard p).refuseCar p code v := fun v hv hd => by
    rw [State.approach_of_refused (by rw [State.decideApproach_heard, hd]; exact hv), State.decideApproach_heard, hd]
  refine ⟨_, _, rfl, exec_approach_of_switch h hr ho code, ?_, fun hm => State.decideApproach_of_masked hm code,
    fun hm hf => State.decideApproach_of_fault hm ((PortState.deniesFault_iff _).2 hf) code,
    fun hm h1 h2 h3 h4 h5 => ?_, fun hv => ?_, fun r hv => ?_⟩
  · rw [State.approach_lastDecision, State.decideApproach_heard]
  · have hn : ¬(s.port p).state.deniesFault = true := by
      rw [PortState.deniesFault_iff]
      rintro (hf | hf | hf | hf | hf)
      exacts [h1 hf, h2 hf, h3 hf, h4 hf, h5 hf]
    refine ⟨fun hd => State.decideApproach_of_undriven hm hn hd, fun a ha hd => ?_⟩
    rw [ha, State.decideApproach_of_driven hm hn hd, State.decideCar_eq]
  · rw [hrefused .pass (fun e => nomatch e) hv, State.refuseCar_heard, hv]
  · rw [hrefused (.deny r) (fun e => nomatch e) hv, State.refuseCar_heard, hv]

end Sys2Proof.Machine

/-! How entries leave a zone's list (R115), and what guards, exits and expiries make of a zone and of the port concerned (R123 to
R128, R136); O49. -/

namespace Sys2Proof.Machine

/-! ### Entries that leave -/

theorem Port.issue_counters (q : Port) (m : HubMsg) : (q.issue m).counters = q.counters := by rw [Port.issue_eq]

theorem Port.returned_counters (q : Port) : q.returned.counters = q.counters := by
  unfold Port.returned
  split
  · exact Port.issue_counters q _
  · split <;> rfl

theorem State.returnIfDone_eq (s : State) (z : ZoneIx) (p : PortIx) : s.returnIfDone z p = s.modPort p fun q =>
    if q.role = .switch ∧ (s.zone z).holds p = false then q.returned else q := by
  unfold State.returnIfDone
  split
  case isTrue h => rw [State.requestReturn_eq]; exact State.modPort_congr (if_pos h).symm
  case isFalse h => exact (State.modPort_of_fixed (if_neg h)).symm

/-- An entry leaves its list, and its port's record changes: the return where it is due, and the counter (R115). -/
theorem State.removeEntry_eq {s : State} {z : ZoneIx} {k : Nat} {e : Entry} (he : (s.zone z).entries[k]? = some e)
    (count : Counters → Counters) : s.removeEntry z k count =
      (s.modZone z fun x => x.without k).modPort e.port fun q =>
        { (if q.role = .switch ∧ ((s.zone z).without k).holds e.port = false then q.returned else q) with
          counters := count q.counters } := by
  have hzone : (s.modZone z fun x => x.without k).zone z = (s.zone z).without k := by rw [State.zone_modZone, if_pos rfl]
  unfold State.removeEntry
  rw [he]
  dsimp only
  rw [State.returnIfDone_eq, State.modPort_modPort, hzone]
  refine State.modPort_congr ?_
  split
  · rw [Port.returned_counters]
  · rfl

theorem Zone.holds_eq_false_iff (x : Zone) (p : PortIx) : x.holds p = false ↔ ∀ e ∈ x.entries, e.port ≠ p := by
  simp [Zone.holds]

/-- The entry at a place leaves as R115 says. -/
theorem State.removeEntry_entryLeaves {s : State} {z : ZoneIx} {k : Nat} {e : Entry}
    (he : (s.zone z).entries[k]? = some e) (count : Counters → Counters) :
    s.EntryLeaves (s.removeEntry z k count) z k e count := by
  rw [State.removeEntry_eq he]
  refine ⟨_, rfl, rfl, fun q hq => ?_, fun hr hn => ?_, fun hr => ?_⟩
  · rw [State.port_modPort, if_neg hq.symm]
    rfl
  · have hgo : (s.port e.port).role = .switch ∧ ((s.zone z).without k).holds e.port = false :=
      ⟨hr, (Zone.holds_eq_false_iff _ _).2 hn⟩
    rw [State.port_modPort, if_pos rfl]
    exact congrArg (fun r : Port => { r with counters := count (s.port e.port).counters }) (if_pos hgo)
  · have hstay : ¬((s.port e.port).role = .switch ∧ ((s.zone z).without k).holds e.port = false) := fun ⟨hs, hh⟩ =>
      hr.elim (fun h => h hs) fun ⟨d, hd, hp⟩ => (Zone.holds_eq_false_iff _ _).1 hh d hd hp
    rw [State.port_modPort, if_pos rfl]
    exact congrArg (fun r : Port => { r with counters := count (s.port e.port).counters }) (if_neg hstay)

/-! ### Guards (R123) -/

theorem Zone.namesEntry_iff (x : Zone) (code : BitVec 5) : x.namesEntry code = true ↔
    ∃ a, code = carCode a ∧ ∃ e ∈ x.entries, e.car = some a := by
  unfold Zone.namesEntry
  split
  case h_1 hn =>
    refine ⟨fun h => (nomatch h), fun ⟨a, ha, _⟩ => ?_⟩
    rw [ha, carOf_carCode] at hn
    cases hn
  case h_2 a ha =>
    have hcode : ∀ b, code = carCode b → b = a := fun b hb => by
      rw [hb, carOf_carCode] at ha
      exact Option.some.inj ha
    refine ⟨fun h => ⟨a, carCode_of_carOf ha, by simpa using h⟩, fun ⟨b, hb, he⟩ => ?_⟩
    rw [hcode b hb] at he
    simpa using he

section Reader
variable {s : State} {p : PortIx} (h : s.resetHeld = false) (hr : (s.port p).role = .switch ∨ (s.port p).role = .delegated)
  (ho : (s.port p).state ≠ .off)
include h hr ho

theorem exec_guard_of_kept {code : BitVec 5} (hk : (∃ a, code = carCode a ∧
    ∃ e ∈ (s.zone (s.zoneOfPort p)).entries, e.car = some a) ∨ (s.port p).config.guardTime = 0) :
    exec (.guard p code) s = .next (s.heard p) := by
  refine exec_of_effect_eq h rfl rfl ?_
  rw [effect_guard, State.readerMessage_of_reader ho hr, State.takeGuard, State.zoneOfPort_heard, State.port_heard]
  dsimp only
  rcases hk with hk | hk
  · exact if_pos ((Zone.namesEntry_iff _ _).2 hk)
  · rw [if_pos hk, ite_self]

theorem exec_guard_of_set {code : BitVec 5}
    (hn : ∀ a, code = carCode a → ∀ e ∈ (s.zone (s.zoneOfPort p)).entries, e.car ≠ some a)
    (hg : (s.port p).config.guardTime ≠ 0) :
    exec (.guard p code) s = .next { s.heard p with zones := s.zones.set (s.zoneOfPort p) { s.zone (s.zoneOfPort p) with
      guard := some ⟨code, s.now + (s.port p).config.guardTime⟩ } } := by
  have hname : ¬((s.heard p).zone (s.zoneOfPort p)).namesEntry code = true := fun hc =>
    have ⟨a, ha, e, he, hea⟩ := (Zone.namesEntry_iff _ _).1 hc
    hn a ha e he hea
  refine exec_of_effect_eq h rfl rfl ?_
  rw [effect_guard, State.readerMessage_of_reader ho hr, State.takeGuard, State.zoneOfPort_heard, State.port_heard]
  dsimp only
  rw [if_neg hname, if_neg hg]
  rfl

/-! ### Exits (R125 to R127) -/

/-- A crossing exit that names a car removes the entry that it finds, or is swept. -/
theorem exec_exitCross_of_car (a : CarIx) : exec (.exitCross p (carCode a)) s = .next
    ((s.exitPlace (s.zoneOfPort p) fun now => Entry.foundByName now a).elim ((s.heard p).countSwept p) fun k =>
      (s.heard p).removeEntry (s.zoneOfPort p) k fun n => { n with completed := raise16 n.completed }) := by
  refine exec_of_effect_eq h rfl rfl ?_
  have hplace : ∀ z f, (s.heard p).exitPlace z f = s.exitPlace z f := fun _ _ => rfl
  rw [effect_exitCross, State.readerMessage_of_reader ho hr, State.takeExitCross, State.zoneOfPort_heard, carOf_carCode]
  dsimp only
  rw [hplace]
  cases s.exitPlace (s.zoneOfPort p) fun now => Entry.foundByName now a <;> rfl

/-- One without a readable code removes the port's entry that it finds, or is swept. -/
theorem exec_exitCross_of_unread {code : BitVec 5} (hc : carOf code.toNat = none) : exec (.exitCross p code) s = .next
    ((s.exitPlace (s.zoneOfPort p) fun now => Entry.foundByPort now p).elim ((s.heard p).countSwept p) fun k =>
      (s.heard p).removeEntry (s.zoneOfPort p) k fun n => { n with presumed := raise16 n.presumed }) := by
  refine exec_of_effect_eq h rfl rfl ?_
  have hplace : ∀ z f, (s.heard p).exitPlace z f = s.exitPlace z f := fun _ _ => rfl
  rw [effect_exitCross, State.readerMessage_of_reader ho hr, State.takeExitCross, State.zoneOfPort_heard, hc]
  dsimp only
  rw [hplace]
  cases s.exitPlace (s.zoneOfPort p) fun now => Entry.foundByPort now p <;> rfl

/-- A straight exit that names a car removes the entry that it finds. -/
theorem exec_exitStraight_of_car (a : CarIx) : exec (.exitStraight p (carCode a)) s = .next
    ((s.exitPlace (s.zoneOfPort p) fun now => Entry.foundByName now a).elim (s.heard p) fun k =>
      (s.heard p).removeEntry (s.zoneOfPort p) k fun n => { n with missed := raise16 n.missed }) := by
  refine exec_of_effect_eq h rfl rfl ?_
  have hplace : ∀ z f, (s.heard p).exitPlace z f = s.exitPlace z f := fun _ _ => rfl
  rw [effect_exitStraight, State.readerMessage_of_reader ho hr, State.takeExitStraight, State.zoneOfPort_heard, carOf_carCode]
  dsimp only
  rw [hplace]
  cases s.exitPlace (s.zoneOfPort p) fun now => Entry.foundByName now a <;> rfl

theorem exec_exitStraight_of_unread {code : BitVec 5} (hc : carOf code.toNat = none) :
    exec (.exitStraight p code) s = .next (s.heard p) := by
  refine exec_of_effect_eq h rfl rfl ?_
  rw [effect_exitStraight, State.readerMessage_of_reader ho hr, State.takeExitStraight, hc]

end Reader

theorem State.countSwept_heard (s : State) (p : PortIx) : (s.heard p).countSwept p = { s with
    ports := s.ports.set p { s.port p with
      moduleSending := false
      counters := { (s.port p).counters with swept := raise16 (s.port p).counters.swept } } } := by
  unfold State.countSwept
  rw [State.modPort_heard]

/-- The codes that name no car (00_scope.md, "Car codes"). -/
theorem carOf_of_unread {code : BitVec 5} (h : code = 0 ∨ 25 ≤ code.toNat) : carOf code.toNat = none := by
  rcases h with rfl | h
  · rfl
  · exact dif_neg fun hn => by omega

/-! ### The entry that an exit finds (R136) -/

theorem State.exitPlace_of_found {s : State} {z : ZoneIx} {found : Nat → Entry → Bool} {k : Nat} {e : Entry}
    (he : (s.zone z).entries[k]? = some e) (hf : found s.now e = true)
    (hn : ∀ (j : Nat) d, j < k → (s.zone z).entries[j]? = some d → found s.now d = false) :
    s.exitPlace z found = some k := by
  obtain ⟨hk, rfl⟩ := List.getElem?_eq_some_iff.1 he
  exact (State.exitPlace_eq_some_iff ..).2 ⟨hk, hf, fun j hj => hn j _ hj (List.getElem?_eq_getElem (hj.trans hk))⟩

theorem Entry.foundByName_of_older {now : Nat} {a : CarIx} {e : Entry} (ha : e.car = some a)
    (hn : ∀ q, e.replaced ≠ some ⟨now, q⟩) : Entry.foundByName now a e = true :=
  (Entry.foundByName_iff ..).2 ⟨ha, fun r hr ht => hn r.port (by rw [hr, ← ht])⟩

/-- An exit passes over the other cars' entries and over the entry of a supersede at its tick. -/
theorem Entry.foundByName_of_passed {now : Nat} {a : CarIx} {e : Entry}
    (h : e.car = some a → ∃ q, e.replaced = some ⟨now, q⟩) : Entry.foundByName now a e = false :=
  Bool.eq_false_iff.2 fun hf =>
    have ⟨ha, ht⟩ := (Entry.foundByName_iff ..).1 hf
    have ⟨_, hq⟩ := h ha
    ht _ hq rfl

theorem Entry.foundByPort_of_passed {now : Nat} {p : PortIx} {e : Entry}
    (h : e.port = p → e.replaced = some ⟨now, p⟩) : Entry.foundByPort now p e = false :=
  Bool.eq_false_iff.2 fun hf =>
    have ⟨hp, hn⟩ := (Entry.foundByPort_iff ..).1 hf
    hn (h hp)

/-! ### Expiries (R124, R128) -/

theorem effect_entryExpiry (z : ZoneIx) (k : Fin 3) (s : State) : effect (.entryExpiry z k) s = s.entryExpires z k.val := rfl

theorem effect_guardExpiry (z : ZoneIx) (s : State) : effect (.guardExpiry z) s = s.guardExpires z := rfl

theorem State.entryExpires_of_none {s : State} {z : ZoneIx} {k : Nat} (h : (s.zone z).entries[k]? = none) :
    s.entryExpires z k = s := by
  rw [State.entryExpires, h]

theorem State.entryExpires_of_some {s : State} {z : ZoneIx} {k : Nat} {e : Entry}
    (he : (s.zone z).entries[k]? = some e) : s.entryExpires z k =
      s.expire (some e.due) fun s => s.removeEntry z k fun n => { n with expired := raise16 n.expired } := by
  rw [State.entryExpires, he]

theorem State.guardExpires_of_none {s : State} {z : ZoneIx} (h : (s.zone z).guard = none) : s.guardExpires z = s := by
  rw [State.guardExpires, h]

theorem State.guardExpires_of_some {s : State} {z : ZoneIx} {g : Guard} (hg : (s.zone z).guard = some g) :
    s.guardExpires z = s.expire (some g.due) fun s => s.modZone z fun x => { x with guard := none } := by
  rw [State.guardExpires, hg]

/-- A deadline that runs to a later tick does not expire yet (R141). -/
theorem State.expire_of_later {s : State} {d : Nat} (h : s.now < d) (f : State → State) : s.expire (some d) f = s :=
  State.expire_of_early (fun _ he => Option.some.inj he ▸ h) f

/-- Settles O49: a reader's message acts on the zone of its port as the lemmas above say, the entry that an exit finds leaves
as R115 says, and so does one whose expiry has come. -/
theorem guardsAndExitsActOnTheZone : Obligations.GuardsAndExitsActOnTheZone := by
  unfold Obligations.GuardsAndExitsActOnTheZone
  refine ⟨fun p s h hr ho => ?_, fun z s h => ⟨fun k => ⟨fun hk => ?_, fun e he => ⟨fun hd => ?_, fun hd => ?_⟩⟩, fun hg => ?_,
    fun g hg => ⟨fun hd => ?_, fun hd => ?_⟩⟩⟩
  · refine ⟨_, _, rfl, rfl, fun code => ⟨fun hk => exec_guard_of_kept h hr ho hk, fun hn hg => exec_guard_of_set h hr ho hn hg⟩,
      fun a hn => ?_, fun a k e he ha hq hn => ?_, fun code hc => ?_⟩
    · have hplace := (s.exitPlace_eq_none_iff (s.zoneOfPort p) fun now => Entry.foundByName now a).2 fun e he =>
        Entry.foundByName_of_passed (hn e he)
      rw [exec_exitCross_of_car h hr ho, exec_exitStraight_of_car h hr ho, hplace, ← State.countSwept_heard]
      exact ⟨rfl, rfl⟩
    · have hplace := State.exitPlace_of_found (found := fun now => Entry.foundByName now a) he
        (Entry.foundByName_of_older ha hq) fun j d hj hd => Entry.foundByName_of_passed (hn j d hj hd)
      rw [exec_exitCross_of_car h hr ho, exec_exitStraight_of_car h hr ho, hplace, Option.elim_some, Option.elim_some]
      exact ⟨⟨_, rfl, State.removeEntry_entryLeaves (s := s.heard p) he _⟩,
        ⟨_, rfl, State.removeEntry_entryLeaves (s := s.heard p) he _⟩⟩
    · have hunread := carOf_of_unread hc
      rw [exec_exitStraight_of_unread h hr ho hunread, exec_exitCross_of_unread h hr ho hunread, ← State.countSwept_heard]
      refine ⟨rfl, fun hn => ?_, fun k e he hp hq hn => ?_⟩
      · rw [(s.exitPlace_eq_none_iff (s.zoneOfPort p) _).2 fun e he => Entry.foundByPort_of_passed (hn e he)]
        rfl
      · rw [State.exitPlace_of_found (found := fun now => Entry.foundByPort now p) he
          ((Entry.foundByPort_iff ..).2 ⟨hp, hq⟩) fun j d hj hd => Entry.foundByPort_of_passed (hn j d hj hd),
          Option.elim_some]
        exact ⟨_, rfl, State.removeEntry_entryLeaves (s := s.heard p) he _⟩
  · exact exec_of_effect_eq h rfl rfl (State.entryExpires_of_none hk)
  · exact exec_of_effect_eq h rfl rfl ((State.entryExpires_of_some he).trans (State.expire_of_later hd _))
  · exact ⟨_, exec_of_effect_eq h rfl rfl ((State.entryExpires_of_some he).trans (State.expire_of_reached hd _)),
      State.removeEntry_entryLeaves he _⟩
  · exact exec_of_effect_eq h rfl rfl (State.guardExpires_of_none hg)
  · exact exec_of_effect_eq h rfl rfl ((State.guardExpires_of_some hg).trans (State.expire_of_later hd _))
  · exact exec_of_effect_eq h rfl rfl ((State.guardExpires_of_some hg).trans (State.expire_of_reached hd _))

end Sys2Proof.Machine

/-! Supersedes (R116), throws (R101, R107) and what a grant makes of lists, latch and port (R119, R120, R136); O48. -/

namespace Sys2Proof.Machine

/-! ### The earlier entry of a car (R116) -/

/-- In lawful lists the search finds an entry of the car where one stands. -/
theorem State.ListsLawful.findEntry_eq {s : State} (h : s.ListsLawful) {a : CarIx} {z : ZoneIx} {k : Nat} {e : Entry}
    (he : (s.zone z).entries[k]? = some e) (ha : e.car = some a) : s.findEntry a = some (z, k) := by
  obtain ⟨hzone, hacross⟩ := h
  have hmem : e ∈ (s.zone z).entries := List.mem_of_getElem? he
  cases hf : s.findEntry a with
  | none => exact absurd ha ((s.findEntry_eq_none_iff a).1 hf z e hmem)
  | some yi =>
    obtain ⟨y, i⟩ := yi
    obtain ⟨d, hd, hda⟩ := State.findEntry_some hf
    obtain rfl : y = z := hacross y z d (List.mem_of_getElem? hd) e hmem (by rw [hda]; rfl) (hda.trans ha.symm)
    obtain ⟨-, -, -, -, hnodup, -⟩ := hzone y
    by_cases hik : i = k
    · rw [hik]
    · exact absurd hda (Entry.car_ne_of_eraseIdx hnodup he ha d (List.mem_eraseIdx_iff_getElem?.2 ⟨i, hik, hd⟩))

theorem State.supersede_of_carFree {s : State} {a : CarIx} (h : s.CarFree a) (p : PortIx) : s.supersede a p = s := by
  rw [State.supersede, (s.findEntry_eq_none_iff a).2 h]

/-- An earlier entry of another port leaves as R115 says. -/
theorem State.supersede_of_other {s : State} {a : CarIx} {p : PortIx} {z : ZoneIx} {k : Nat} {e : Entry}
    (hf : s.findEntry a = some (z, k)) (he : (s.zone z).entries[k]? = some e) (hp : e.port ≠ p) :
    s.supersede a p = s.removeEntry z k id := by
  have hport : ((s.zone z).entries[k]?).map (·.port) ≠ some p := by rw [he]; exact fun h => hp (Option.some.inj h)
  rw [State.supersede, hf]
  exact if_neg hport

/-- An earlier entry of the same port leaves its list. -/
theorem State.supersede_of_own {s : State} {a : CarIx} {p : PortIx} {z : ZoneIx} {k : Nat} {e : Entry}
    (hf : s.findEntry a = some (z, k)) (he : (s.zone z).entries[k]? = some e) (hp : e.port = p) :
    s.supersede a p = s.modZone z fun x => x.without k := by
  have hport : ((s.zone z).entries[k]?).map (·.port) = some p := by rw [he]; exact congrArg some hp
  rw [State.supersede, hf]
  exact if_pos hport

/-- A supersede does not change the port whose entry is to join (R116). -/
theorem State.supersede_port (s : State) (a : CarIx) (p : PortIx) : (s.supersede a p).port p = s.port p := by
  cases hf : s.findEntry a with
  | none => rw [State.supersede_of_carFree ((s.findEntry_eq_none_iff a).1 hf)]
  | some zk =>
    obtain ⟨z, k⟩ := zk
    obtain ⟨e, he, -⟩ := State.findEntry_some hf
    by_cases hp : e.port = p
    · rw [State.supersede_of_own hf he hp]
      rfl
    · obtain ⟨-, -, -, hother, -⟩ := State.removeEntry_entryLeaves he id
      rw [State.supersede_of_other hf he hp, hother p fun h => hp h.symm]

/-- The mark of the new entry names the port of the car's one earlier entry in the list (R136, log entry 31). -/
theorem State.OneEntry.replacing_eq {s : State} {a : CarIx} (h : s.OneEntry a) {z : ZoneIx} {e : Entry}
    (he : e ∈ (s.zone z).entries) (ha : e.car = some a) : s.replacing z (some a) = some ⟨s.now, e.port⟩ := by
  obtain ⟨d, hd, hda, hr⟩ := s.replacing_eq_some z a ⟨e, he, ha⟩
  rw [hr, h z z d hd e he hda ha]

/-! ### Throws (R101, R107) -/

/-- A throw is counted; from the threshold on, SERVICE_DUE is set. -/
theorem State.countThrow_eq (s : State) (p : PortIx) : s.countThrow p = { s with
    ports := s.ports.set p { s.port p with throws := raise16 (s.port p).throws }
    notices := if (s.port p).config.threshold ≠ 0 ∧ (s.port p).config.threshold ≤ raise16 (s.port p).throws then
      setFlag s.notices .serviceDue else s.notices
    lastPort := if (s.port p).config.threshold ≠ 0 ∧ (s.port p).config.threshold ≤ raise16 (s.port p).throws then
      some p else s.lastPort } := by
  have hthrows : ((s.modPort p fun q => { q with throws := raise16 q.throws }).port p).throws = raise16 (s.port p).throws := by
    rw [State.port_modPort, if_pos rfl]
  unfold State.countThrow
  dsimp only
  rw [hthrows]
  by_cases hdue : (s.port p).config.threshold ≠ 0 ∧ (s.port p).config.threshold ≤ raise16 (s.port p).throws
  · simp only [if_pos hdue]
    rfl
  · simp only [if_neg hdue]
    rfl

/-- From `s` to `t` only the record of port `p`, the notice flags and the port they name have changed. -/
def State.ActsAt (s t : State) (p : PortIx) : Prop :=
  ∃ q notices last, t = { s with ports := s.ports.set p q, notices := notices, lastPort := last }

theorem State.ActsAt.modPort (s : State) (p : PortIx) (f : Port → Port) : s.ActsAt (s.modPort p f) p := ⟨_, _, _, rfl⟩

theorem State.ActsAt.trans {s t u : State} {p : PortIx} (h : s.ActsAt t p) (k : t.ActsAt u p) : s.ActsAt u p := by
  obtain ⟨q, n, l, rfl⟩ := h
  obtain ⟨q', n', l', rfl⟩ := k
  refine ⟨q', n', l', ?_⟩
  dsimp only
  rw [Vector.set_set]

theorem State.ActsAt.countThrow (s : State) (p : PortIx) : s.ActsAt (s.countThrow p) p := ⟨_, _, _, s.countThrow_eq p⟩

theorem State.ActsAt.requestThrow (s : State) (p : PortIx) : s.ActsAt (s.requestThrow p) p := by
  unfold State.requestThrow
  split
  case h_1 => exact (State.ActsAt.modPort s p _).trans (.countThrow _ p)
  case h_2 => exact .modPort s p _
  all_goals exact ⟨s.port p, s.notices, s.lastPort, by rw [State.port, Fin.getElem_fin, Vector.set_getElem_self]⟩

/-- What the port's record, the flags and the port they name are then. -/
theorem State.ActsAt.eq {s t : State} {p : PortIx} (h : s.ActsAt t p) :
    t = { s with ports := s.ports.set p (t.port p), notices := t.notices, lastPort := t.lastPort } := by
  obtain ⟨q, n, l, rfl⟩ := h
  have hport : State.port { s with ports := s.ports.set p q, notices := n, lastPort := l } p = q := Vector.getElem_set_self _
  rw [hport]

/-- From STRAIGHT the flap is thrown across, and the throw is counted (R101). -/
theorem State.requestThrow_of_straight {s : State} {p : PortIx} (h : (s.port p).state = .straight) : s.requestThrow p = { s with
    ports := s.ports.set p { (s.port p).issue .throw with
      state := .throwing, extension := 0, returnPending := false, flapDue := none, flapAwaiting := true
      throws := raise16 (s.port p).throws }
    notices := if (s.port p).config.threshold ≠ 0 ∧ (s.port p).config.threshold ≤ raise16 (s.port p).throws then
      setFlag s.notices .serviceDue else s.notices
    lastPort := if (s.port p).config.threshold ≠ 0 ∧ (s.port p).config.threshold ≤ raise16 (s.port p).throws then
      some p else s.lastPort } := by
  have hport : (s.modPort p fun q => q.startMotion .throw .throwing).port p = (s.port p).startMotion .throw .throwing := by
    rw [State.port_modPort, if_pos rfl]
  have hconfig : ((s.port p).startMotion .throw .throwing).config = (s.port p).config := Port.issue_config _ _
  have hthrows : ((s.port p).startMotion .throw .throwing).throws = (s.port p).throws := by
    show ((s.port p).issue .throw).throws = _
    rw [Port.issue_eq]
  have hset : ∀ q, (s.modPort p fun q => q.startMotion .throw .throwing).ports.set p q = s.ports.set p q :=
    fun q => Vector.set_set ..
  rw [State.requestThrow, h]
  dsimp only
  rw [State.countThrow_eq, hport, hconfig, hthrows, hset]
  rfl

theorem State.requestThrow_of_throwing {s : State} {p : PortIx} (h : (s.port p).state = .throwing) :
    s.requestThrow p = { s with ports := s.ports.set p { s.port p with returnPending := false } } := by
  rw [State.requestThrow, h]
  rfl

theorem State.requestThrow_of_thrown {s : State} {p : PortIx} (h : (s.port p).state = .thrown) : s.requestThrow p = s := by
  rw [State.requestThrow, h]

/-! ### A grant -/

/-- A grant finds no conflict in the zone (R117 check 9). -/
theorem State.conflict_of_grant {s : State} {p : PortIx} {code : BitVec 5} (h : s.decideApproach p code = .grant) :
    (s.zone (s.zoneOfPort p)).conflict = false := by
  obtain ⟨a, -, ha⟩ := State.decideCar_of_grant h
  by_contra hc
  rw [Bool.not_eq_false] at hc
  rw [State.decideCar_eq, if_pos hc] at ha
  repeat' split at ha
  all_goals exact nomatch ha

/-- Where no conflict is flagged, an entry that leaves changes the list alone (R115). -/
theorem Zone.without_of_unflagged {x : Zone} (h : x.conflict = false) (k : Nat) :
    x.without k = { x with entries := x.entries.eraseIdx k } := by
  rw [Zone.without, h, Bool.false_and]

theorem State.appendEntry_eq (s : State) (z : ZoneIx) (car : Option CarIx) (p : PortIx) (r : Option Supersede) :
    s.appendEntry z car p r = { s with zones := s.zones.set z { s.zone z with
      entries := (s.zone z).entries ++ [⟨car, p, s.now + (s.port p).config.hold, r⟩] } } := rfl

/-- A grant asks for the throw with the decision written and counted, and no flag is set before (R119, R122). -/
theorem State.grantCar_throws (s : State) (p : PortIx) (code : BitVec 5) (a : CarIx) :
    ∃ w : State, s.grantCar p code a = w.requestThrow p ∧
      w.port p = { s.port p with
        lastDecision := some ⟨code, .grant⟩
        counters := { (s.port p).counters with grant := raise16 (s.port p).counters.grant } } ∧
      w.notices = s.notices ∧ w.lastPort = s.lastPort := by
  have hport : ∀ z r, (((s.disarm a).supersede a p).appendEntry z (some a) p r).port p = s.port p := fun _ _ =>
    (s.disarm a).supersede_port a p
  refine ⟨_, rfl, ?_, by simp, by simp⟩
  rw [State.recordDecision, State.port_modPort, if_pos rfl, hport]

/-- Once the entry has joined its list, a grant changes its port alone (R119). -/
theorem State.grantCar_acts (s : State) (p : PortIx) (code : BitVec 5) (a : CarIx) :
    (((s.disarm a).supersede a p).appendEntry (s.zoneOfPort p) (some a) p (s.replacing (s.zoneOfPort p) (some a))).ActsAt
      (s.grantCar p code a) p :=
  (State.ActsAt.modPort _ p _).trans (.requestThrow _ p)

/-- Settles O48: the supersede of the car's one earlier entry, the entry at the tail, and then what acts at the port alone. -/
theorem grantsEnterTheCarAndThrowTheFlap : Obligations.GrantsEnterTheCarAndThrowTheFlap := by
  unfold Obligations.GrantsEnterTheCarAndThrowTheFlap
  intro p a s h hr hl hstate hg
  have ho : (s.port p).state ≠ .off := by rcases hstate with hs | hs | hs <;> rw [hs] <;> exact fun e => nomatch e
  have hg' : (s.heard p).decideApproach p (carCode a) = .grant := (s.decideApproach_heard p _).trans hg
  have hexec := exec_approach_of_switch h hr ho (carCode a)
  rw [State.approach_of_grant hg' (carOf_carCode a)] at hexec
  obtain ⟨w, hw, hport, hnotices, hlast⟩ := (s.heard p).grantCar_throws p (carCode a) a
  have hacts := (s.heard p).grantCar_acts p (carCode a) a
  have hfind : ∀ {y k e}, (s.zone y).entries[k]? = some e → e.car = some a →
      ((s.heard p).disarm a).findEntry a = some (y, k) := fun he ha => hl.findEntry_eq he ha
  rw [State.port_heard] at hport
  rw [State.zoneOfPort_heard] at hacts
  refine ⟨s.replacing (s.zoneOfPort p) (some a), (s.heard p).disarm a, ((s.heard p).disarm a).supersede a p, _, hexec,
    fun e he ha => (hl.oneEntry a).replacing_eq he ha, fun hn => ?_, rfl, fun hn =>
      State.supersede_of_carFree (s := (s.heard p).disarm a) hn p,
    fun y k e he ha hp => ?_, fun y k e he ha hp => ?_, ?_, _, rfl, fun hs => ?_, fun hs => ?_, fun hs => ?_, fun ⟨hs, hdue⟩ => ?_,
    fun hn => ?_⟩
  · exact s.replacing_eq_none _ _ fun b hb => Option.some.inj hb ▸ hn
  · rw [State.supersede_of_other (hfind he ha) he hp]
    exact State.removeEntry_entryLeaves (s := (s.heard p).disarm a) he id
  · have hy : y = s.zoneOfPort p := by
      obtain ⟨-, -, -, -, -, hzone⟩ := hl.1 y
      rw [← (hzone e (List.mem_of_getElem? he)).1, hp]
    have hconflict : (s.zone y).conflict = false := hy ▸ State.conflict_of_grant hg
    rw [State.supersede_of_own (hfind he ha) he hp]
    exact congrArg (fun x => { (s.heard p).disarm a with zones := s.zones.set y x }) (Zone.without_of_unflagged hconflict k)
  · refine hacts.eq.trans ?_
    have hhold : (((s.heard p).disarm a).supersede a p).now + ((((s.heard p).disarm a).supersede a p).port p).config.hold =
        s.now + (s.port p).config.hold := by
      have hnow : (((s.heard p).disarm a).supersede a p).now = (s.heard p).now := by simp
      have hself : ((s.heard p).disarm a).port p = (s.heard p).port p := rfl
      rw [State.supersede_port, hnow, hself, State.port_heard]
      rfl
    rw [State.appendEntry_eq, hhold]
    rfl
  · rw [hw, State.requestThrow_of_straight (by rw [hport]; exact hs), hport]
    exact Vector.getElem_set_self _
  · rw [hw, State.requestThrow_of_throwing (by rw [hport]; exact hs), hport]
    exact Vector.getElem_set_self _
  · rw [hw, State.requestThrow_of_thrown (by rw [hport]; exact hs), hport]
  · rw [hw, State.requestThrow_of_straight (by rw [hport]; exact hs), hport, hnotices]
    exact ⟨if_pos hdue, if_pos hdue⟩
  · rcases hstate with hs | hs | hs
    · rw [hw, State.requestThrow_of_straight (by rw [hport]; exact hs), hport, hnotices, hlast]
      exact ⟨if_neg fun hdue => hn ⟨hs, hdue⟩, if_neg fun hdue => hn ⟨hs, hdue⟩⟩
    · rw [hw, State.requestThrow_of_throwing (by rw [hport]; exact hs)]
      exact ⟨hnotices, hlast⟩
    · rw [hw, State.requestThrow_of_thrown (by rw [hport]; exact hs)]
      exact ⟨hnotices, hlast⟩

end Sys2Proof.Machine

/-! What a self-throw makes of lists, latches and the port's counts (R107, R116, R129, R130, R136); O50. -/

namespace Sys2Proof.Machine

/-! ### Step 1: the supersede and the latch -/

/-- Lists and ports do not look at the cars when an entry leaves (R115). -/
theorem State.EntryLeaves.with_cars {s t : State} {z : ZoneIx} {k : Nat} {e : Entry} {count : Counters → Counters}
    (h : s.EntryLeaves t z k e count) (c : Vector Car 24) :
    State.EntryLeaves { s with cars := c } { t with cars := c } z k e count := by
  obtain ⟨rest, hrest, ht, hports⟩ := h
  exact ⟨rest, hrest, congrArg (fun u : State => { u with cars := c }) ht, hports⟩

/-- At a DELEGATED port, which has no flap of the hub's to return, a supersede is always the leaving of R115. -/
theorem State.supersede_entryLeaves {s : State} {a : CarIx} {p : PortIx} {z : ZoneIx} {k : Nat} {e : Entry}
    (hr : (s.port p).role ≠ .switch) (hf : s.findEntry a = some (z, k)) (he : (s.zone z).entries[k]? = some e) :
    s.EntryLeaves (s.supersede a p) z k e id := by
  by_cases hp : e.port = p
  · rw [State.supersede_of_own hf he hp]
    exact ⟨_, rfl, rfl, fun _ _ => rfl, fun hs => absurd hs (hp ▸ hr), fun _ => rfl⟩
  · rw [State.supersede_of_other hf he hp]
    exact State.removeEntry_entryLeaves he id

/-- Beside the supersede, step 1 writes the cars alone (R129). -/
theorem State.selfThrowCar_some (s : State) (p : PortIx) (a : CarIx) :
    s.selfThrowCar p (some a) = { s.supersede a p with cars := (s.selfThrowCar p (some a)).cars } := by
  unfold State.selfThrowCar
  dsimp only
  split <;> rfl

/-- A driven car loses its latch; no other car changes (R129). -/
theorem State.selfThrowCar_car (s : State) (p : PortIx) (car : Option CarIx) (b : CarIx) :
    (s.selfThrowCar p car).car b =
      { s.car b with armed := (s.car b).armed && !(decide (car = some b) && s.driven b) } := by
  have hkeep : (decide (car = some b) && s.driven b) = false →
      s.car b = { s.car b with armed := (s.car b).armed && !(decide (car = some b) && s.driven b) } := fun h => by
    rw [h, Bool.not_false, Bool.and_true]
  cases car with
  | none => exact hkeep rfl
  | some a =>
    have hcar : ∀ c, (s.supersede a p).car c = s.car c := fun c => by simp
    have hdriven : (s.supersede a p).driven a = s.driven a :=
      congrArg Option.isSome (State.drivingSlot_congr a (by rw [hcar]) (by rw [hcar]) (by simp) (by simp))
    unfold State.selfThrowCar
    dsimp only
    rw [hdriven]
    split
    case isTrue hd =>
      rw [State.disarm, State.car_modCar]
      split
      case isTrue hab =>
        rw [hcar, ← hab, hd, decide_eq_true rfl, Bool.and_true, Bool.not_true, Bool.and_false]
      case isFalse hab =>
        have hne : some a ≠ some b := fun e => hab (Option.some.inj e)
        rw [hcar]
        exact hkeep (by rw [decide_eq_false hne, Bool.false_and])
    case isFalse hd =>
      rw [hcar]
      refine hkeep ?_
      by_cases hab : some a = some b
      · rw [← Option.some.inj hab, Bool.eq_false_iff.2 hd, Bool.and_false]
      · rw [decide_eq_false hab, Bool.false_and]

/-! ### Steps 2 and 3: the conflict and the displacement -/

theorem State.markConflict_of_other {s : State} {p : PortIx} {z : ZoneIx} (h : ∃ e ∈ (s.zone z).entries, e.port ≠ p) :
    s.markConflict p z = { s with
      zones := s.zones.set z { s.zone z with conflict := true }
      notices := setFlag s.notices .zoneConflict, lastPort := some p } := by
  rw [State.markConflict, if_pos ((Zone.holdsOther_iff _ _).2 h)]
  rfl

theorem State.markConflict_of_own {s : State} {p : PortIx} {z : ZoneIx} (h : ∀ e ∈ (s.zone z).entries, e.port = p) :
    s.markConflict p z = s :=
  if_neg fun hh =>
    have ⟨e, he, hp⟩ := (Zone.holdsOther_iff _ _).1 hh
    hp (h e he)

/-- A conflict leaves the list as it is (R130). -/
theorem State.markConflict_entries (s : State) (p : PortIx) (z : ZoneIx) :
    ((s.markConflict p z).zone z).entries = (s.zone z).entries := by
  unfold State.markConflict
  split
  · show ((s.modZone z fun x => { x with conflict := true }).zone z).entries = _
    rw [State.zone_modZone, if_pos rfl]
  · rfl

theorem State.displace_of_room {s : State} {z : ZoneIx} (h : (s.zone z).entries.length < 3) : s.displace z = s :=
  if_neg (Nat.not_le.2 h)

/-- The oldest of three entries leaves as R115 says (R129 step 3). -/
theorem State.displace_entryLeaves {s : State} {z : ZoneIx} {e : Entry} (h : 3 ≤ (s.zone z).entries.length)
    (he : (s.zone z).entries.head? = some e) : s.EntryLeaves (s.displace z) z 0 e id := by
  rw [State.displace, if_pos h]
  rw [List.head?_eq_getElem?] at he
  exact State.removeEntry_entryLeaves he id

/-! ### The section's settings -/

theorem Port.returned_config (q : Port) : q.returned.config = q.config := by
  unfold Port.returned
  split
  · exact Port.issue_config q _
  · split <;> rfl

/-- No section's settings change when an entry leaves (R115). -/
theorem State.EntryLeaves.config {s t : State} {z : ZoneIx} {k : Nat} {e : Entry} {count : Counters → Counters}
    (h : s.EntryLeaves t z k e count) (q : PortIx) : (t.port q).config = (s.port q).config := by
  obtain ⟨rest, -, -, hother, hreturn, hstay⟩ := h
  by_cases hq : q = e.port
  · rw [hq]
    by_cases hr : (s.port e.port).role = .switch ∧ ∀ d ∈ rest, d.port ≠ e.port
    · rw [hreturn hr.1 hr.2]
      exact Port.returned_config _
    · rw [hstay ?_]
      by_contra hn
      rw [not_or, not_not] at hn
      exact hr ⟨hn.1, fun d hd hp => hn.2 ⟨d, hd, hp⟩⟩
  · rw [hother q hq]

theorem State.displace_config (s : State) (z : ZoneIx) (q : PortIx) : ((s.displace z).port q).config = (s.port q).config := by
  by_cases h : 3 ≤ (s.zone z).entries.length
  · obtain ⟨e, he⟩ : ∃ e, (s.zone z).entries.head? = some e :=
      Option.isSome_iff_exists.1 (List.isSome_head?.2 (List.ne_nil_of_length_pos (by omega)))
    exact (State.displace_entryLeaves h he).config q
  · rw [State.displace_of_room (Nat.not_le.1 h)]

theorem State.selfThrowCar_port (s : State) (p : PortIx) (car : Option CarIx) :
    (s.selfThrowCar p car).port p = s.port p := by
  cases car with
  | none => rfl
  | some a =>
    rw [State.selfThrowCar_some]
    exact s.supersede_port a p

theorem State.markConflict_port (s : State) (p : PortIx) (z : ZoneIx) (q : PortIx) :
    (s.markConflict p z).port q = s.port q := by simp

/-! ### A self-throw -/

/-- The throw counted at a port that has been heard (R107). -/
theorem State.countThrow_heard (s : State) (p : PortIx) : (s.heard p).countThrow p = { s with
    ports := s.ports.set p { s.port p with moduleSending := false, throws := raise16 (s.port p).throws }
    notices := if (s.port p).config.threshold ≠ 0 ∧ (s.port p).config.threshold ≤ raise16 (s.port p).throws then
      setFlag s.notices .serviceDue else s.notices
    lastPort := if (s.port p).config.threshold ≠ 0 ∧ (s.port p).config.threshold ≤ raise16 (s.port p).throws then
      some p else s.lastPort } := by
  have hset : ∀ q, (s.heard p).ports.set p q = s.ports.set p q := fun q => Vector.set_set ..
  rw [State.countThrow_eq, State.port_heard, hset]
  rfl

theorem State.selfThrowCar_of_carFree {s : State} {car : Option CarIx} (h : ∀ a, car = some a → s.CarFree a) (p : PortIx) :
    s.selfThrowCar p car = { s with cars := (s.selfThrowCar p car).cars } := by
  cases car with
  | none => rfl
  | some a =>
    have hstep := s.selfThrowCar_some p a
    rwa [State.supersede_of_carFree (h a rfl)] at hstep

theorem State.selfThrowCar_entryLeaves {s : State} {a : CarIx} {p : PortIx} {z : ZoneIx} {k : Nat} {e : Entry}
    (hr : (s.port p).role ≠ .switch) (hf : s.findEntry a = some (z, k)) (he : (s.zone z).entries[k]? = some e) :
    State.EntryLeaves { s with cars := (s.selfThrowCar p (some a)).cars } (s.selfThrowCar p (some a)) z k e id := by
  have hleaves := (State.supersede_entryLeaves hr hf he).with_cars (s.selfThrowCar p (some a)).cars
  rwa [← State.selfThrowCar_some] at hleaves

theorem exec_selfThrow_of_delegated {s : State} {p : PortIx} (h : s.resetHeld = false) (hr : (s.port p).role = .delegated)
    (ho : (s.port p).state ≠ .off) (code : BitVec 5) :
    exec (.selfThrow p code) s = .next ((s.heard p).takeSelfThrow p code) := by
  rw [exec_of_effect h rfl rfl, effect_selfThrow, State.roleMessage_of_role ho hr]

/-- Settles O50: the steps of R129 one after the other, each by its lemma above; none of them touches the time or the section's
settings, from which the entry's expiry is taken. -/
theorem selfThrowsAreAlwaysEntered : Obligations.SelfThrowsAreAlwaysEntered := by
  unfold Obligations.SelfThrowsAreAlwaysEntered
  intro p code s h hr ho hl
  have hcount := s.countThrow_heard p
  have hport : ((s.heard p).countThrow p).port p =
      { s.port p with moduleSending := false, throws := raise16 (s.port p).throws } := by
    rw [hcount]
    exact Vector.getElem_set_self _
  have hzone : ∀ y, ((s.heard p).countThrow p).zone y = s.zone y := fun y => by rw [hcount]; rfl
  have hfind : ∀ a, ((s.heard p).countThrow p).findEntry a = s.findEntry a := fun a => by rw [hcount]; rfl
  have hrole : (((s.heard p).countThrow p).port p).role ≠ .switch := by rw [hport]; simp only [hr]; exact fun e => nomatch e
  generalize hcar : carOf code.toNat = car
  refine ⟨s.zoneOfPort p, car, s.replacing (s.zoneOfPort p) car, (s.heard p).countThrow p,
    ((s.heard p).countThrow p).selfThrowCar p car,
    (((s.heard p).countThrow p).selfThrowCar p car).markConflict p (s.zoneOfPort p),
    ((((s.heard p).countThrow p).selfThrowCar p car).markConflict p (s.zoneOfPort p)).displace (s.zoneOfPort p), rfl,
    fun a => ⟨fun ha => carCode_of_carOf (hcar.trans ha), fun ha => ?_⟩, fun a ha e he hea => ?_,
    State.replacing_eq_none s _ car, ?_, fun hdue => ?_, fun hdue => ?_, fun hn => ?_, fun a y k e ha he hea => ?_, fun b => ?_,
    State.markConflict_of_other, State.markConflict_of_own, fun hroom => ?_, fun e hfull he => ?_, ?_⟩
  · rw [← hcar, ha, carOf_carCode]
  · rw [ha, (hl.oneEntry a).replacing_eq he hea]
  · rw [hcount]
  · rw [hcount]
    exact ⟨if_pos hdue, if_pos hdue⟩
  · have hnot : ¬((s.port p).config.threshold ≠ 0 ∧ (s.port p).config.threshold ≤ raise16 (s.port p).throws) :=
      fun ⟨h1, h2⟩ => hdue.elim h1 fun h3 => Nat.not_lt.2 h2 h3
    rw [hcount]
    exact ⟨if_neg hnot, if_neg hnot⟩
  · exact State.selfThrowCar_of_carFree (fun a ha y e he => hn a ha y e (hzone y ▸ he)) p
  · rw [ha]
    exact State.selfThrowCar_entryLeaves hrole ((hfind a).trans (hl.findEntry_eq he hea)) (by rw [hzone]; exact he)
  · rw [State.selfThrowCar_car, hcount]
    rfl
  · exact State.displace_of_room (by rw [State.markConflict_entries]; exact hroom)
  · refine State.displace_entryLeaves ?_ ?_ <;> rw [State.markConflict_entries]
    exacts [hfull, he]
  · rw [exec_selfThrow_of_delegated h hr ho, State.takeSelfThrow, State.zoneOfPort_heard, hcar]
    dsimp only
    have hnow : (((((s.heard p).countThrow p).selfThrowCar p car).markConflict p (s.zoneOfPort p)).displace
        (s.zoneOfPort p)).now = (s.heard p).now := by simp
    rw [State.appendEntry_eq, State.displace_config, State.markConflict_port, State.selfThrowCar_port, hport, hnow]
    rfl

end Sys2Proof.Machine


/-! A request on the console link: its assembly word by word, its interruption, and the answer to one that is not executed (R152 to
R154); O12, O16 and O18. -/

namespace Sys2Proof.Machine

/-! ### The console's fields do not concern the rails -/

/-- The state `s` with the console's fields of `c`: the return window, the request under assembly, the replies, the requests
dropped, the notice flags and the counter of free values. -/
def State.withConsole (s c : State) : State :=
  { s with
    returnWindow := c.returnWindow, assembly := c.assembly, replies := c.replies, dropped := c.dropped
    notices := c.notices, free := c.free }

theorem State.position_withConsole (s c : State) (x : LineItem) :
    (s.withConsole c).position x = (s.position x).withConsole c := by
  unfold State.position State.fallDue State.sharing State.withConsole
  dsimp only
  split_ifs <;> rfl

theorem State.freePosition_withConsole (s c : State) : (s.withConsole c).freePosition = s.freePosition.withConsole c := by
  unfold State.freePosition
  exact (if_congr Iff.rfl rfl (State.position_withConsole { s with insertionQueue := (takeFree s.insertionQueue).2 } c _)).trans
    (apply_ite (State.withConsole · c) _ _ _).symm

theorem State.writeRace_withConsole (s c : State) (race : RaceState) (e : Bool) :
    (s.withConsole c).writeRace race e = (s.writeRace race e).withConsole c := by
  unfold State.writeRace State.laneOpen State.withConsole
  dsimp only
  split_ifs <;> rfl

theorem State.cycleRun_withConsole (s c : State) : (s.withConsole c).cycleRun = s.cycleRun.withConsole c := by
  unfold State.cycleRun
  rw [show (s.withConsole c).part = s.part from rfl]
  split <;> rfl

/-- A request dropped concerns no free position, and no free position the request. -/
theorem State.dropRequest_freePosition (s : State) : s.dropRequest.freePosition = s.freePosition.dropRequest := by
  have h := s.freePosition_withConsole s.dropRequest
  refine h.trans ?_
  rw [s.freePosition_eq]
  rfl

/-- A reply that joins the queue concerns no free position, and no free position the reply. -/
theorem State.queueReply_freePosition (s : State) (r : Reply) :
    (s.queueReply r).freePosition = s.freePosition.queueReply r := by
  have h := s.freePosition_withConsole (s.queueReply r)
  refine h.trans ?_
  rw [s.freePosition_eq]
  rfl

/-! ### A request word by word -/

/-- A free position where a request is under assembly is a free position where none is. -/
theorem State.freePosition_assembling (s : State) (a b : Option Assembly) :
    State.freePosition { s with assembly := a } = { State.freePosition { s with assembly := b } with assembly := a } := by
  have h := State.freePosition_withConsole { s with assembly := b } { s with assembly := a }
  refine h.trans ?_
  rw [State.freePosition_eq { s with assembly := b }]
  rfl

/-- What a free position changes where a request is under assembly, and that a FILL frame would change the same (R6, R152). -/
theorem State.freePosition_assembly (s : State) (r : Assembly) (h : s.resetHeld = false) :
    ∃ t, State.freePosition { s with rxBits := [], returnWindow := [], assembly := some r } = t ∧ t = { s with
        rxBits := [], returnWindow := [], assembly := some r, insertionQueue := t.insertionQueue
        railOut := t.railOut, window := t.window, closing := t.closing, waitingLine := t.waitingLine } ∧
      ∃ u, exec .fillFrame { s with assembly := none } = .next u ∧ t = { u with assembly := some r } :=
  ⟨_, rfl, State.freePosition_eq _, _, exec_fillFrame (s := { s with assembly := none }) h,
    State.freePosition_assembling { s with rxBits := [], returnWindow := [] } (some r) none⟩

theorem exec_headFrame {s : State} (h : s.resetHeld = false) (code : BitVec 6) (count : BitVec 2) (arg : BitVec 8) :
    exec (.headFrame code count arg) s = .next (s.arriveOther.beginRequest ⟨code, count, arg, []⟩) :=
  exec_of_effect h rfl rfl

theorem exec_dataFrame {s : State} (h : s.resetHeld = false) (w : Word16) :
    exec (.dataFrame w) s = .next (s.arrive.dataFrame w) :=
  exec_of_effect h rfl rfl

/-- A HEAD frame that announces data begins its request (R152). -/
theorem State.beginRequest_of_data (s : State) {r : Assembly} (h : r.count ≠ 0) :
    s.beginRequest r = State.freePosition { s with assembly := some r } := if_neg h

theorem State.dataFrame_of_none {s : State} (h : s.assembly = none) (w : Word16) : s.dataFrame w = s.freePosition := by
  unfold State.dataFrame
  rw [h]

/-- A data word that is not the last (R152). -/
theorem State.dataFrame_of_some {s : State} {r : Assembly} (h : s.assembly = some r) {w : Word16}
    (hl : r.words.length + 1 < r.count.toNat) :
    s.dataFrame w = State.freePosition { s with assembly := some { r with words := r.words ++ [w] } } := by
  unfold State.dataFrame
  rw [h]
  dsimp only
  rw [if_neg]
  simp only [List.length_append, List.length_singleton]
  omega

/-- Settles O16: a frame that assembles a request is a free position with the record written. -/
theorem requestsAreAssembledWordByWord : Obligations.RequestsAreAssembledWordByWord := by
  unfold Obligations.RequestsAreAssembledWordByWord
  intro s h
  refine ⟨fun code count arg hn ha => ?_, fun w ha => ?_, fun w r ha hl => ?_⟩
  · obtain ⟨t, ht, hsame, u, hu, htu⟩ := s.freePosition_assembly ⟨code, count, arg, []⟩ h
    have hs : { s with assembly := none } = s := by rw [← ha]
    rw [hs] at hu
    refine ⟨t, ?_, hsame, u, hu, htu⟩
    rw [exec_headFrame h, State.beginRequest_of_data _ hn, State.arriveOther_of_none ha, ← ht]
    rfl
  · rw [exec_dataFrame h, exec_fillFrame h, State.arriveOther_of_none ha, State.dataFrame_of_none (s := s.arrive) ha]
  · obtain ⟨t, ht, hrest⟩ := s.freePosition_assembly { r with words := r.words ++ [w] } h
    refine ⟨t, ?_, hrest⟩
    rw [exec_dataFrame h, State.dataFrame_of_some (s := s.arrive) ha hl, ← ht]
    rfl

/-! ### Requests that are not executed -/

/-- A code that spells no request has no defined data count (R157). -/
theorem requestCount_of_unframed {code : BitVec 6} {arg : BitVec 8} {d1 d2 d3 : Word16}
    (h : framedRequest code arg d1 d2 d3 = none) : requestCount code.toNat = none := by
  unfold framedRequest at h
  generalize code.toNat = n at h ⊢
  by_cases hn : 1 ≤ n ∧ n ≤ 29
  · obtain ⟨h1, h29⟩ := hn
    interval_cases n <;> cases h
  · have hout : n = 0 ∨ 30 ≤ n := by omega
    unfold requestCount
    rcases hout with h0 | h30
    · exact if_pos h0
    · simp only [List.mem_cons, List.not_mem_nil, or_false]
      repeat rw [if_neg (by omega)]

theorem State.complete_of_full {s : State} (h : 4 ≤ s.replies.length) (r : Assembly) : s.complete r = s.dropRequest :=
  if_pos h

theorem State.complete_of_unknown {s : State} (h : s.replies.length < 4) {r : Assembly}
    (hc : requestCount r.code.toNat = none) : s.complete r = s.queueReply ⟨r.code, .unknown, []⟩ := by
  unfold State.complete
  rw [if_neg (Nat.not_le.2 h), hc]

theorem State.complete_of_miscounted {s : State} (h : s.replies.length < 4) {r : Assembly} {n : Nat}
    (hc : requestCount r.code.toNat = some n) (hn : r.count.toNat ≠ n) :
    s.complete r = s.queueReply ⟨r.code, .malformed, []⟩ := by
  unfold State.complete
  rw [if_neg (Nat.not_le.2 h), hc]
  exact if_pos hn

/-- The state in which the position of a completing frame is given: beside a sequence in the insertion queue the counter of free
values has gone on by one (log entry 17). -/
def State.chosen (s : State) : State := { s with free := if s.insertionQueue.isEmpty then s.free else s.free + 1 }

/-- A completion `f` that a free position does not concern is taken after it or before it with one outcome. -/
theorem State.completeAtPosition_of_apart {s : State} {r : Assembly} {f : State → State}
    (hc : ∀ x : State, x.replies = s.replies → x.complete r = f x) (hf : ∀ x : State, (f x).freePosition = f x.freePosition) :
    s.completeAtPosition r = f s.chosen.freePosition := by
  unfold State.completeAtPosition State.chosen
  split
  case isTrue => exact hc _ (by simp)
  case isFalse =>
    dsimp only
    split
    · rw [hc { s with free := s.free + 1 } rfl, hf]
    · exact hc _ (by simp)

/-- The position of a frame that completes a request not executed is a FILL frame's, but for the counter of free values. -/
theorem State.chosen_freePosition (s : State) : s.chosen.freePosition =
    { s.freePosition with free := if s.insertionQueue.isEmpty then s.free else s.free + 1 } := by
  have h := s.freePosition_withConsole s.chosen
  refine h.trans ?_
  rw [s.freePosition_eq]
  rfl

/-- Settles O18: the completing frame completes the request at its position; a drop or an answer and the position do not concern
each other. -/
theorem unknownAndMiscountedRequestsAreAnswered : Obligations.UnknownAndMiscountedRequestsAreAnswered := by
  unfold Obligations.UnknownAndMiscountedRequestsAreAnswered
  intro frame r s t h hc ht
  have hc' := hc.imp_left (And.imp_right (And.imp_right And.left))
  obtain ⟨r', hcode, harg, hwords, hcount, he⟩ := exec_completing h hc'
  rw [exec_fillFrame (s := { s with assembly := none }) h, State.arriveOther_of_none rfl] at ht
  obtain ⟨v, hv⟩ : ∃ v : State, v = { s with rxBits := [], returnWindow := [], assembly := none } := ⟨_, rfl⟩
  obtain rfl : v.freePosition = t := hv ▸ Host.Outcome.next.inj ht
  have hreplies : v.replies = s.replies := by rw [hv]
  have hdropped : v.dropped = s.dropped := by rw [hv]
  have hnotices : v.notices = s.notices := by rw [hv]
  have hfree : v.chosen.freePosition = { v.freePosition with
      free := if s.insertionQueue.isEmpty then s.free else s.free + 1 } := by rw [State.chosen_freePosition, hv]
  have hposition : ∀ f : State → State, (∀ x : State, x.replies = v.replies → x.complete r' = f x) →
      (∀ x : State, (f x).freePosition = f x.freePosition) → exec frame s = .next (f v.chosen.freePosition) :=
    fun f hx hf => by rw [he, ← hv, State.completeAtPosition_of_apart hx hf]
  refine ⟨_, rfl, fun hl => ?_, fun hl hf => ?_, fun c hl hf hn => ?_⟩
  · rw [hposition State.dropRequest (fun x hx => State.complete_of_full (by rwa [hx, hreplies]) r')
      State.dropRequest_freePosition, hfree]
    simp [State.dropRequest, State.notify, raise16, hdropped, hnotices]
  · rw [hposition (State.queueReply · ⟨r.code, .unknown, []⟩)
      (fun x hx => hcode ▸ State.complete_of_unknown (by rwa [hx, hreplies]) (hcode ▸ requestCount_of_unframed hf))
      fun x => x.queueReply_freePosition _, hfree]
    simp [State.queueReply, hreplies]
  · rw [hposition (State.queueReply · ⟨r.code, .malformed, []⟩)
      (fun x hx => hcode ▸ State.complete_of_miscounted (by rwa [hx, hreplies]) (hcode ▸ requestCount_of_framed hf)
        (by rwa [hcount]))
      fun x => x.queueReply_freePosition _, hfree]
    simp [State.queueReply, hreplies]

end Sys2Proof.Machine

/-! A request that another frame interrupts (R154); O12. -/

namespace Sys2Proof.Machine

/-! ### The interruption -/

theorem State.interrupted_of_room {s : State} (h : s.replies.length < 4) (r : Assembly) :
    s.interrupted r = { s with assembly := none, replies := s.replies ++ [⟨r.code, .malformed, []⟩] } := if_pos h

theorem State.interrupted_of_full {s : State} (h : 4 ≤ s.replies.length) (r : Assembly) : s.interrupted r = { s with
    assembly := none, dropped := raise16 s.dropped, notices := setFlag s.notices .requestDropped } :=
  if_neg (Nat.not_lt.2 h)

theorem State.interrupt_eq_interrupted {s : State} {r : Assembly} (h : s.assembly = some r) :
    s.interrupt = s.interrupted r := by
  unfold State.interrupt
  rw [h]
  rcases Nat.lt_or_ge s.replies.length 4 with hl | hl
  · rw [State.interrupted_of_room hl]
    exact if_neg (Nat.not_le.2 hl)
  · rw [State.interrupted_of_full hl]
    exact if_pos hl

@[simp] theorem State.interrupted_assembly (s : State) (r : Assembly) : (s.interrupted r).assembly = none := by
  unfold State.interrupted
  split <;> rfl

/-- The frame that interrupts a request finds, once it has, the state with the request interrupted. -/
theorem State.arriveOther_interrupted {s : State} {r : Assembly} (h : s.assembly = some r) :
    s.arriveOther = (s.interrupted r).arriveOther := by
  rw [State.arriveOther_of_none (s.interrupted_assembly r), State.arriveOther,
    State.interrupt_eq_interrupted (s := s.arrive) h]
  rcases Nat.lt_or_ge s.replies.length 4 with hl | hl
  · rw [State.interrupted_of_room hl, State.interrupted_of_room (s := s.arrive) hl]
    rfl
  · rw [State.interrupted_of_full hl, State.interrupted_of_full (s := s.arrive) hl]
    rfl

theorem setFlag_comm (flags : BitVec 12) (m n : Notice) : setFlag (setFlag flags m) n = setFlag (setFlag flags n) m := by
  unfold setFlag
  rw [BitVec.or_assoc, BitVec.or_assoc, BitVec.or_comm (BitVec.twoPow 12 m.bit)]

/-- An erroneous frame counted before the interruption it makes, or after it. -/
theorem State.counted_interrupted (s : State) (r : Assembly) (a b : Nat) :
    (s.counted (setFlag s.notices .frameErrors) a b).interrupted r =
      (s.interrupted r).counted (setFlag (s.interrupted r).notices .frameErrors) a b := by
  unfold State.interrupted State.counted
  split
  · rfl
  · rw [setFlag_comm]

/-- An erroneous frame is discarded as with the request interrupted before it (R4, R154). -/
theorem exec_erroneous_interrupted {c : Instr} {s : State} {r : Assembly} (h : s.resetHeld = false) (ha : s.assembly = some r)
    (hc : (c = .frameError ∨ c = .frameBrokenOff ∨ (∃ (x : BitVec 5) (t : BitVec 6) (b l p : Bool),
      24 ≤ x.toNat ∧ c = .driveFrame x t b l p)) ∨ c = .kindError) : exec c s = exec c (s.interrupted r) := by
  have hkeep : (s.interrupted r).resetHeld = s.resetHeld ∧ (s.interrupted r).frameErrors = s.frameErrors ∧
      (s.interrupted r).kindErrors = s.kindErrors := by
    unfold State.interrupted
    split <;> exact ⟨rfl, rfl, rfl⟩
  obtain ⟨hr, hf, hk⟩ := hkeep
  rw [exec_erroneous h hc, exec_erroneous (hr.trans h) hc, hf, hk, ← State.counted_interrupted]
  unfold State.discardFrame
  exact congrArg (fun u => Host.Outcome.next (State.freePosition u)) (State.arriveOther_interrupted (by exact ha))

/-- The frames but DATA and CYCLE, which interrupt a request (R154). -/
def Interrupting (c : Instr) : Prop :=
  c = .fillFrame ∨ (∃ k b, c = .auxFrame k b) ∨ (∃ x t b l p, c = .driveFrame x t b l p) ∨ c = .frameError ∨
    c = .kindError ∨ c = .frameBrokenOff ∨ ∃ code count arg, c = .headFrame code count arg

/-- Of the DRIVE frames those of slots 24..31 are erroneous (R2), the others reach a slot. -/
theorem slotOf_none_or_some (x : BitVec 5) : 24 ≤ x.toNat ∨ ∃ g, slotOf x.toNat = some g := by
  by_cases hx : 24 ≤ x.toNat
  · exact .inl hx
  · exact .inr ⟨_, dif_pos (Nat.not_le.1 hx)⟩

theorem exec_driveFrame_of_slot {x : BitVec 5} {g : SlotIx} (hg : slotOf x.toNat = some g) {s : State}
    (h : s.resetHeld = false) (t : BitVec 6) (b l p : Bool) : exec (.driveFrame x t b l p) s =
      .next (if s.part = .rest then s.arriveOther else s.arriveOther.driveSlot g t.toNat b l p) := by
  rw [exec_of_effect h rfl rfl]
  show Host.Outcome.next (s.driveFrame x t b l p) = _
  unfold State.driveFrame
  rw [hg]

/-- A frame that interrupts a request is handled as with the request interrupted before it. -/
theorem exec_interrupted {c : Instr} {s : State} {r : Assembly} (h : s.resetHeld = false) (ha : s.assembly = some r)
    (hc : Interrupting c) : exec c s = exec c (s.interrupted r) := by
  have harrive := State.arriveOther_interrupted ha
  have hkeep : (s.interrupted r).resetHeld = s.resetHeld ∧ (s.interrupted r).part = s.part := by
    unfold State.interrupted
    split <;> exact ⟨rfl, rfl⟩
  obtain ⟨hheld, hpart⟩ := hkeep
  have h' := hheld.trans h
  rcases hc with rfl | ⟨k, b, rfl⟩ | ⟨x, t, b, l, p, rfl⟩ | rfl | rfl | rfl | ⟨code, count, arg, rfl⟩
  · rw [exec_fillFrame h, exec_fillFrame h', harrive]
  · rw [exec_auxFrame h, exec_auxFrame h', harrive]
  · rcases slotOf_none_or_some x with hx | ⟨g, hg⟩
    · exact exec_erroneous_interrupted h ha (.inl (.inr (.inr ⟨x, t, b, l, p, hx, rfl⟩)))
    · rw [exec_driveFrame_of_slot hg h, exec_driveFrame_of_slot hg h', harrive, hpart]
  · exact exec_erroneous_interrupted h ha (.inl (.inl rfl))
  · exact exec_erroneous_interrupted h ha (.inr rfl)
  · exact exec_erroneous_interrupted h ha (.inl (.inr (.inl rfl)))
  · rw [exec_headFrame h, exec_headFrame h', harrive]

/-! ### A CYCLE frame besides its return window -/

/-- The return window and the interruption of a CYCLE frame concern the console's fields alone. -/
theorem State.cycleWindow_eq (s : State) : s.cycleWindow = s.withConsole s.cycleWindow := by
  have ho : ∀ u : State, u.openWindow = u.withConsole u.openWindow := fun u => by unfold State.openWindow; split <;> rfl
  have hi : ∀ u : State, u.interrupt = u.withConsole u.interrupt := fun u => by rw [u.interrupt_eq]; rfl
  unfold State.cycleWindow
  split
  · exact ho s
  · dsimp only
    split
    · rw [ho (State.interrupt _), hi]; rfl
    · rw [hi (State.openWindow _), ho]; rfl

@[simp] theorem State.cycleWindow_assembly (s : State) : s.cycleWindow.assembly = none := by
  cases h : s.assembly with
  | none =>
    unfold State.cycleWindow
    rw [h]
    simpa using h
  | some r =>
    obtain ⟨-, hnone⟩ := State.cycleWindow_of_some h
    exact hnone

theorem State.cycleFrame_assembly (s : State) (race : RaceState) (e : Bool) (b : BitVec 13) :
    (s.cycleFrame race e b).assembly = none := by
  obtain ⟨⟨ha, -⟩, -⟩ := s.cycleFrame_management race e b
  rw [ha, State.cycleWindow_assembly]

/-- A CYCLE frame is handled as with no request under assembly, but for the console's fields. -/
theorem State.cycleFrame_cleared (s : State) (race : RaceState) (e : Bool) (b : BitVec 13) : ∃ c,
    s.cycleFrame race e b = (State.cycleFrame { s with assembly := none } race e b).withConsole c := by
  have hw : s.arrive.cycleWindow =
      (State.cycleWindow (State.arrive { s with assembly := none })).withConsole s.arrive.cycleWindow := by
    conv_lhs => rw [State.cycleWindow_eq]
    rw [State.cycleWindow_eq (State.arrive { s with assembly := none })]
    rfl
  refine ⟨s.arrive.cycleWindow, ?_⟩
  unfold State.cycleFrame
  conv_lhs => rw [hw]
  rw [State.position_withConsole, State.writeRace_withConsole, State.cycleRun_withConsole]

/-! ### What the replies and the notices are after the frame -/

/-- Of the notices, at most PAIR_FAILED is set. -/
def State.PairNoted (s t : State) : Prop := t.notices = s.notices ∨ t.notices = setFlag s.notices .pairFailed

theorem State.failSession_pairNoted (s : State) (p : PortIx) (x : Session) (why : SessionOutcome) :
    s.PairNoted (s.failSession p x why) := .inr (by simp [State.failSession])

theorem State.lookup_pairNoted (s : State) (p : PortIx) (x : Session) (id : Identity) : s.PairNoted (s.lookup p x id) := by
  unfold State.lookup
  split
  · exact s.failSession_pairNoted ..
  · split
    · split
      · exact s.failSession_pairNoted ..
      · exact .inl (by simp)
    · split
      · exact s.failSession_pairNoted ..
      · exact .inl (by simp)

theorem State.joinSession_pairNoted (s : State) (p : PortIx) (h : SlotIx) : s.PairNoted (s.joinSession p h) := by
  unfold State.joinSession State.fillSession
  split
  · exact .inl rfl
  · dsimp only
    split
    · simpa [State.PairNoted] using
        State.lookup_pairNoted ((s.claimSlot (some h) (some p)).setSession p _) p _ _
    · exact .inl (by simp)

/-- A DRIVE frame's flags set at most PAIR_FAILED, at the lookup of a gesture (R30, R73, R76). -/
theorem State.driveFlags_pairNoted (s : State) (g : SlotIx) (a : Option CarIx) (l p : Bool) :
    s.PairNoted (s.driveFlags g a l p) := by
  have hg : ∀ u : State, u.PairNoted (u.gesture g) := fun u => by
    unfold State.gesture
    split
    · exact .inl rfl
    · split
      · exact u.joinSession_pairNoted _ g
      · exact .inl (by simp)
  unfold State.driveFlags State.pairEdge
  split
  · simpa [State.PairNoted] using hg (s.laneEdge g a l)
  · exact .inl (by simp)

theorem State.PairNoted.requestDropped {s t : State} (h : s.PairNoted t) (hn : s.hasNotice .requestDropped = true) :
    t.hasNotice .requestDropped = true := by
  unfold State.hasNotice at hn ⊢
  rcases h with h | h <;> rw [h]
  · exact hn
  · rw [getLsbD_setFlag, hn, Bool.true_or]

/-- In `t` the request under assembly is `a`; the replies and the requests dropped are the same as in `s`, and REQUEST_DROPPED
stands if it did. -/
def State.Unanswered (s t : State) (a : Option Assembly) : Prop :=
  t.assembly = a ∧ t.replies = s.replies ∧ t.dropped = s.dropped ∧
    (s.hasNotice .requestDropped = true → t.hasNotice .requestDropped = true)

theorem State.driveSlot_unanswered (s : State) (g : SlotIx) (t : Nat) (b l p : Bool) :
    s.Unanswered (s.driveSlot g t b l p) s.assembly := by
  have hn : s.PairNoted (s.driveSlot g t b l p) := by
    simpa [State.PairNoted, State.driveSlot] using s.driveFlags_pairNoted g (s.resolve g) l p
  exact ⟨by simp [State.driveSlot], by simp [State.driveSlot], by simp [State.driveSlot], hn.requestDropped⟩

/-- The request that a frame leaves under assembly where it finds none: its own, of a HEAD frame that announces data. -/
def begunRequest : Instr → Option Assembly
  | .headFrame code count arg => some ⟨code, count, arg, []⟩
  | _ => none

/-- A frame that finds no request under assembly, and completes none, answers none. -/
theorem exec_unanswered {c : Instr} {s : State} (h : s.resetHeld = false) (ha : s.assembly = none) (hc : Interrupting c)
    (hd : ∀ code count arg, c = .headFrame code count arg → count ≠ 0) :
    ∃ t, exec c s = .next t ∧ s.Unanswered t (begunRequest c) := by
  have herr : ((c = .frameError ∨ c = .frameBrokenOff ∨ (∃ (x : BitVec 5) (t : BitVec 6) (b l p : Bool),
      24 ≤ x.toNat ∧ c = .driveFrame x t b l p)) ∨ c = .kindError) → ∃ t, exec c s = .next t ∧ s.Unanswered t none := by
    intro he
    obtain ⟨t, ht, hsame, -, -, -, -, -, -, hnone⟩ := erroneousFramesAreCountedAndDiscarded c s h he
    obtain ⟨hr, hdr, hn⟩ := hnone ha
    exact ⟨t, ht, by rw [hsame], hr, hdr, fun hs => hn.trans hs⟩
  rcases hc with rfl | ⟨k, b, rfl⟩ | ⟨x, t, b, l, p, rfl⟩ | rfl | rfl | rfl | ⟨code, count, arg, rfl⟩
  · refine ⟨_, exec_fillFrame h, ?_⟩
    simp [State.Unanswered, begunRequest, State.hasNotice, State.arriveOther_of_none ha, ha]
  · refine ⟨_, exec_auxFrame h k b, ?_⟩
    simp [State.Unanswered, begunRequest, State.hasNotice, State.arriveOther_of_none ha, ha]
  · rcases slotOf_none_or_some x with hx | ⟨g, hg⟩
    · exact herr (.inl (.inr (.inr ⟨x, t, b, l, p, hx, rfl⟩)))
    · refine ⟨_, exec_driveFrame_of_slot hg h t b l p, ?_⟩
      rw [State.arriveOther_of_none ha]
      split
      · exact ⟨ha, rfl, rfl, id⟩
      · have hslot := s.arrive.driveSlot_unanswered g t.toNat b l p
        rwa [show s.arrive.assembly = none from ha] at hslot
  · exact herr (.inl (.inl rfl))
  · exact herr (.inr rfl)
  · exact herr (.inl (.inr (.inl rfl)))
  · obtain ⟨hhead, -⟩ := requestsAreAssembledWordByWord s h
    obtain ⟨t, ht, hsame, -⟩ := hhead code count arg (hd code count arg rfl) ha
    refine ⟨t, ht, ?_⟩
    rw [hsame]
    exact ⟨rfl, rfl, rfl, id⟩

/-- Settles O12: the frame is handled as in the interrupted state, where no request is under assembly. -/
theorem interruptedRequestsAreAnsweredMalformed : Obligations.InterruptedRequestsAreAnsweredMalformed := by
  unfold Obligations.InterruptedRequestsAreAnsweredMalformed
  refine ⟨fun c r s h ha hc => exec_interrupted h ha hc, fun race e b r s h ha => ?_, fun c r s h ha hc => ?_⟩
  · obtain ⟨c, hclear⟩ := s.cycleFrame_cleared race e b
    refine ⟨_, _, exec_cycleFrame h race e b, exec_cycleFrame (s := { s with assembly := none }) h race e b, ?_⟩
    have hnone := s.cycleFrame_assembly race e b
    rw [hclear] at hnone
    have hassembly : c.assembly = (State.cycleFrame { s with assembly := none } race e b).assembly :=
      hnone.trans (State.cycleFrame_assembly ..).symm
    rw [hclear, State.withConsole, hassembly]
  · have hint : Interrupting c := by
      rcases hc with hc | hc | hc | hc | hc | hc | ⟨code, count, arg, hc, -⟩
      case inr.inr.inr.inr.inr.inr => exact .inr (.inr (.inr (.inr (.inr (.inr ⟨code, count, arg, hc⟩)))))
      all_goals simp only [Interrupting, hc, true_or, or_true]
    have hdata : ∀ code count arg, c = .headFrame code count arg → count ≠ 0 := by
      rintro code count arg rfl
      simpa using hc
    have hheld : (s.interrupted r).resetHeld = false := by unfold State.interrupted; split <;> exact h
    obtain ⟨t, ht, hassembly, hreplies, hdropped, hnotice⟩ :=
      exec_unanswered hheld (s.interrupted_assembly r) hint hdata
    refine ⟨t, (exec_interrupted h ha hint).trans ht, fun code count arg he => ?_, fun he => ?_, fun hl => ?_, fun hl => ?_⟩
    · rw [hassembly, he]
      rfl
    · rw [hassembly]
      unfold begunRequest
      split
      · exact absurd rfl (he _ _ _)
      · rfl
    · rw [hreplies, hdropped, State.interrupted_of_room hl]
      exact ⟨rfl, rfl⟩
    · rw [State.interrupted_of_full hl] at hreplies hdropped hnotice
      refine ⟨hreplies, hnotice ?_, hdropped⟩
      exact (getLsbD_setFlag ..).trans (by simp)

end Sys2Proof.Machine

/-! The reply to a request: one of its defined shape or none (R153, R155 to R157), BAD_ARG before every other cause (R156), and what
the part reports of itself (R149, R158, R169); O29, O30 and O31. -/

namespace Sys2Proof.Machine

/-! ### What a request answers -/

/-- What a request of the table makes of a state (R157); a command of another row is no request. -/
def requestAnswer : Instr → State → Answer
  | .ident => reqIdent
  | .status clear => reqStatus clear
  | .notices => reqNotices
  | .cause => reqCause
  | .portRole port role => reqPortRole port role
  | .portMask port masked => reqPortMask port masked
  | .sectionWrite port zone cap hold guardTime flap threshold =>
    reqSectionWrite port zone cap hold guardTime flap threshold
  | .sectionRead port => reqSectionRead port
  | .sectionCounts port page clear => reqSectionCounts port page clear
  | .sectionClear port => reqSectionClear port
  | .zoneWrite zone capacity => reqZoneWrite zone capacity
  | .zoneRead zone page => reqZoneRead zone page
  | .curveWrite curve point value => reqCurveWrite curve point value
  | .curveRead curve half => reqCurveRead curve half
  | .carWrite address limit curve up down => reqCarWrite address limit curve up down
  | .carRead address => reqCarRead address
  | .carIdentity address => reqCarIdentity address
  | .bind slot address => reqBind slot address
  | .unbind slot => reqUnbind slot
  | .forget address => reqForget address
  | .pairOpen port slot window => reqPairOpen port slot window
  | .pairCancel port => reqPairCancel port
  | .pairRead port page => reqPairRead port page
  | .revive address => reqRevive address
  | .limits writeCap writeTimeout cap timeout => reqLimits writeCap writeTimeout cap timeout
  | .mode writeFallback writeBay fallback bay => reqMode writeFallback writeBay fallback bay
  | .rest => reqRest
  | .wake => reqWake
  | .softReset => reqSoftReset
  | _ => fun s => refuse s .unknown

/-- A request of the table completes with its code and its answer (R153). -/
theorem exec_request {c : Instr} {code : BitVec 6} (h : requestCode c = some code) (s : State) :
    exec c s = taken s fun s => s.respond code (requestAnswer c) := by
  cases c with
  | ident | status | notices | cause | portRole | portMask | sectionWrite | sectionRead | sectionCounts | sectionClear
  | zoneWrite | zoneRead | curveWrite | curveRead | carWrite | carRead | carIdentity | bind | unbind | forget
  | pairOpen | pairCancel | pairRead | revive | limits | mode | rest | wake | softReset =>
    obtain rfl := Option.some.inj h
    rfl
  | _ => cases h

/-- The answer of a request is an acceptance with `n` data words that leaves the reply queue to itself, or a refusal (R155 to
R157). -/
inductive State.Answers (s : State) (n : Nat) : Answer → Prop
  | accepted {t : State} {words : List Word16} (hr : t.replies = s.replies) (hl : words.length = n) :
      s.Answers n (accept t words)
  | refused {status : Status} (ho : status ≠ .ok) (hu : status ≠ .unknown) (hm : status ≠ .malformed) :
      s.Answers n (refuse s status)

section

variable (s : State) {n : Nat}

/-! The refusals of R156. -/

theorem State.Answers.badArg : s.Answers n (refuse s .badArg) := .refused nofun nofun nofun

theorem State.Answers.busy : s.Answers n (refuse s .busy) := .refused nofun nofun nofun

theorem State.Answers.wrongRole : s.Answers n (refuse s .wrongRole) := .refused nofun nofun nofun

theorem State.Answers.full : s.Answers n (refuse s .full) := .refused nofun nofun nofun

theorem State.Answers.fixed : s.Answers n (refuse s .fixed) := .refused nofun nofun nofun

theorem State.Answers.asleep : s.Answers n (refuse s .asleep) := .refused nofun nofun nofun

theorem State.Answers.notFound : s.Answers n (refuse s .notFound) := .refused nofun nofun nofun

end

section

variable (s : State)

theorem reqStatus_answers (b : Bool) : s.Answers 4 (reqStatus b s) := .accepted (by cases b <;> rfl) rfl

theorem reqPortRole_answers (port : BitVec 8) (role : BitVec 4) : s.Answers 0 (reqPortRole port role s) := by
  unfold reqPortRole
  split
  · split
    · exact .asleep s
    · split
      · exact .full s
      · exact .accepted (by simp) rfl
  · exact .badArg s

theorem reqPortMask_answers (port : BitVec 8) (m : Bool) : s.Answers 0 (reqPortMask port m s) := by
  unfold reqPortMask
  split
  · exact .badArg s
  · split
    · exact .wrongRole s
    · exact .accepted rfl rfl

theorem reqSectionWrite_answers (port zone : BitVec 4) (cap hold guardTime flap : BitVec 8) (threshold : Word16) :
    s.Answers 3 (reqSectionWrite port zone cap hold guardTime flap threshold s) := by
  unfold reqSectionWrite
  split
  · dsimp only
    split
    · exact .busy s
    · exact .accepted rfl rfl
  · exact .badArg s

theorem reqSectionRead_answers (port : BitVec 8) : s.Answers 4 (reqSectionRead port s) := by
  unfold reqSectionRead
  split
  · exact .badArg s
  · exact .accepted rfl rfl

theorem Port.countWords_length_eq (q : Port) {page : BitVec 2} (h : page ≠ 3) :
    (q.countWords page).length = if page = 2 then 2 else 4 := by
  have hp : page = 0 ∨ page = 1 ∨ page = 2 := by revert page; decide
  rcases hp with rfl | rfl | rfl <;> rfl

theorem reqSectionCounts_answers (port : BitVec 8) (page : BitVec 2) (clear : Bool) :
    s.Answers (if page = 2 then 2 else 4) (reqSectionCounts port page clear s) := by
  generalize hn : (if page = 2 then 2 else 4) = n
  unfold reqSectionCounts
  split
  · exact .badArg s
  · split
    · exact .badArg s
    · rename_i hp
      exact .accepted (by cases clear <;> rfl) ((Port.countWords_length_eq _ hp).trans hn)

theorem reqSectionClear_answers (port : BitVec 8) : s.Answers 0 (reqSectionClear port s) := by
  unfold reqSectionClear
  split
  · exact .badArg s
  · split
    · exact .asleep s
    · split
      · exact .wrongRole s
      · exact .accepted rfl rfl

theorem reqZoneWrite_answers (zone capacity : BitVec 8) : s.Answers 1 (reqZoneWrite zone capacity s) := by
  unfold reqZoneWrite
  split
  · exact .badArg s
  · exact .accepted rfl rfl

theorem State.entryWords_length (e : Option Entry) : (s.entryWords e).length = 2 := by cases e <;> rfl

theorem reqZoneRead_answers (zone : BitVec 8) (page : BitVec 2) : s.Answers 2 (reqZoneRead zone page s) := by
  unfold reqZoneRead
  split
  · exact .badArg s
  · split
    · exact .accepted rfl rfl
    · exact .accepted rfl (s.entryWords_length _)

theorem reqCurveWrite_answers (curve point : BitVec 4) (value : BitVec 8) :
    s.Answers 0 (reqCurveWrite curve point value s) := by
  unfold reqCurveWrite
  split
  · exact .accepted rfl rfl
  · exact .badArg s

theorem halfWords_length (v : Vector Nat 9) (half : BitVec 4) :
    (halfWords v half.toNat).length = if half = 0 then 4 else 1 := by
  by_cases h : half = 0
  · subst h
    rfl
  · have h0 : half.toNat ≠ 0 := fun h0 => h (BitVec.eq_of_toNat_eq h0)
    rw [if_neg h, halfWords, if_neg h0]
    rfl

theorem reqCurveRead_answers (curve half : BitVec 4) : s.Answers (if half = 0 then 4 else 1) (reqCurveRead curve half s) := by
  generalize hn : (if half = 0 then 4 else 1) = n
  unfold reqCurveRead
  split
  · exact .badArg s
  · split
    · exact .badArg s
    · exact .accepted rfl ((halfWords_length _ half).trans hn)

theorem reqCarWrite_answers (address limit : BitVec 8) (curve : BitVec 4) (up down : BitVec 8) :
    s.Answers 2 (reqCarWrite address limit curve up down s) := by
  unfold reqCarWrite
  split
  · exact .accepted rfl rfl
  · exact .badArg s

theorem reqCarRead_answers (address : BitVec 8) : s.Answers 4 (reqCarRead address s) := by
  unfold reqCarRead
  split
  · exact .badArg s
  · exact .accepted rfl rfl

theorem reqCarIdentity_answers (address : BitVec 8) : s.Answers 4 (reqCarIdentity address s) := by
  unfold reqCarIdentity
  split
  · exact .badArg s
  · split
    · exact .notFound s
    · exact .accepted rfl rfl

theorem reqBind_answers (slot address : BitVec 8) : s.Answers 0 (reqBind slot address s) := by
  unfold reqBind
  split
  · split
    · exact .busy s
    · exact .accepted (by simp) rfl
  · exact .badArg s

theorem reqUnbind_answers (slot : BitVec 8) : s.Answers 0 (reqUnbind slot s) := by
  unfold reqUnbind
  split
  · exact .badArg s
  · split
    · exact .notFound s
    · exact .accepted (by simp) rfl

theorem reqForget_answers (address : BitVec 8) : s.Answers 0 (reqForget address s) := by
  unfold reqForget
  split
  · exact .badArg s
  · split
    · exact .busy s
    · exact .accepted (by simp) rfl

theorem reqPairOpen_answers (port slot window : BitVec 8) : s.Answers 1 (reqPairOpen port slot window s) := by
  unfold reqPairOpen
  split
  · split
    · exact .asleep s
    · split
      · exact .wrongRole s
      · split
        · exact .busy s
        · split
          · exact .busy s
          · exact .accepted (by simp) rfl
  · exact .badArg s

theorem reqPairCancel_answers (port : BitVec 8) : s.Answers 0 (reqPairCancel port s) := by
  unfold reqPairCancel
  split
  · exact .badArg s
  · split
    · exact .wrongRole s
    · split
      · exact .accepted (by simp) rfl
      · exact .notFound s

theorem reqPairRead_answers (port : BitVec 8) (page : BitVec 2) :
    s.Answers (if page = 0 then 2 else 4) (reqPairRead port page s) := by
  generalize hn : (if page = 0 then 2 else 4) = n
  unfold reqPairRead
  split
  · exact .badArg s
  · split
    · exact .badArg s
    · split
      · exact .wrongRole s
      · split
        · rename_i hp
          exact .accepted rfl ((if_pos hp).symm.trans hn)
        · split
          · exact .notFound s
          · rename_i hp _ _ _
            exact .accepted rfl ((if_neg hp).symm.trans hn)

theorem reqRevive_answers (address : BitVec 8) : s.Answers 0 (reqRevive address s) := by
  unfold reqRevive
  split
  · exact .badArg s
  · exact .accepted rfl rfl

theorem reqMode_answers (writeFallback writeBay fallback : Bool) (bay : BitVec 8) :
    s.Answers 1 (reqMode writeFallback writeBay fallback bay s) := by
  unfold reqMode
  split
  · exact .badArg s
  · split
    · exact .fixed s
    · exact .accepted (by simp) rfl

theorem reqWake_answers : s.Answers 4 (reqWake s) := by
  unfold reqWake
  refine .accepted ?_ rfl
  split
  · simp
  · rfl

/-- Every request but REST and SOFT_RESET is answered in its defined shape, or refused (R156, R157). -/
theorem requestAnswer_answers {c : Instr} {code : BitVec 6} (h : requestCode c = some code) (hr : c ≠ .rest)
    (hs : c ≠ .softReset) : s.Answers (requestReplyCount c) (requestAnswer c s) := by
  cases c with
  | ident => exact .accepted rfl rfl
  | status clear => exact reqStatus_answers s clear
  | notices => exact .accepted rfl rfl
  | cause => exact .accepted rfl rfl
  | portRole port role => exact reqPortRole_answers s port role
  | portMask port masked => exact reqPortMask_answers s port masked
  | sectionWrite port zone cap hold guardTime flap threshold =>
    exact reqSectionWrite_answers s port zone cap hold guardTime flap threshold
  | sectionRead port => exact reqSectionRead_answers s port
  | sectionCounts port page clear => exact reqSectionCounts_answers s port page clear
  | sectionClear port => exact reqSectionClear_answers s port
  | zoneWrite zone capacity => exact reqZoneWrite_answers s zone capacity
  | zoneRead zone page => exact reqZoneRead_answers s zone page
  | curveWrite curve point value => exact reqCurveWrite_answers s curve point value
  | curveRead curve half => exact reqCurveRead_answers s curve half
  | carWrite address limit curve up down => exact reqCarWrite_answers s address limit curve up down
  | carRead address => exact reqCarRead_answers s address
  | carIdentity address => exact reqCarIdentity_answers s address
  | bind slot address => exact reqBind_answers s slot address
  | unbind slot => exact reqUnbind_answers s slot
  | forget address => exact reqForget_answers s address
  | pairOpen port slot window => exact reqPairOpen_answers s port slot window
  | pairCancel port => exact reqPairCancel_answers s port
  | pairRead port page => exact reqPairRead_answers s port page
  | revive address => exact reqRevive_answers s address
  | limits writeCap writeTimeout cap timeout => exact .accepted rfl rfl
  | mode writeFallback writeBay fallback bay => exact reqMode_answers s writeFallback writeBay fallback bay
  | rest => exact absurd rfl hr
  | wake => exact reqWake_answers s
  | softReset => exact absurd rfl hs
  | _ => cases h

end

/-- The answer `a` of request `c` in `s` has the shape that R155 to R157 and R167 define: the replies are left to it, but for
SOFT_RESET, which clears them; the data words are those of an acceptance or of REST; a refusal changes nothing; UNKNOWN and
MALFORMED are no answers of a request that is executed. -/
structure Answer.Defined (s : State) (c : Instr) (a : Answer) : Prop where
  replies : a.1.replies = if c = .softReset then [] else s.replies
  words : a.2.2.length = if a.2.1 = .ok ∨ c = .rest then requestReplyCount c else 0
  unchanged : a.2.1 ≠ .ok → a.1 = s
  known : a.2.1 ≠ .unknown
  wellCounted : a.2.1 ≠ .malformed

theorem State.Answers.defined {s : State} {c : Instr} {a : Answer} (h : s.Answers (requestReplyCount c) a) (hr : c ≠ .rest)
    (hs : c ≠ .softReset) : Answer.Defined s c a := by
  cases h with
  | accepted hreplies hwords =>
    exact ⟨hreplies.trans (if_neg hs).symm, hwords.trans (if_pos (.inl rfl)).symm, fun ho => absurd rfl ho, nofun, nofun⟩
  | refused ho hu hm => exact ⟨(if_neg hs).symm, (if_neg fun hor => hor.elim ho hr).symm, fun _ => rfl, hu, hm⟩

/-- REST replies the identity data, accepted or refused (R167). -/
theorem reqRest_defined (s : State) : Answer.Defined s .rest (reqRest s) := by
  unfold reqRest
  split
  · exact ⟨by simp, (if_pos (.inr rfl)).symm, fun ho => absurd rfl ho, nofun, nofun⟩
  · exact ⟨(if_neg nofun).symm, (if_pos (.inr rfl)).symm, fun _ => rfl, nofun, nofun⟩

/-- SOFT_RESET clears the reply queue before its own reply (R150, R155). -/
theorem reqSoftReset_defined (s : State) : Answer.Defined s .softReset (reqSoftReset s) :=
  ⟨(if_pos rfl).symm, (if_pos (.inl rfl)).symm, fun ho => absurd rfl ho, nofun, nofun⟩

theorem requestAnswer_defined {c : Instr} {code : BitVec 6} (h : requestCode c = some code) (s : State) :
    Answer.Defined s c (requestAnswer c s) := by
  by_cases hr : c = .rest
  · subst hr
    exact reqRest_defined s
  · by_cases hs : c = .softReset
    · subst hs
      exact reqSoftReset_defined s
    · exact (requestAnswer_answers s h hr hs).defined hr hs

/-- Settles O29: at a full queue the request is dropped; else its answer, which is of the defined shape, is queued. -/
theorem everyRequestGivesOneReplyOrIsDropped : Obligations.EveryRequestGivesOneReplyOrIsDropped := by
  unfold Obligations.EveryRequestGivesOneReplyOrIsDropped
  intro c code s h hc
  refine ⟨fun hl => ?_, fun hl => ?_⟩
  · rw [exec_request hc, taken_eq_of_free h, State.respond, if_pos hl]
    rfl
  · obtain ⟨⟨t, status, words⟩, ha⟩ : ∃ a, requestAnswer c s = a := ⟨_, rfl⟩
    obtain ⟨hreplies, hwords, hunchanged, hknown, hcounted⟩ := ha ▸ requestAnswer_defined hc s
    exact ⟨_, status, words, exec_answered ⟨h, hl⟩ (exec_request hc s) ha, congrArg (· ++ _) hreplies, hwords,
      fun ho => congrArg (State.replied · code status words) (hunchanged ho), hknown, hcounted⟩

/-! ### Identifiers and selectors out of range -/

theorem slotOf_eq_none {n : Nat} (h : 24 ≤ n) : slotOf n = none := dif_neg (Nat.not_lt.2 h)

theorem portOf_eq_none {n : Nat} (h : 16 ≤ n) : portOf n = none := dif_neg (Nat.not_lt.2 h)

theorem zoneOf_eq_none {n : Nat} (h : 8 ≤ n) : zoneOf n = none := dif_neg (Nat.not_lt.2 h)

theorem curveOf_eq_none {n : Nat} (h : 4 ≤ n) : curveOf n = none := dif_neg (Nat.not_lt.2 h)

theorem pointOf_eq_none {n : Nat} (h : 9 ≤ n) : pointOf n = none := dif_neg (Nat.not_lt.2 h)

theorem roleOf_eq_none {n : Nat} (h : 4 ≤ n) : roleOf n = none := by
  unfold roleOf
  repeat rw [if_neg (by omega)]

/-- The addresses that name no car (R157). -/
theorem carOf_eq_none {address : BitVec 8} (h : address = 0 ∨ 25 ≤ address.toNat) : carOf address.toNat = none := by
  refine dif_neg fun hin => ?_
  rcases h with rfl | h
  · exact absurd hin.1 (by decide)
  · omega

theorem toNat_ne_255 {b : BitVec 8} (h : b ≠ 255) : b.toNat ≠ 255 := fun e => h (BitVec.eq_of_toNat_eq e)

theorem pairSlot_eq_none {slot : BitVec 8} (h : 24 ≤ slot.toNat) (hany : slot ≠ 255) : pairSlot slot.toNat = none := by
  rw [pairSlot, if_neg (toNat_ne_255 hany), slotOf_eq_none h]
  rfl

theorem baySetting_eq_none {bay : BitVec 8} (h : 16 ≤ bay.toNat) (habsent : bay ≠ 255) : baySetting bay.toNat = none := by
  rw [baySetting, if_neg (toNat_ne_255 habsent), portOf_eq_none h]
  rfl

/-- A request with an identifier or a selector out of range is refused BAD_ARG, whatever the state (R156). -/
theorem requestAnswer_of_outOfRange {c : Instr} (h : RequestOutOfRange c) (s : State) :
    requestAnswer c s = refuse s .badArg := by
  cases c with
  | portMask port masked =>
    show reqPortMask port masked s = _
    rw [reqPortMask, portOf_eq_none h]
  | sectionRead port =>
    show reqSectionRead port s = _
    rw [reqSectionRead, portOf_eq_none h]
  | sectionClear port =>
    show reqSectionClear port s = _
    rw [reqSectionClear, portOf_eq_none h]
  | pairCancel port =>
    show reqPairCancel port s = _
    rw [reqPairCancel, portOf_eq_none h]
  | zoneWrite zone capacity =>
    show reqZoneWrite zone capacity s = _
    rw [reqZoneWrite, zoneOf_eq_none h]
  | zoneRead zone page =>
    show reqZoneRead zone page s = _
    rw [reqZoneRead, zoneOf_eq_none h]
  | carRead address =>
    show reqCarRead address s = _
    rw [reqCarRead, carOf_eq_none h]
  | carIdentity address =>
    show reqCarIdentity address s = _
    rw [reqCarIdentity, carOf_eq_none h]
  | forget address =>
    show reqForget address s = _
    rw [reqForget, carOf_eq_none h]
  | revive address =>
    show reqRevive address s = _
    rw [reqRevive, carOf_eq_none h]
  | unbind slot =>
    show reqUnbind slot s = _
    rw [reqUnbind, slotOf_eq_none h]
  | portRole port role =>
    show reqPortRole port role s = _
    rw [reqPortRole]
    rcases h with h | h
    · rw [portOf_eq_none h]
    · rw [roleOf_eq_none h]
      cases portOf port.toNat <;> rfl
  | sectionWrite port zone cap hold guardTime flap threshold =>
    show reqSectionWrite port zone cap hold guardTime flap threshold s = _
    rw [reqSectionWrite, zoneOf_eq_none h]
    cases portOf port.toNat <;> rfl
  | sectionCounts port page clear =>
    show reqSectionCounts port page clear s = _
    rw [reqSectionCounts]
    rcases h with h | rfl
    · rw [portOf_eq_none h]
    · cases portOf port.toNat <;> rfl
  | curveWrite curve point value =>
    show reqCurveWrite curve point value s = _
    rw [reqCurveWrite]
    rcases h with h | h
    · rw [curveOf_eq_none h]
    · rw [pointOf_eq_none h]
      cases curveOf curve.toNat <;> rfl
  | curveRead curve half =>
    show reqCurveRead curve half s = _
    rw [reqCurveRead]
    rcases h with h | h
    · rw [curveOf_eq_none h]
    · cases curveOf curve.toNat with
      | none => rfl
      | some k => exact if_pos h
  | carWrite address limit curve up down =>
    show reqCarWrite address limit curve up down s = _
    rw [reqCarWrite]
    rcases or_assoc.2 h with h | h
    · rw [carOf_eq_none h]
    · rw [curveOf_eq_none h]
      cases carOf address.toNat <;> rfl
  | bind slot address =>
    show reqBind slot address s = _
    rw [reqBind]
    rcases h with h | h
    · rw [slotOf_eq_none h]
    · rw [carOf_eq_none h]
      cases slotOf slot.toNat <;> rfl
  | pairOpen port slot window =>
    show reqPairOpen port slot window s = _
    rw [reqPairOpen]
    rcases h with h | ⟨h, hany⟩
    · rw [portOf_eq_none h]
    · rw [pairSlot_eq_none h hany]
      cases portOf port.toNat <;> rfl
  | pairRead port page =>
    show reqPairRead port page s = _
    rw [reqPairRead]
    rcases h with h | h
    · rw [portOf_eq_none h]
    · cases portOf port.toNat with
      | none => rfl
      | some p => exact if_pos h
  | mode writeFallback writeBay fallback bay =>
    obtain ⟨hwrite, hbay, habsent⟩ := h
    show reqMode writeFallback writeBay fallback bay s = _
    rw [reqMode, if_pos ⟨hwrite, by rw [baySetting_eq_none hbay habsent]; rfl⟩]
  | _ => exact False.elim h

/-- Settles O30: such a request is refused BAD_ARG by its first check, and the refusal is its reply. -/
theorem identifiersOutOfRangeAreRefused : Obligations.IdentifiersOutOfRangeAreRefused := by
  unfold Obligations.IdentifiersOutOfRangeAreRefused
  intro c code s ht hc h
  exact exec_answered ht (exec_request hc s) (requestAnswer_of_outOfRange h s)

/-! ### What the part reports of itself -/

/-- The last word of IDENT (R158), whose bits 15..2 no packing names (log entry 33). -/
theorem identWord_eq (fallback strap : Bool) : word16 [⟨1, 1, fallback.toNat⟩, ⟨0, 0, strap.toNat⟩] =
    (0 : BitVec 14) ++ BitVec.ofBool fallback ++ BitVec.ofBool strap := by
  revert fallback strap
  decide

/-- The fields of the first word of STATUS (R158), whose bits 3..0 no packing names (log entry 33). -/
theorem statusFields_eq (part race lane fallback sequences replies : Nat) :
    word16 [⟨15, 13, part⟩, ⟨12, 11, race⟩, ⟨10, 10, lane⟩, ⟨9, 9, fallback⟩, ⟨8, 7, sequences⟩, ⟨6, 4, replies⟩] =
      BitVec.ofNat 3 part ++ BitVec.ofNat 2 race ++ BitVec.ofNat 1 lane ++ BitVec.ofNat 1 fallback ++
        BitVec.ofNat 2 sequences ++ BitVec.ofNat 3 replies ++ BitVec.ofNat 4 0 := by
  simp only [ofNat_append]
  exact word16_eq_ofNat (by simp; omega)

theorem RaceState.ofNat_bits (race : RaceState) : BitVec.ofNat 2 (RaceState.bits race).toNat = RaceState.bits race := by
  cases race <;> rfl

theorem State.statusWord_eq (s : State) : s.statusWord =
    BitVec.ofNat 3 s.part.code ++ RaceState.bits s.race ++ BitVec.ofBool s.laneEnable ++ BitVec.ofBool s.directFallback ++
      BitVec.ofNat 2 s.insertionQueue.length ++ BitVec.ofNat 3 s.replies.length ++ (0 : BitVec 4) := by
  rw [State.statusWord, statusFields_eq, RaceState.ofNat_bits, ← ofBool_eq_ofNat, ← ofBool_eq_ofNat]
  rfl

/-- The fields of the second word of NOTICES (R169), whose bits 10..5 no packing names (log entry 33). -/
theorem noticeFields_eq (car noted port : Nat) : word16 [⟨15, 11, car⟩, ⟨4, 4, noted⟩, ⟨3, 0, port⟩] =
    BitVec.ofNat 5 car ++ BitVec.ofNat 6 0 ++ BitVec.ofNat 1 noted ++ BitVec.ofNat 4 port := by
  simp only [ofNat_append]
  exact word16_eq_ofNat (by simp; omega)

theorem State.noticeWords_eq (s : State) : s.noticeWords =
    [s.notices ++ (0 : BitVec 4),
      BitVec.ofNat 5 ((s.lastCar.map addressOf).getD 0) ++ (0 : BitVec 6) ++ BitVec.ofBool s.lastPort.isSome ++
        BitVec.ofNat 4 ((s.lastPort.map Fin.val).getD 0)] := by
  rw [State.noticeWords, noticeFields_eq, ← ofBool_eq_ofNat]
  rfl

/-- The word of CAUSE (R158), whose bits 15..4 no packing names (log entry 33). -/
theorem causeWord_eq (c : Cause) : word16 [⟨3, 0, c.bits⟩] =
    (0 : BitVec 12) ++ BitVec.ofBool c.power ++ BitVec.ofBool c.pin ++ BitVec.ofBool c.supply ++ BitVec.ofBool c.soft := by
  obtain ⟨power, pin, supply, soft⟩ := c
  revert power pin supply soft
  decide

theorem reqIdent_eq (s : State) : reqIdent s = accept s [0x2E71, 0x0624, 0x0011,
    (0 : BitVec 14) ++ BitVec.ofBool s.directFallback ++ BitVec.ofBool s.strap] := by
  rw [reqIdent, State.identWords, identWord_eq]

theorem State.statusWords_eq (s : State) : s.statusWords = [s.statusWord, BitVec.ofNat 16 s.frameErrors,
    BitVec.ofNat 16 s.kindErrors, BitVec.ofNat 16 s.dropped] := by
  rw [State.statusWords, wordOf_eq, wordOf_eq, wordOf_eq]

/-- STATUS clears the counters it is asked to clear (R158). -/
theorem reqStatus_eq (clear : Bool) (s : State) : reqStatus clear s = accept { s with
    frameErrors := if clear then 0 else s.frameErrors
    kindErrors := if clear then 0 else s.kindErrors
    dropped := if clear then 0 else s.dropped } s.statusWords := by
  cases clear <;> rfl

theorem reqCause_eq (s : State) : reqCause s = accept { s with cause := ⟨false, false, false, false⟩ }
    [(0 : BitVec 12) ++ BitVec.ofBool s.cause.power ++ BitVec.ofBool s.cause.pin ++ BitVec.ofBool s.cause.supply ++
      BitVec.ofBool s.cause.soft] := by
  rw [reqCause, causeWord_eq, Cause.cleared]

/-- Settles O31: each of the four requests is accepted with the words of its packing, and clears what it clears alone. -/
theorem thePartReportsItself : Obligations.ThePartReportsItself := by
  unfold Obligations.ThePartReportsItself
  refine ⟨rfl, rfl, fun s ht => ⟨exec_answered ht rfl (reqIdent_eq s), fun clear => ?_, ?_, exec_answered ht rfl (reqCause_eq s)⟩⟩
  · rw [← State.statusWord_eq, ← State.statusWords_eq]
    exact exec_answered ht rfl (reqStatus_eq clear s)
  · rw [← State.noticeWords_eq]
    exact exec_answered (c := .notices) ht rfl rfl

end Sys2Proof.Machine

/-! Every command is answered with a next state and leaves the queue of commands to the step, which takes its front (log entries 8
and 29); O1 and O3. -/

namespace Sys2Proof.Machine

/-! ### What stands around an operation -/

section

variable {f : State → State} (hf : ∀ u : State, (f u).pending = u.pending)
include hf

theorem State.onMessage_pending (s : State) (p : PortIx) : (s.onMessage p f).pending = s.pending := by
  unfold State.onMessage
  split
  · rfl
  · exact (hf _).trans (by simp)

theorem State.readerMessage_pending (s : State) (p : PortIx) : (s.readerMessage p f).pending = s.pending :=
  State.onMessage_pending (fun u => by
    split
    · exact hf u
    · exact hf u
    · simp
    · rfl) s p

theorem State.roleMessage_pending (s : State) (p : PortIx) (role : Role) : (s.roleMessage p role f).pending = s.pending :=
  State.onMessage_pending (fun u => by
    split
    · exact hf u
    · split
      · rfl
      · simp) s p

theorem State.flapMessage_pending (s : State) (p : PortIx) (ends : Bool) : (s.flapMessage p ends f).pending = s.pending := by
  unfold State.flapMessage
  split
  · exact State.onMessage_pending (fun u => by simp) s p
  · exact State.roleMessage_pending (fun u => by split; exacts [hf u, rfl]) s p .switch

end

/-- An expiry (R141) whose effect leaves the queue of commands. -/
theorem State.expire_pending {s : State} {due : Option Nat} {f : State → State} (hf : (f s).pending = s.pending) :
    (s.expire due f).pending = s.pending :=
  State.expire_induct (P := fun t => t.pending = s.pending) rfl fun _ _ _ => hf

/-- An expiry that acts in some states alone. -/
theorem State.expire_ite_pending {s : State} {due : Option Nat} {c : State → Prop} [∀ u, Decidable (c u)]
    {f : State → State} (hf : (f s).pending = s.pending) :
    (s.expire due fun u => if c u then f u else u).pending = s.pending :=
  State.expire_pending (by split; exacts [hf, rfl])

/-! ### Resets (R148, R150) -/

theorem State.holdReset_pending (s : State) (cause : Cause) : (s.holdReset cause).pending = s.pending := by
  simp [State.holdReset]

theorem State.releaseReset_pending (s : State) (high : Bool) : (s.releaseReset high).pending = s.pending := by
  simp [State.releaseReset, State.hardReset]

theorem State.softReset_pending (s : State) : s.softReset.pending = s.pending := by
  simp [State.softReset, State.softResetTables]

/-! ### Requests -/

/-- No request takes from or adds to the queue of commands, SOFT_RESET neither (log entry 29). -/
theorem State.Requested.pending {s t : State} (h : s.Requested t) : t.pending = s.pending := by
  cases h with
  | kept h =>
    obtain ⟨⟨hpending, -, -⟩, -⟩ := h
    exact hpending
  | role | cancel | rest => simp
  | softReset => exact s.softReset_pending

theorem State.respond_pending (s : State) (code : BitVec 6) {f : State → Answer} (hf : s.Requested (f s).1) :
    (s.respond code f).pending = s.pending := by
  unfold State.respond
  split
  · simp
  · simpa using hf.pending

@[simp] theorem State.complete_pending (s : State) (r : Assembly) : (s.complete r).pending = s.pending := by
  unfold State.complete
  split
  · simp
  · split
    · simp
    · split
      · simp
      · exact s.respond_pending r.code (requestBody_requested s _ _ _ _ _)

@[simp] theorem State.completeAtPosition_pending (s : State) (r : Assembly) : (s.completeAtPosition r).pending = s.pending := by
  unfold State.completeAtPosition
  split
  · simp
  · dsimp only
    split <;> simp

/-! ### Frames and windows -/

@[simp] theorem State.beginRequest_pending (s : State) (r : Assembly) : (s.beginRequest r).pending = s.pending := by
  unfold State.beginRequest
  split <;> simp

@[simp] theorem State.dataFrame_pending (s : State) (w : Word16) : (s.dataFrame w).pending = s.pending := by
  unfold State.dataFrame
  split
  · simp
  · dsimp only
    split <;> simp

@[simp] theorem State.frameError_pending (s : State) : s.frameError.pending = s.pending := by
  simp [State.frameError, State.discardFrame]

@[simp] theorem State.kindError_pending (s : State) : s.kindError.pending = s.pending := by
  simp [State.kindError, State.discardFrame]

@[simp] theorem State.cycleFrame_pending (s : State) (race : RaceState) (e : Bool) (b : BitVec 13) :
    (s.cycleFrame race e b).pending = s.pending := by
  simp [State.cycleFrame]

@[simp] theorem State.driveFrame_pending (s : State) (slot : BitVec 5) (t : BitVec 6) (brake lane pair : Bool) :
    (s.driveFrame slot t brake lane pair).pending = s.pending := by
  unfold State.driveFrame
  split
  · simp
  · split <;> simp [State.driveSlot]

theorem State.closeWindow_pending {s t : State} {f : AnswerWindow → Bool} {w : AnswerWindow}
    (h : s.closeWindow f = some (w, t)) : t.pending = s.pending := by
  obtain ⟨-, -, ht⟩ := State.closeWindow_eq_some h
  rw [ht]

@[simp] theorem State.closeCarAddress_pending (s : State) (address : BitVec 5) (answered : Bool) :
    (s.closeCarAddress address answered).pending = s.pending := by
  unfold State.closeCarAddress State.closeCarWindow
  split
  · rfl
  · split
    · rfl
    · rename_i hw
      simpa using State.closeWindow_pending hw

@[simp] theorem State.closeAssignWindow_pending (s : State) (p : PortIx) (answered : Bool) :
    (s.closeAssignWindow p answered).pending = s.pending := by
  unfold State.closeAssignWindow
  split
  · rfl
  · rename_i hw
    split
    · simpa using State.closeWindow_pending hw
    · exact State.closeWindow_pending hw

/-! ### Expiries of a session and of a zone -/

theorem State.windowExpires_pending (s : State) (p : PortIx) : (s.windowExpires p).pending = s.pending := by
  unfold State.windowExpires
  split
  · rfl
  · exact State.expire_pending (by split <;> simp)

theorem State.showExpires_pending (s : State) (p : PortIx) : (s.showExpires p).pending = s.pending := by
  unfold State.showExpires
  split
  · rfl
  · exact State.expire_pending (by split <;> simp)

theorem State.entryExpires_pending (s : State) (z : ZoneIx) (k : Nat) : (s.entryExpires z k).pending = s.pending := by
  unfold State.entryExpires
  split
  · rfl
  · exact State.expire_pending (by simp)

theorem State.guardExpires_pending (s : State) (z : ZoneIx) : (s.guardExpires z).pending = s.pending := by
  unfold State.guardExpires
  split
  · rfl
  · exact State.expire_pending (by simp)

/-! ### The commands -/

/-- No effect of a command takes from or adds to the queue of commands. -/
theorem effect_pending (c : Instr) (s : State) : (effect c s).pending = s.pending := by
  cases c with
  | cycleFrame race e b => exact s.cycleFrame_pending race e b
  | driveFrame slot t b l p => exact s.driveFrame_pending slot t b l p
  | headFrame code count arg => exact (State.beginRequest_pending _ _).trans (by simp)
  | dataFrame w => exact (State.dataFrame_pending _ w).trans (by simp)
  | fillFrame => exact (State.freePosition_same _).1.1.trans (by simp)
  | auxFrame k b => exact (State.position_same _ _).1.1.trans (by simp)
  | frameError | frameBrokenOff => exact s.frameError_pending
  | kindError => exact s.kindError_pending
  | carAnswerWindowClose address answered => exact s.closeCarAddress_pending address answered
  | assignAnswerWindowClose p answered => exact s.closeAssignWindow_pending p answered
  | railOutputFree => exact s.railFree_same.1.1
  | insertionQueuePlace => exact s.queuePlace_same.1.1
  | hello p k b => exact State.onMessage_pending (fun u => by simp) s p
  | approach p code => exact State.readerMessage_pending (fun u => by split <;> simp) s p
  | guard p code => exact State.readerMessage_pending (fun u => by simp) s p
  | exitCross p code => exact State.readerMessage_pending (fun u => by simp) s p
  | exitStraight p code => exact State.readerMessage_pending (fun u => by simp) s p
  | ready p b => exact State.flapMessage_pending (fun u => by simp) s p true
  | moving p => exact State.flapMessage_pending (fun u => by simp) s p false
  | moduleFault p code => exact State.flapMessage_pending (fun u => by simp) s p true
  | selfThrow p code => exact State.roleMessage_pending (fun u => by simp) s p .delegated
  | identity p id => exact State.roleMessage_pending (fun u => by split <;> simp) s p .bay
  | portLineError p | portMessageBrokenOff p => exact State.onMessage_pending (fun u => by simp) s p
  | portLineFree p | flapCommandLeft p => rfl
  | startUpSettleExpiry | wakeSettleExpiry => exact State.expire_ite_pending (by simp)
  | silenceDeadlineExpiry | ownCycleTimerExpiry => exact State.expire_ite_pending (by simp)
  | resetDeadlineExpiry p | flapDeadlineExpiry p => exact State.expire_ite_pending (by simp)
  | windowDeadlineExpiry p => exact s.windowExpires_pending p
  | showDeadlineExpiry p => exact s.showExpires_pending p
  | entryExpiry z k => exact s.entryExpires_pending z _
  | guardExpiry z => exact s.guardExpires_pending z
  | _ => rfl

/-- No command ends in a fault or a refusal: a request and an effect stand in the frame of every meaning (R148), and the four reset
commands are taken in every state (log entry 8). -/
theorem exec_next (c : Instr) (s : State) : ∃ t, exec c s = .next t := by
  cases hc : requestCode c with
  | some code =>
    obtain ⟨arg, d1, d2, d3, hb⟩ := exec_of_requestCode hc
    exact ⟨_, hb s⟩
  | none =>
    by_cases hk : isResetCommand c = false
    · exact ⟨_, exec_eq_effect hc hk s⟩
    · cases c with
      | powerOn | resetPinAssertion | supplyDip | internalResetRelease => exact ⟨_, rfl⟩
      | _ => exact absurd rfl hk

/-- The state that answers a command has the queue that the command found. -/
theorem exec_pending {c : Instr} {s t : State} (h : exec c s = .next t) : t.pending = s.pending :=
  exec_keeps (P := fun u => u.pending = s.pending) (fun c u _ _ _ hu => (effect_pending c u).trans hu)
    (fun u code _ _ _ _ _ _ hu => (u.respond_pending code (requestBody_requested u _ _ _ _ _)).trans hu)
    (fun u cause hu => (u.holdReset_pending cause).trans hu)
    (fun u high hu => (u.releaseReset_pending high).trans hu) rfl h

/-- Settles O3: every command goes on, and what answers it has the queue that the command found. -/
theorem everyCommandGoesOnAndLeavesTheQueue : Obligations.EveryCommandGoesOnAndLeavesTheQueue := by
  unfold Obligations.EveryCommandGoesOnAndLeavesTheQueue
  intro c s
  obtain ⟨t, ht⟩ := exec_next c s
  exact ⟨t, ht, exec_pending ht⟩

/-- Settles O1, by the step's branch for a queue that is not empty. -/
theorem stepTakesTheFrontCommand : Obligations.StepTakesTheFrontCommand := by
  unfold Obligations.StepTakesTheFrontCommand
  intro c rest s h
  rw [step, h]

end Sys2Proof.Machine

/-! Which ports sleep, OFF or DORMANT: no module message, no crossing and no pairing puts a port to sleep or wakes it (R94, R109); for
O59. -/

namespace Sys2Proof.Machine

/-! ### Which ports sleep -/

/-- Whether the port is OFF and whether it is DORMANT, the two states that REST allows (R109). -/
def Port.sleep (q : Port) : Bool × Bool := (decide (q.state = .off), decide (q.state = .dormant))

/-- For each port whether it is OFF and whether it is DORMANT (R109). -/
def State.sleep (s : State) : PortIx → Bool × Bool := fun p => (s.port p).sleep

/-- The port is neither OFF nor DORMANT. -/
def Port.Awake (q : Port) : Prop := q.state ≠ .off ∧ q.state ≠ .dormant

theorem Port.awake_of_state {q : Port} {st : PortState} (h : q.state = st)
    (hst : st ≠ .off ∧ st ≠ .dormant := by decide) : q.Awake := by
  unfold Port.Awake; rwa [h]

theorem Port.Awake.sleep {q : Port} (h : q.Awake) : q.sleep = (false, false) := by
  obtain ⟨h1, h2⟩ := h
  simp [Port.sleep, h1, h2]

theorem Port.sleep_of_state {q r : Port} (h : r.state = q.state) : r.sleep = q.sleep := by
  unfold Port.sleep; rw [h]

theorem State.sleep_of_ports {s t : State} (h : t.ports = s.ports) : t.sleep = s.sleep := by
  unfold State.sleep; simp [h]

theorem State.sleep_modPort {s : State} {p : PortIx} {f : Port → Port} (h : (f (s.port p)).sleep = (s.port p).sleep) :
    (s.modPort p f).sleep = s.sleep := by
  funext q
  show ((s.modPort p f).port q).sleep = _
  rw [State.port_modPort]
  split
  · rename_i e; rw [h, e]; rfl
  · rfl

/-- A port that is awake stays awake. -/
theorem State.sleep_modPort_awake {s : State} {p : PortIx} {f : Port → Port} (h : (s.port p).Awake)
    (hf : (f (s.port p)).Awake) : (s.modPort p f).sleep = s.sleep :=
  State.sleep_modPort (hf.sleep.trans h.sleep.symm)

/-- A port that is awake enters a state in which it is. -/
theorem State.sleep_setState {s : State} {p : PortIx} (h : (s.port p).Awake) {st : PortState}
    (hst : st ≠ .off ∧ st ≠ .dormant := by decide) : (s.modPort p fun q => { q with state := st }).sleep = s.sleep :=
  State.sleep_modPort_awake h hst

/-! ### The Port Controller -/

@[simp] theorem Port.issue_sleep (q : Port) (m : HubMsg) : (q.issue m).sleep = q.sleep := by rw [Port.issue_eq]; rfl

@[simp] theorem Port.messageLeft_state (q : Port) (due : Nat) : (q.messageLeft due).state = q.state := by
  unfold Port.messageLeft
  split
  · rfl
  · split <;> rfl

@[simp] theorem Port.lineFree_state (q : Port) (due : Nat) : (q.lineFree due).state = q.state := by
  unfold Port.lineFree Port.nextMessage
  split <;> simp

@[simp] theorem Port.flapCommandLeft_state (q : Port) (due : Nat) : (q.flapCommandLeft due).state = q.state := by
  unfold Port.flapCommandLeft
  split <;> simp

theorem Port.startMotion_awake (q : Port) (m : HubMsg) {st : PortState} (hst : st = .throwing ∨ st = .returning) :
    (q.startMotion m st).Awake := by
  rcases hst with rfl | rfl <;> exact Port.awake_of_state (Port.startMotion_state ..)

theorem Port.startReturn_awake (q : Port) : q.startReturn.Awake := q.startMotion_awake _ (.inr rfl)

@[simp] theorem State.notifyPort_sleep (s : State) (n : Notice) (p : PortIx) : (s.notifyPort n p).sleep = s.sleep :=
  State.sleep_of_ports (by simp)

@[simp] theorem State.portError_sleep (s : State) (p : PortIx) : (s.portError p).sleep = s.sleep := by
  unfold State.portError
  rw [State.notifyPort_sleep]
  exact State.sleep_modPort rfl

@[simp] theorem State.countThrow_sleep (s : State) (p : PortIx) : (s.countThrow p).sleep = s.sleep := by
  have h : (s.modPort p fun q => { q with throws := raise16 q.throws }).sleep = s.sleep := State.sleep_modPort rfl
  unfold State.countThrow
  dsimp only
  split
  · rw [State.notifyPort_sleep, h]
  · exact h

@[simp] theorem State.requestThrow_sleep (s : State) (p : PortIx) : (s.requestThrow p).sleep = s.sleep := by
  unfold State.requestThrow
  split
  case h_1 h =>
    rw [State.countThrow_sleep]
    exact State.sleep_modPort_awake (Port.awake_of_state h) (Port.startMotion_awake _ _ (.inl rfl))
  case h_2 => exact State.sleep_modPort rfl
  all_goals rfl

@[simp] theorem State.requestReturn_sleep (s : State) (p : PortIx) : (s.requestReturn p).sleep = s.sleep := by
  unfold State.requestReturn
  split
  case h_1 h => exact State.sleep_modPort_awake (Port.awake_of_state h) (Port.startReturn_awake _)
  case h_2 => exact State.sleep_modPort rfl
  all_goals rfl

theorem State.flapFails_sleep {s : State} {p : PortIx} (h : (s.port p).Awake) : (s.flapFails p).sleep = s.sleep := by
  unfold State.flapFails
  rw [State.notifyPort_sleep]
  refine State.sleep_modPort ?_
  rw [Port.issue_sleep, h.sleep]
  exact Port.Awake.sleep ⟨nofun, nofun⟩

theorem State.takeModuleFault_sleep {s : State} {p : PortIx} (h : (s.port p).Awake) (code : BitVec 8) :
    (s.takeModuleFault p code).sleep = s.sleep := by
  unfold State.takeModuleFault
  rw [State.notifyPort_sleep]
  refine State.sleep_modPort ?_
  dsimp only
  split
  · rfl
  · rw [h.sleep]
    exact Port.Awake.sleep ⟨nofun, nofun⟩

@[simp] theorem State.takeReady_sleep (s : State) (p : PortIx) (b : Bool) : (s.takeReady p b).sleep = s.sleep := by
  unfold State.takeReady
  split
  case h_1 h =>
    have ha := Port.awake_of_state h
    split
    · split
      · exact State.sleep_modPort_awake ha (Port.startReturn_awake _)
      · exact State.sleep_modPort_awake ha ⟨nofun, nofun⟩
    · exact State.flapFails_sleep ha
  case h_2 h =>
    have ha := Port.awake_of_state h
    split
    · exact State.flapFails_sleep ha
    · exact State.sleep_modPort_awake ha ⟨nofun, nofun⟩
  all_goals rfl

@[simp] theorem State.takeMoving_sleep (s : State) (p : PortIx) : (s.takeMoving p).sleep = s.sleep := by
  unfold State.takeMoving
  split
  · exact State.sleep_modPort rfl
  · rfl

@[simp] theorem State.sendLamp_sleep (s : State) (p : PortIx) (v : Lamp) : (s.sendLamp p v).sleep = s.sleep := by
  unfold State.sendLamp
  split
  · exact State.sleep_modPort (Port.issue_sleep _ _)
  · rfl

@[simp] theorem State.sendSessionLamp_sleep (s : State) (p : PortIx) : (s.sendSessionLamp p).sleep = s.sleep := by
  unfold State.sendSessionLamp
  split
  · rfl
  · exact State.sendLamp_sleep _ _ _

/-- A module starts up at a port that is awake (R96). -/
theorem State.startUp_sleep {s : State} {p : PortIx} (h : (s.port p).Awake) (k : ModuleKind) (b : Bool) :
    (s.startUp p k b).sleep = s.sleep := by
  obtain ⟨u, hu⟩ : ∃ u : State, u = s.modPort p fun q =>
    { q with kind := some k, resetDue := none, lateMotion := false, roleTaken := none } := ⟨_, rfl⟩
  have hs : u.sleep = s.sleep := by rw [hu]; exact State.sleep_modPort rfl
  have ha : (u.port p).Awake := by rw [hu, State.port_modPort, if_pos rfl]; exact h
  unfold State.startUp
  dsimp only
  rw [← hu]
  split
  · split
    · refine (State.sleep_modPort_awake ha ?_).trans hs
      split
      · exact Port.startReturn_awake _
      · exact ⟨nofun, nofun⟩
    · rw [State.sendSessionLamp_sleep]
      exact (State.sleep_setState ha).trans hs
    · exact (State.sleep_setState ha).trans hs
    · exact hs
  · rw [State.portError_sleep]
    exact (State.sleep_setState ha).trans hs

@[simp] theorem State.takeHello_sleep (s : State) (p : PortIx) (k : ModuleKind) (b : Bool) :
    (s.takeHello p k b).sleep = s.sleep := by
  have hport : (s.abandon p).port p = s.port p := by simp
  have hr (h : (s.port p).Awake) :
      (if (s.port p).role = .bay then s.startUp p k b else (s.restartPort p).startUp p k b).sleep = s.sleep := by
    have h1 : (s.restartPort p).sleep = s.sleep :=
      (State.sleep_modPort (s := s.abandon p) rfl).trans (State.sleep_of_ports (by simp))
    have h2 : ((s.restartPort p).port p).Awake := by
      unfold State.restartPort
      rw [State.port_modPort, if_pos rfl, hport]
      exact h
    split
    · exact State.startUp_sleep h k b
    · exact (State.startUp_sleep h2 k b).trans h1
  unfold State.takeHello
  split
  case h_1 | h_2 => rfl
  case h_3 h | h_4 h | h_5 h => exact State.startUp_sleep (Port.awake_of_state h) k b
  all_goals rename_i h; exact hr (Port.awake_of_state h)

/-! ### The Zone Arbiter -/

@[simp] theorem State.removeEntry_sleep (s : State) (z : ZoneIx) (k : Nat) (f : Counters → Counters) :
    (s.removeEntry z k f).sleep = s.sleep := by
  have h1 (u : State) (p : PortIx) : (u.returnIfDone z p).sleep = u.sleep := by
    unfold State.returnIfDone
    split
    · exact State.requestReturn_sleep _ _
    · rfl
  unfold State.removeEntry
  split
  · rfl
  · refine (State.sleep_modPort rfl).trans ?_
    rw [h1]
    exact State.sleep_of_ports (by simp)

@[simp] theorem State.supersede_sleep (s : State) (a : CarIx) (p : PortIx) : (s.supersede a p).sleep = s.sleep := by
  unfold State.supersede
  split
  · rfl
  · split
    · exact State.sleep_of_ports (by simp)
    · exact State.removeEntry_sleep _ _ _ _

@[simp] theorem State.appendEntry_sleep (s : State) (z : ZoneIx) (car : Option CarIx) (p : PortIx)
    (r : Option Supersede) : (s.appendEntry z car p r).sleep = s.sleep := State.sleep_of_ports (by simp)

@[simp] theorem State.recordDecision_sleep (s : State) (p : PortIx) (code : BitVec 5) (v : Verdict) :
    (s.recordDecision p code v).sleep = s.sleep := State.sleep_modPort rfl

@[simp] theorem State.approach_sleep (s : State) (p : PortIx) (code : BitVec 5) : (s.approach p code).sleep = s.sleep := by
  have h (a : CarIx) : (s.disarm a).sleep = s.sleep := State.sleep_of_ports (by simp)
  unfold State.approach
  split
  · simp [State.grantCar, h]
  · rfl
  · simp [State.refuseCar]
  · simp [State.refuseCar]

@[simp] theorem State.countSwept_sleep (s : State) (p : PortIx) : (s.countSwept p).sleep = s.sleep := State.sleep_modPort rfl

@[simp] theorem State.takeExitCross_sleep (s : State) (p : PortIx) (code : BitVec 5) :
    (s.takeExitCross p code).sleep = s.sleep := by
  unfold State.takeExitCross
  dsimp only
  split <;> split <;> simp

@[simp] theorem State.takeExitStraight_sleep (s : State) (p : PortIx) (code : BitVec 5) :
    (s.takeExitStraight p code).sleep = s.sleep := by
  unfold State.takeExitStraight
  dsimp only
  split
  · split <;> simp
  · rfl

@[simp] theorem State.takeSelfThrow_sleep (s : State) (p : PortIx) (code : BitVec 5) :
    (s.takeSelfThrow p code).sleep = s.sleep := by
  have h1 (u : State) (c : Option CarIx) : (u.selfThrowCar p c).sleep = u.sleep := by
    unfold State.selfThrowCar
    split
    · rfl
    · rename_i a
      split
      · exact (State.sleep_of_ports (s := u.supersede a p) (by simp)).trans (u.supersede_sleep a p)
      · exact u.supersede_sleep _ p
  have h2 (u : State) (z : ZoneIx) : (u.markConflict p z).sleep = u.sleep := State.sleep_of_ports (by simp)
  have h3 (u : State) (z : ZoneIx) : (u.displace z).sleep = u.sleep := by
    unfold State.displace
    split
    · exact State.removeEntry_sleep _ _ _ _
    · rfl
  simp [State.takeSelfThrow, h1, h2, h3]

/-! ### The Pairing Engine -/

@[simp] theorem State.showSession_sleep (s : State) (p : PortIx) (old : SessionState) (x : Session) :
    (s.showSession p old x).sleep = s.sleep := by
  have h : (s.setSession p (some x)).sleep = s.sleep := State.sleep_of_ports (by simp)
  unfold State.showSession
  dsimp only
  split
  · exact h
  · rw [State.sendLamp_sleep, h]

@[simp] theorem State.openSession_sleep (s : State) (p : PortIx) (old : SessionState) (h : Option SlotIx) (ms : Nat) :
    (s.openSession p old h ms).sleep = s.sleep := by
  unfold State.openSession
  rw [State.showSession_sleep]
  exact State.sleep_of_ports (by simp)

@[simp] theorem State.failSession_sleep (s : State) (p : PortIx) (x : Session) (why : SessionOutcome) :
    (s.failSession p x why).sleep = s.sleep := by
  unfold State.failSession
  rw [State.notifyPort_sleep, State.showSession_sleep]
  exact State.sleep_of_ports (by simp)

@[simp] theorem State.lookup_sleep (s : State) (p : PortIx) (x : Session) (id : Identity) :
    (s.lookup p x id).sleep = s.sleep := by
  have h (a : CarIx) : (s.reserveFor p x a).sleep = s.sleep := State.sleep_of_ports (by simp)
  unfold State.lookup
  split
  · exact State.failSession_sleep _ _ _ _
  · split
    · split
      · exact State.failSession_sleep _ _ _ _
      · exact h _
    · split
      · exact State.failSession_sleep _ _ _ _
      · exact h _

@[simp] theorem State.fillSession_sleep (s : State) (p : PortIx) (x : Session) : (s.fillSession p x).sleep = s.sleep := by
  have h : (s.setSession p (some x)).sleep = s.sleep := State.sleep_of_ports (by simp)
  unfold State.fillSession
  dsimp only
  split
  · rw [State.lookup_sleep, h]
  · exact h

@[simp] theorem State.takeIdentity_sleep (s : State) (p : PortIx) (id : Identity) :
    (s.takeIdentity p id).sleep = s.sleep := by
  unfold State.takeIdentity
  split
  · rfl
  · split
    · exact State.fillSession_sleep _ _ _
    · rfl

@[simp] theorem State.gesture_sleep (s : State) (h : SlotIx) : (s.gesture h).sleep = s.sleep := by
  have hj (p : PortIx) : (s.joinSession p h).sleep = s.sleep := by
    unfold State.joinSession
    split
    · rfl
    · rw [State.fillSession_sleep]
      exact State.sleep_of_ports (by simp)
  have ho : (s.openDefault h).sleep = s.sleep := by
    unfold State.openDefault
    split
    · rfl
    · split
      · rfl
      · split
        · rfl
        · exact State.openSession_sleep _ _ _ _ _
  unfold State.gesture
  split
  · rfl
  · split
    · exact hj _
    · exact ho

@[simp] theorem State.driveFlags_sleep (s : State) (h : SlotIx) (x : Option CarIx) (lane pair : Bool) :
    (s.driveFlags h x lane pair).sleep = s.sleep := by
  have hl : (s.laneEdge h x lane).sleep = s.sleep := State.sleep_of_ports (by simp)
  have hp : ((s.laneEdge h x lane).pairEdge h pair).sleep = s.sleep := by
    unfold State.pairEdge
    split
    · rw [State.gesture_sleep, hl]
    · exact hl
  exact (State.sleep_of_ports (by simp [State.driveFlags])).trans hp

@[simp] theorem State.assignResult_sleep (s : State) (p : PortIx) (answered : Bool) :
    (s.assignResult p answered).sleep = s.sleep := by
  have hc (x : Session) (h : SlotIx) (a : CarIx) (id : Identity) : (s.commitSession p x h a id).sleep = s.sleep := by
    unfold State.commitSession State.notifyCar
    refine (State.showSession_sleep _ p _ _).trans ?_
    exact State.sleep_of_ports (by simp)
  have hs (x : Session) : (s.silentAttempt p x).sleep = s.sleep := by
    unfold State.silentAttempt
    dsimp only
    split
    · exact State.sleep_of_ports (by simp)
    · exact State.failSession_sleep _ _ _ _
  unfold State.assignResult
  split
  · rfl
  · split
    · split
      · split
        · exact hc _ _ _ _
        · rfl
      · exact hs _
    · rfl

end Sys2Proof.Machine

/-! What leaves the part, its deadlines and a part at rest as they are (R11, R94, R109, R145); for O59. -/

namespace Sys2Proof.Machine

/-! ### What leaves the part as it is -/

/-- The part state, Run Control's deadlines, the strap and the direct fallback (R28, R138, R141). -/
def State.control (s : State) : PartState × (Option Nat × Option Nat × Option Nat × Option Nat) × Bool × Bool :=
  (s.part, (s.startupDue, s.wakeDue, s.silenceDue, s.ownCycleDue), s.strap, s.directFallback)

/-- The part lies at rest (R109, R145): besides what the law of REST says, no session waits for the insertion queue. -/
structure State.AtRest (s : State) : Prop where
  part : s.part = .rest
  ports : ∀ p, (s.port p).state = .off ∨ (s.port p).state = .dormant
  sessions : ∀ p x, s.session p = some x → x.state = .closed
  line : s.waitingLine = []
  queue : s.queueWaiting = []

/-- From `s` to `t` the part and its deadlines, the settings of the fallback and the sleep of the ports stay, and a part that lies at
rest lies there still. -/
structure State.Undisturbed (s t : State) : Prop where
  control : t.control = s.control
  sleep : t.sleep = s.sleep
  atRest : s.AtRest → t.AtRest

theorem State.Undisturbed.refl (s : State) : s.Undisturbed s := ⟨rfl, rfl, id⟩

theorem State.Undisturbed.trans {s t u : State} (h : s.Undisturbed t) (k : t.Undisturbed u) : s.Undisturbed u :=
  ⟨k.control.trans h.control, k.sleep.trans h.sleep, fun hs => k.atRest (h.atRest hs)⟩

theorem State.part_of_control {s t : State} (h : t.control = s.control) : t.part = s.part := congrArg Prod.fst h

theorem State.port_off_or_dormant_iff {s t : State} (h : t.sleep = s.sleep) (p : PortIx) :
    ((t.port p).state = .off ∨ (t.port p).state = .dormant ↔ (s.port p).state = .off ∨ (s.port p).state = .dormant) ∧
      ((t.port p).state = .dormant ↔ (s.port p).state = .dormant) := by
  have hp : (t.port p).sleep = (s.port p).sleep := congrFun h p
  simp only [Port.sleep, Prod.mk.injEq, decide_eq_decide] at hp
  obtain ⟨h1, h2⟩ := hp
  exact ⟨or_congr h1 h2, h2⟩

/-- What the law of REST reads stays. -/
theorem State.Undisturbed.untouched {s t : State} (hc : t.control = s.control := by simp [State.control])
    (hp : t.sleep = s.sleep := by simp) (hs : t.sessions = s.sessions := by simp)
    (hw : t.waitingLine = s.waitingLine := by simp) (hq : t.queueWaiting = s.queueWaiting := by simp) :
    s.Undisturbed t where
  control := hc
  sleep := hp
  atRest := fun h => {
    part := (State.part_of_control hc).trans h.part
    ports := fun p => ((State.port_off_or_dormant_iff hp p).1).2 (h.ports p)
    sessions := fun p => by
      rw [show t.session p = s.session p from congrArg (·[p.val]) hs]
      exact h.sessions p
    line := hw.trans h.line
    queue := hq.trans h.queue }

/-- The same where the ports' records stay. -/
theorem State.Undisturbed.portless {s t : State} (hc : t.control = s.control := by simp [State.control])
    (hp : t.ports = s.ports := by simp) (hs : t.sessions = s.sessions := by simp)
    (hw : t.waitingLine = s.waitingLine := by simp) (hq : t.queueWaiting = s.queueWaiting := by simp) :
    s.Undisturbed t := .untouched hc (State.sleep_of_ports hp) hs hw hq

/-- An operation that does nothing in a part at rest, and nothing to part and sleep elsewhere. -/
theorem State.Undisturbed.idle_at_rest {s t : State} (h : s.AtRest → t = s)
    (hc : t.control = s.control := by simp [State.control]) (hp : t.sleep = s.sleep := by simp) : s.Undisturbed t :=
  ⟨hc, hp, fun hs => by rwa [h hs]⟩

/-- An operation outside REST. -/
theorem State.Undisturbed.outside_rest {s t : State} (h : s.part ≠ .rest)
    (hc : t.control = s.control := by simp [State.control]) (hp : t.sleep = s.sleep := by simp) : s.Undisturbed t :=
  .idle_at_rest (fun hs => absurd hs.part h) hc hp

theorem State.Undisturbed.modPort {s : State} {p : PortIx} {f : Port → Port}
    (h : (f (s.port p)).sleep = (s.port p).sleep) : s.Undisturbed (s.modPort p f) :=
  .untouched (hp := State.sleep_modPort h)

/-! ### The rail output and the windows -/

theorem State.Undisturbed.position (s : State) (x : LineItem) : s.Undisturbed (s.position x) :=
  .idle_at_rest (fun h => State.position_of_rest h.part x) (hp := State.sleep_of_ports (by simp))

theorem State.Undisturbed.freePosition (s : State) : s.Undisturbed s.freePosition :=
  .idle_at_rest (fun h => State.freePosition_of_rest h.part) (hp := State.sleep_of_ports (by simp))

theorem State.Undisturbed.railFree (s : State) : s.Undisturbed s.railFree where
  control := by simp [State.control]
  sleep := State.sleep_of_ports (by simp)
  atRest := fun h => by
    unfold State.railFree
    split
    · exact h
    · split
      · refine State.Undisturbed.atRest (s := s) ?_ h
        exact .untouched rfl rfl rfl rfl rfl
      · rename_i hw
        rw [h.line] at hw
        cases hw

theorem State.Undisturbed.queuePlace (s : State) : s.Undisturbed s.queuePlace :=
  .idle_at_rest (fun h => by unfold State.queuePlace; rw [h.queue]) (hp := State.sleep_of_ports (by simp))

theorem State.Undisturbed.closeWindow {s t : State} {f : AnswerWindow → Bool} {w : AnswerWindow}
    (h : s.closeWindow f = some (w, t)) : s.Undisturbed t := by
  obtain ⟨-, -, ht⟩ := State.closeWindow_eq_some h
  rw [ht]
  exact .untouched rfl rfl rfl rfl rfl

theorem State.Undisturbed.closeCarAddress (s : State) (address : BitVec 5) (answered : Bool) :
    s.Undisturbed (s.closeCarAddress address answered) := by
  unfold State.closeCarAddress State.closeCarWindow
  split
  · exact .refl s
  · split
    · exact .refl s
    · rename_i h
      exact (State.Undisturbed.closeWindow h).trans .portless

theorem State.Undisturbed.assignResult (s : State) (p : PortIx) (answered : Bool) :
    s.Undisturbed (s.assignResult p answered) := by
  refine .idle_at_rest fun h => ?_
  unfold State.assignResult
  split
  · rfl
  · rename_i x hx
    rw [if_neg]
    rw [h.sessions p x hx]
    decide

theorem State.Undisturbed.closeAssignWindow (s : State) (p : PortIx) (answered : Bool) :
    s.Undisturbed (s.closeAssignWindow p answered) := by
  unfold State.closeAssignWindow
  split
  · exact .refl s
  · rename_i h
    split
    · exact (State.Undisturbed.closeWindow h).trans (.assignResult _ _ _)
    · exact .closeWindow h

/-! ### The upstream frames -/

theorem State.Undisturbed.arrive (s : State) : s.Undisturbed s.arrive := .untouched rfl rfl rfl rfl rfl

theorem State.Undisturbed.arriveOther (s : State) : s.Undisturbed s.arriveOther := .portless

/-- Errors that are counted and noticed. -/
theorem State.Undisturbed.discardFrame {s t : State}
    (ht : t = { s with notices := t.notices, frameErrors := t.frameErrors, kindErrors := t.kindErrors }) :
    s.Undisturbed t.discardFrame := by
  have h : s.Undisturbed t := by rw [ht]; exact .untouched rfl rfl rfl rfl rfl
  exact h.trans ((State.Undisturbed.arriveOther t).trans (.freePosition _))

theorem State.Undisturbed.frameError (s : State) : s.Undisturbed s.frameError := .discardFrame rfl

theorem State.Undisturbed.kindError (s : State) : s.Undisturbed s.kindError := .discardFrame rfl

theorem State.Undisturbed.driveOut (s : State) (target : Option CarIx) (t : Nat) (brake : Bool) :
    s.Undisturbed (s.driveOut target t brake) := by
  unfold State.driveOut
  split
  · exact .freePosition s
  · exact (State.Undisturbed.portless (t := s.shape _ t brake)).trans (.position _ _)

/-- A DRIVE frame reaches the Slot Map outside REST alone (R11, R30). -/
theorem State.Undisturbed.driveFrame (s : State) (slot : BitVec 5) (t : BitVec 6) (b l p : Bool) :
    s.Undisturbed (s.driveFrame slot t b l p) := by
  unfold State.driveFrame
  split
  · exact .frameError s
  · split
    · exact .arriveOther s
    · rename_i g _ h
      have h1 : s.arriveOther.part ≠ .rest := by simpa using h
      exact (State.Undisturbed.arriveOther s).trans
        ((State.Undisturbed.outside_rest (t := s.arriveOther.driveFlags g _ l p) h1).trans (.driveOut _ _ _ b))

/-! ### The module messages -/

theorem State.Undisturbed.onMessage {p : PortIx} {f : State → State} (hf : ∀ u : State, u.Undisturbed (f u)) (s : State) :
    s.Undisturbed (s.onMessage p f) := by
  unfold State.onMessage
  split
  · exact .refl s
  · exact (State.Undisturbed.modPort (f := fun q => { q with moduleSending := false }) rfl).trans (hf _)

theorem State.Undisturbed.portError (s : State) (p : PortIx) : s.Undisturbed (s.portError p) := .untouched

theorem State.Undisturbed.readerMessage {p : PortIx} {f : State → State} (hf : ∀ u : State, u.Undisturbed (f u))
    (s : State) : s.Undisturbed (s.readerMessage p f) :=
  .onMessage (fun u => by
    split
    · exact hf u
    · exact hf u
    · exact .portError u p
    · exact .refl u) s

theorem State.Undisturbed.roleMessage {p : PortIx} {role : Role} {f : State → State}
    (hf : ∀ u : State, u.Undisturbed (f u)) (s : State) : s.Undisturbed (s.roleMessage p role f) :=
  .onMessage (fun u => by
    split
    · exact hf u
    · split
      · exact .refl u
      · exact .portError u p) s

/-- A flap message is handled in a working state alone (R94). -/
theorem State.Undisturbed.flapMessage {p : PortIx} {ends : Bool} {f : State → State}
    (hf : ∀ u : State, (u.port p).state.working = true → u.Undisturbed (f u)) (s : State) :
    s.Undisturbed (s.flapMessage p ends f) := by
  unfold State.flapMessage
  split
  · exact .onMessage (fun u => .modPort rfl) s
  · refine .roleMessage (fun u => ?_) s
    split
    · exact hf u ‹_›
    · exact .refl u

theorem Port.awake_of_working {q : Port} (h : q.state.working = true) : q.Awake := by
  constructor <;> intro e <;> rw [e] at h <;> cases h

theorem State.Undisturbed.takeIdentity (s : State) (p : PortIx) (id : Identity) :
    s.Undisturbed (s.takeIdentity p id) := by
  refine .idle_at_rest fun h => ?_
  unfold State.takeIdentity
  split
  · rfl
  · rename_i x hx
    rw [if_neg]
    rw [h.sessions p x hx]
    exact fun hw => nomatch hw.1

/-! ### The deadlines of ports, sessions and zones -/

theorem State.Undisturbed.expire {s : State} {due : Option Nat} {f : State → State} (h : s.Undisturbed (f s)) :
    s.Undisturbed (s.expire due f) := State.expire_induct (.refl s) fun _ _ _ => h

theorem State.Undisturbed.resetExpires (s : State) (p : PortIx) : s.Undisturbed (s.resetExpires p) := by
  refine .expire ?_
  split
  · rename_i h
    refine .modPort (Eq.trans ?_ (Port.awake_of_state h).sleep.symm)
    exact Port.Awake.sleep ⟨nofun, nofun⟩
  · exact .refl s

theorem State.Undisturbed.flapExpires (s : State) (p : PortIx) : s.Undisturbed (s.flapExpires p) := by
  refine .expire ?_
  split
  · rename_i h
    have ha : (s.port p).Awake := h.elim Port.awake_of_state Port.awake_of_state
    exact .untouched (hp := State.flapFails_sleep ha)
  · exact .refl s

theorem State.Undisturbed.windowExpires (s : State) (p : PortIx) : s.Undisturbed (s.windowExpires p) := by
  unfold State.windowExpires
  split
  · exact .refl s
  · rename_i x hx
    refine .expire ?_
    split
    · rename_i hw
      exact .idle_at_rest fun h => by have := h.sessions p x hx; rw [hw] at this; cases this
    · exact .refl s

theorem State.Undisturbed.showExpires (s : State) (p : PortIx) : s.Undisturbed (s.showExpires p) := by
  unfold State.showExpires
  split
  · exact .refl s
  · rename_i x hx
    refine .expire ?_
    split
    · rename_i hw
      exact .idle_at_rest fun h => by have := h.sessions p x hx; rw [this] at hw; rcases hw with hw | hw <;> cases hw
    · exact .refl s

theorem State.Undisturbed.entryExpires (s : State) (z : ZoneIx) (k : Nat) : s.Undisturbed (s.entryExpires z k) := by
  unfold State.entryExpires
  split
  · exact .refl s
  · exact .expire .untouched

theorem State.Undisturbed.guardExpires (s : State) (z : ZoneIx) : s.Undisturbed (s.guardExpires z) := by
  unfold State.guardExpires
  split
  · exact .refl s
  · exact .expire .portless

/-! ### A tick and the hard-reset sources -/

theorem State.Undisturbed.idle (s : State) : s.Undisturbed s.idle := by
  unfold State.idle
  split
  · exact .refl s
  · refine .untouched rfl (funext fun p => ?_) rfl rfl rfl
    exact (congrArg Port.sleep (s.port_tick p)).trans rfl

theorem State.Undisturbed.holdReset (s : State) (cause : Cause) : s.Undisturbed (s.holdReset cause) := by
  have hp : (s.mapPorts fun q => { q with leaving := none, moduleSending := false }).sleep = s.sleep := funext fun p => by
    unfold State.sleep
    rw [State.port_mapPorts]
    rfl
  exact .untouched (by simp [State.control, State.holdReset]) ((State.sleep_of_ports rfl).trans hp)
    (by simp [State.holdReset]) (by simp [State.holdReset]) (by simp [State.holdReset])

end Sys2Proof.Machine

/-! The steps of Run Control along the edges of R138, with the laws of the deadlines, of the strap and of REST (R28, R139 to R147); for
O59. -/

namespace Sys2Proof.Machine

/-! ### Steps along the edges of R138 -/

/-- The law of REST with the queue of those that wait for the insertion queue, which the pairing laws keep empty in REST. -/
def State.RestKept (s : State) : Prop :=
  (s.part = .rest → s.AtRest) ∧ (s.part ≠ .rest → ∀ p, (s.port p).state ≠ .dormant)

theorem State.RestKept.lawful {s : State} (h : s.RestKept) : s.RestLawful :=
  ⟨fun hp => ⟨(h.1 hp).ports, (h.1 hp).sessions, (h.1 hp).line⟩, h.2⟩

/-- Closed sessions wait for no place (R12, R70). -/
theorem State.RestLawful.kept {s : State} (h : s.RestLawful) (hq : s.QueueLawful) : s.RestKept := by
  refine ⟨fun hp => ?_, h.2⟩
  obtain ⟨hports, hclosed, hline⟩ := h.1 hp
  refine ⟨hp, hports, hclosed, hline, List.eq_nil_iff_forall_not_mem.2 fun p hm => ?_⟩
  obtain ⟨-, -, hw, -⟩ := hq
  obtain ⟨x, hx, hst⟩ := hw p hm
  rw [hclosed p x hx] at hst
  cases hst

/-- From `s` to `t` the part moves along an edge of R138, and the laws of the deadlines, of the strap and of REST are kept. -/
structure State.Advances (s t : State) : Prop where
  edge : PartEdge s.part t.part
  deadlines : s.DeadlinesLawful → t.DeadlinesLawful
  strap : s.StrapHolds → t.StrapHolds
  rest : s.RestKept → t.RestKept

/-- A step that leaves the part, its deadlines and the settings of the fallback moves along no edge. -/
theorem State.Advances.of_control {s t : State} (hc : t.control = s.control) (hr : s.RestKept → t.RestKept) :
    s.Advances t := by
  simp only [State.control, Prod.mk.injEq] at hc
  obtain ⟨hp, ⟨h1, h2, h3, h4⟩, h5, h6⟩ := hc
  refine ⟨.inl hp.symm, fun hd => ?_, fun hs => ?_, hr⟩
  · unfold State.DeadlinesLawful
    rwa [hp, h1, h2, h3, h4]
  · unfold State.StrapHolds
    rwa [h5, h6]

theorem State.Undisturbed.advances {s t : State} (h : s.Undisturbed t) : s.Advances t := by
  have hp := State.part_of_control h.control
  refine .of_control h.control fun hr => ⟨fun hq => h.atRest (hr.1 (hp ▸ hq)), fun hq p => ?_⟩
  rw [Ne, (State.port_off_or_dormant_iff h.sleep p).2]
  exact hr.2 (hp ▸ hq) p

theorem State.Advances.refl (s : State) : s.Advances s := (State.Undisturbed.refl s).advances

theorem State.Undisturbed.andThen {s t u : State} (h : s.Undisturbed t) (k : t.Advances u) : s.Advances u :=
  ⟨State.part_of_control h.control ▸ k.edge, fun hs => k.deadlines (h.advances.deadlines hs),
    fun hs => k.strap (h.advances.strap hs), fun hs => k.rest (h.advances.rest hs)⟩

theorem State.Advances.andThen {s t u : State} (h : s.Advances t) (k : t.Undisturbed u) : s.Advances u :=
  ⟨State.part_of_control k.control ▸ h.edge, fun hs => k.advances.deadlines (h.deadlines hs),
    fun hs => k.advances.strap (h.strap hs), fun hs => k.advances.rest (h.rest hs)⟩

theorem State.Advances.expire {s : State} {due : Option Nat} {f : State → State} (h : s.Advances (f s)) :
    s.Advances (s.expire due f) := State.expire_induct (.refl s) fun _ _ _ => h

/-! ### Run Control -/

/-- What REST forbids is nowhere, and no port sleeps newly, from one part state outside REST to another. -/
theorem State.RestKept.outside {s t : State} (hs : s.part ≠ .rest) (ht : t.part ≠ .rest)
    (hp : t.ports = s.ports) (h : s.RestKept) : t.RestKept := by
  refine ⟨fun e => absurd e ht, fun _ p => ?_⟩
  rw [Ne, (State.port_off_or_dormant_iff (State.sleep_of_ports hp) p).2]
  exact h.2 hs p

/-- The part enters RUN, the deadline of the state that ends stopped (R139, R144, R147). -/
theorem State.Advances.enterRun {s t : State}
    (ht : t = { s with startupDue := t.startupDue, wakeDue := t.wakeDue, ownCycleDue := t.ownCycleDue })
    (h : (s.part = .startup ∧ t.startupDue = none ∧ t.wakeDue = s.wakeDue ∧ t.ownCycleDue = s.ownCycleDue) ∨
      (s.part = .waking ∧ t.wakeDue = none ∧ t.startupDue = s.startupDue ∧ t.ownCycleDue = s.ownCycleDue) ∨
      (s.part = .halt ∧ t.ownCycleDue = none ∧ t.startupDue = s.startupDue ∧ t.wakeDue = s.wakeDue)) :
    s.Advances t.enterRun := by
  have hpart : t.enterRun.part = .run := rfl
  have hports : t.enterRun.ports = s.ports := by rw [State.enterRun, State.startSilence, ht]
  refine ⟨?_, fun hd => ?_, fun hs => ?_, fun hr => ?_⟩
  · rw [hpart]
    unfold PartEdge
    rcases h with ⟨h, -⟩ | ⟨h, -⟩ | ⟨h, -⟩ <;> simp [h]
  · unfold State.DeadlinesLawful at hd ⊢
    have e1 : t.enterRun.startupDue = t.startupDue := rfl
    have e2 : t.enterRun.wakeDue = t.wakeDue := rfl
    have e3 : t.enterRun.silenceDue.isSome := rfl
    have e4 : t.enterRun.ownCycleDue = t.ownCycleDue := rfl
    rw [hpart, e1, e2, e4]
    rcases h with ⟨h, h1, h2, h3⟩ | ⟨h, h1, h2, h3⟩ | ⟨h, h1, h2, h3⟩ <;> rw [h1, h2, h3] <;> simp_all
  · unfold State.StrapHolds
    rwa [State.enterRun, State.startSilence, ht]
  · refine hr.outside ?_ (by rw [hpart]; decide) hports
    rcases h with ⟨h, -⟩ | ⟨h, -⟩ | ⟨h, -⟩ <;> rw [h] <;> decide

theorem State.Advances.startUpSettled (s : State) : s.Advances s.startUpSettled := by
  refine .expire ?_
  split
  · rename_i h
    exact .enterRun rfl (.inl ⟨h, rfl, rfl, rfl⟩)
  · exact .refl s

theorem State.Advances.wakeSettled (s : State) : s.Advances s.wakeSettled := by
  refine .expire ?_
  split
  · rename_i h
    exact .enterRun rfl (.inr (.inl ⟨h, rfl, rfl, rfl⟩))
  · exact .refl s

theorem State.Undisturbed.fallDue {s : State} (h : s.part = .halt) (x : LineItem) : s.Undisturbed (s.fallDue x) :=
  .outside_rest (by rw [h]; decide) (hp := State.sleep_of_ports (by simp))

/-- The part enters HALT (R143). -/
theorem State.Advances.enterHalt {s : State} (h : s.part = .run) : s.Advances s.enterHalt := by
  obtain ⟨u, hu⟩ : ∃ u : State, u = { s.disarmAll.zeroFine.notify .silence with
    part := .halt, silenceDue := none, ownCycleDue := some (s.after 20) } := ⟨_, rfl⟩
  have hpart : u.part = .halt := by rw [hu]
  have hadv : s.Advances u := by
    refine ⟨?_, fun hd => ?_, fun hs => ?_, fun hr => hr.outside (by rw [h]; decide) (by rw [hpart]; decide) ?_⟩
    · simp [PartEdge, h, hpart]
    · unfold State.DeadlinesLawful at hd ⊢
      simp_all
    · rw [hu]
      simpa [State.StrapHolds] using hs
    · rw [hu]
      simp
  have he : s.enterHalt = u.fallDue (.frame ownCycle) := by rw [hu]; rfl
  rw [he]
  exact hadv.andThen (.fallDue hpart _)

theorem State.Advances.silenceExpires (s : State) : s.Advances s.silenceExpires := by
  refine .expire ?_
  split
  · exact .enterHalt ‹_›
  · exact .refl s

/-- The own-cycle timer runs on in HALT (R144). -/
theorem State.Advances.ownCycleExpires (s : State) : s.Advances s.ownCycleExpires := by
  refine .expire ?_
  split
  · rename_i h
    have hn : s.part ≠ .rest := by rw [h]; decide
    have hadv : s.Advances { s with ownCycleDue := s.ownCycleDue.map (· + 20) } :=
      ⟨.inl rfl, fun ⟨h1, h2, h3, h4⟩ => ⟨h1, h2, h3, by simpa using h4⟩, id, fun hr => hr.outside hn hn rfl⟩
    refine hadv.andThen (State.Undisturbed.fallDue ?_ _)
    exact h
  · exact .refl s

theorem State.port_beginWake (s : State) (p : PortIx) : s.beginWake.port p = (s.port p).wake (s.now + 100) := by
  simp [State.beginWake]

theorem State.port_enterRest (s : State) (p : PortIx) : s.enterRest.port p = (s.port p).rest := by
  simp [State.enterRest]

/-- The wake begins (R109, R147). -/
theorem State.Advances.beginWake {s : State} (h : s.part = .rest) : s.Advances s.beginWake := by
  have hpart : s.beginWake.part = .waking := rfl
  refine ⟨?_, fun hd => ?_, fun hs => ?_, fun _ => ⟨fun e => absurd (hpart.symm.trans e) (by decide), fun _ p => ?_⟩⟩
  · simp [PartEdge, h, hpart]
  · unfold State.DeadlinesLawful at hd ⊢
    have hw : s.beginWake.wakeDue.isSome := rfl
    simp_all
  · simpa [State.StrapHolds] using hs
  · rw [State.port_beginWake]
    unfold Port.wake
    split
    · exact nofun
    · assumption

/-- What Run Control does with a CYCLE frame (R142, R144, R147). -/
theorem State.Advances.cycleRun (s : State) : s.Advances s.cycleRun := by
  unfold State.cycleRun
  split
  case h_1 h =>
    refine ⟨.inl rfl, fun ⟨h1, h2, _, h4⟩ => ⟨h1, h2, by simp [State.startSilence, h], h4⟩, id,
      fun hr => hr.outside (s := s) (by rw [h]; decide) (by simp [h]) rfl⟩
  case h_2 h => exact .enterRun rfl (.inr (.inr ⟨h, rfl, rfl, rfl⟩))
  case h_3 h => exact .beginWake h
  all_goals exact .refl s

theorem State.Advances.cycleFrame (s : State) (race : RaceState) (e : Bool) (b : BitVec 13) :
    s.Advances (s.cycleFrame race e b) := by
  have h1 : s.Undisturbed (s.arrive.cycleWindow.position (.frame (.cycle race e b))) :=
    (State.Undisturbed.arrive s).trans ((State.Undisturbed.portless (t := s.arrive.cycleWindow)).trans (.position _ _))
  have h2 : s.Undisturbed ((s.arrive.cycleWindow.position (.frame (.cycle race e b))).writeRace race e) :=
    h1.trans .portless
  exact h2.andThen (.cycleRun _)

/-- REST is accepted in RUN alone, with every session closed (R145). -/
theorem State.part_of_canRest {s : State} (h : s.canRest = true) : s.part = .run := by
  simp only [State.canRest, Bool.and_eq_true, decide_eq_true_eq] at h
  exact h.1.1.1

/-- The part enters REST (R109, R145). -/
theorem State.Advances.enterRest {s : State} (h : s.canRest = true) (hl : s.PairingLawful) : s.Advances s.enterRest := by
  have hrun := State.part_of_canRest h
  have hpart : s.enterRest.part = .rest := rfl
  obtain ⟨-, hq⟩ := (State.pairingLawful_iff _).1 (hl.enterRest h)
  refine ⟨?_, fun hd => ?_, fun hs => ?_, fun _ => State.RestLawful.kept ⟨fun _ => ⟨fun p => ?_, fun p x hx => ?_, rfl⟩,
    fun hne => absurd hpart hne⟩ hq⟩
  · simp [PartEdge, hrun, hpart]
  · have hnone : s.enterRest.silenceDue = none := rfl
    unfold State.DeadlinesLawful at hd ⊢
    simp_all
  · simpa [State.StrapHolds] using hs
  · rw [State.port_enterRest]
    unfold Port.rest
    split
    · exact .inl ‹_›
    · exact .inr rfl
  · exact State.closed_of_canRest h p x (by simpa using hx)

end Sys2Proof.Machine

/-! Every request and every other command moves the part along the edges of R138 and keeps its laws; O59. -/

namespace Sys2Proof.Machine

/-! ### Requests -/

/-- A role is written outside REST (R95). -/
theorem State.Advances.writeRole {s : State} (h : s.part ≠ .rest) (p : PortIx) (role : Role) :
    s.Advances (s.writeRole p role) := by
  have hc : (s.writeRole p role).control = s.control := by simp [State.control]
  have ht : (s.writeRole p role).part ≠ .rest := by rwa [State.part_of_control hc]
  refine .of_control hc fun hr => ⟨fun e => absurd e ht, fun _ q => ?_⟩
  rw [State.port_writeRole]
  split
  · unfold Port.inRole Port.takeRole
    split
    · exact nofun
    · exact nofun
  · exact hr.2 h q

/-- The fallback is written where the strap leaves it free (R28, R29). -/
theorem State.Advances.setFallback {s : State} {on : Bool} (h : s.strap = true → on = true) : s.Advances (s.setFallback on) := by
  have hf : (s.setFallback on).directFallback = on := by simp [State.setFallback]
  refine ⟨.inl (by simp), fun hd => ?_, fun _ hs => ?_, fun hr => ?_⟩
  · simpa [State.DeadlinesLawful] using hd
  · rw [hf]
    exact h (by simpa using hs)
  · have hu : State.Undisturbed { s with directFallback := on } (s.setFallback on) := by
      unfold State.setFallback
      exact .portless
    exact hu.advances.rest ⟨fun hp => ⟨hp, (hr.1 hp).ports, (hr.1 hp).sessions, (hr.1 hp).line, (hr.1 hp).queue⟩, hr.2⟩

theorem State.softReset_control (s : State) : s.softReset.control =
    (.startup, (some (s.now + 200), none, none, none), s.strap, s.directFallback) := by
  simp only [State.control, State.softReset, State.softResetTables, State.after_eq]

theorem State.port_softReset (s : State) (p : PortIx) : s.softReset.port p = (s.port p).softReset (s.now + 100) := by
  simp [State.softReset, State.softResetTables]

/-- The soft reset starts the part up (R110, R150). -/
theorem State.Advances.softReset (s : State) : s.Advances s.softReset := by
  have hc := s.softReset_control
  simp only [State.control, Prod.mk.injEq] at hc
  obtain ⟨hp, ⟨h1, h2, h3, h4⟩, h5, h6⟩ := hc
  refine ⟨.inr (.inl hp), fun _ => ?_, fun hs => ?_, fun _ => ⟨fun e => absurd (hp.symm.trans e) (by decide), fun _ p => ?_⟩⟩
  · simp [State.DeadlinesLawful, hp, h1, h2, h3, h4]
  · unfold State.StrapHolds
    rwa [h5, h6]
  · rw [State.port_softReset]
    unfold Port.softReset
    split
    · rename_i ho
      exact fun e => nomatch ho.symm.trans e
    · exact nofun

theorem State.releaseReset_control (s : State) (high : Bool) : (s.releaseReset high).control =
    (.startup, (some 200, none, none, none), high, high) := rfl

/-- The release of the internal reset starts the part up (R28, R148). -/
theorem State.Advances.releaseReset (s : State) (high : Bool) : s.Advances (s.releaseReset high) := by
  have hc := s.releaseReset_control high
  simp only [State.control, Prod.mk.injEq] at hc
  obtain ⟨hp, ⟨h1, h2, h3, h4⟩, -⟩ := hc
  refine ⟨.inr (.inl hp), fun _ => ?_, fun _ => id, fun _ => ⟨fun e => absurd (hp.symm.trans e) (by decide), fun _ p => ?_⟩⟩
  · simp [State.DeadlinesLawful, hp, h1, h2, h3, h4]
  · rw [State.port_releaseReset]
    exact nofun

theorem reqStatus_undisturbed (s : State) (b : Bool) : s.Undisturbed (reqStatus b s).1 := by
  cases b <;> exact .untouched rfl rfl rfl rfl rfl

theorem reqPortRole_advances (s : State) (port : BitVec 8) (role : BitVec 4) : s.Advances (reqPortRole port role s).1 := by
  unfold reqPortRole
  split
  · split
    · exact .refl s
    · split
      · exact .refl s
      · exact .writeRole ‹_› _ _
  · exact .refl s

theorem reqPortMask_undisturbed (s : State) (port : BitVec 8) (m : Bool) : s.Undisturbed (reqPortMask port m s).1 := by
  unfold reqPortMask
  split
  · exact .refl s
  · split
    · exact .refl s
    · exact .modPort (f := fun q => { q with masked := m }) rfl

theorem reqSectionWrite_undisturbed (s : State) (port zone : BitVec 4) (cap hold g f : BitVec 8) (th : Word16) :
    s.Undisturbed (reqSectionWrite port zone cap hold g f th s).1 := by
  unfold reqSectionWrite
  split
  · dsimp only
    split
    · exact .refl s
    · exact .modPort rfl
  · exact .refl s

theorem reqSectionCounts_undisturbed (s : State) (port : BitVec 8) (page : BitVec 2) (e : Bool) :
    s.Undisturbed (reqSectionCounts port page e s).1 := by
  unfold reqSectionCounts
  split
  · exact .refl s
  · split
    · exact .refl s
    · cases e
      · exact .refl s
      · exact .modPort (f := fun q => { q with errors := 0 }) rfl

/-- A section's flap that is cleared of its FAULT is awake before and after (R105). -/
theorem Port.clearSection_sleep (q : Port) : q.clearSection.sleep = q.sleep := by
  unfold Port.clearSection
  dsimp only
  split
  · rename_i h
    have hr := (Port.startReturn_awake { q with counters := Counters.zero, lastDecision := none }).sleep
    exact hr.trans (Port.awake_of_state h.2).sleep.symm
  · rfl

theorem reqSectionClear_undisturbed (s : State) (port : BitVec 8) : s.Undisturbed (reqSectionClear port s).1 := by
  unfold reqSectionClear
  split
  · exact .refl s
  · split
    · exact .refl s
    · split
      · exact .refl s
      · exact .modPort (Port.clearSection_sleep _)

theorem reqPairOpen_undisturbed (s : State) (port slot window : BitVec 8) :
    s.Undisturbed (reqPairOpen port slot window s).1 := by
  unfold reqPairOpen
  split
  · split
    · exact .refl s
    · rename_i hp
      split
      · exact .refl s
      · split
        · exact .refl s
        · split
          · exact .refl s
          · exact .outside_rest hp
  · exact .refl s

/-- No session is open in REST for PAIR_CANCEL to end (R85, R145). -/
theorem reqPairCancel_undisturbed (s : State) (port : BitVec 8) : s.Undisturbed (reqPairCancel port s).1 := by
  unfold reqPairCancel
  split
  · exact .refl s
  · split
    · exact .refl s
    · rename_i x hx
      split
      · rename_i ho
        refine .idle_at_rest (fun h => ?_) (by simp [State.control]) (by simp)
        rw [h.sessions _ x (State.session_of_baySession hx)] at ho
        cases ho
      · exact .refl s

/-- MODE leaves the fallback on where the strap holds it (R28, R167). -/
theorem reqMode_advances (s : State) (w v on : Bool) (bay : BitVec 8) : s.Advances (reqMode w v on bay s).1 := by
  unfold reqMode
  split
  · exact .refl s
  · split
    · exact .refl s
    · rename_i hs
      have hw : s.Advances (if w then s.setFallback on else s) := by
        split
        · rename_i h1
          exact .setFallback fun h => by simpa [h1, h] using hs
        · exact .refl s
      show s.Advances (s.writeMode w v on _)
      unfold State.writeMode
      dsimp only
      split
      · exact hw.andThen (.untouched rfl rfl rfl rfl rfl)
      · exact hw

/-- Every request moves the part along the edges and keeps its laws (R157). -/
theorem requestBody_advances {s : State} (hl : s.PairingLawful) (code : Nat) (arg : BitVec 8) (d1 d2 d3 : Word16) :
    s.Advances (requestBody code arg d1 d2 d3 s).1 := by
  unfold requestBody
  split
  · exact .refl s
  · exact (reqStatus_undisturbed s _).advances
  · exact State.Undisturbed.advances (t := s.clearNotices) (.untouched rfl rfl rfl rfl rfl)
  · exact State.Undisturbed.advances (t := { s with cause := Cause.cleared }) (.untouched rfl rfl rfl rfl rfl)
  · exact reqPortRole_advances s _ _
  · exact (reqPortMask_undisturbed s _ _).advances
  · exact (reqSectionWrite_undisturbed s _ _ _ _ _ _ _).advances
  · unfold reqSectionRead
    split <;> exact .refl s
  · exact (reqSectionCounts_undisturbed s _ _ _).advances
  · exact (reqSectionClear_undisturbed s _).advances
  · unfold reqZoneWrite
    split
    · exact .refl s
    · exact State.Undisturbed.advances (.untouched rfl rfl rfl rfl rfl)
  · unfold reqZoneRead
    split
    · exact .refl s
    · split <;> exact .refl s
  · unfold reqCurveWrite
    split
    · exact State.Undisturbed.advances (t := s.writePoint _ _ _) (.untouched rfl rfl rfl rfl rfl)
    · exact .refl s
  · unfold reqCurveRead
    split
    · exact .refl s
    · split <;> exact .refl s
  · unfold reqCarWrite
    split
    · exact State.Undisturbed.advances (t := s.modCar _ _) .portless
    · exact .refl s
  · unfold reqCarRead
    split <;> exact .refl s
  · unfold reqCarIdentity
    split
    · exact .refl s
    · split <;> exact .refl s
  · unfold reqBind
    split
    · split
      · exact .refl s
      · exact State.Undisturbed.advances (t := s.bindCar _ _) .portless
    · exact .refl s
  · unfold reqUnbind
    split
    · exact .refl s
    · split
      · exact .refl s
      · exact State.Undisturbed.advances (t := s.unbindSlot _) .portless
  · unfold reqForget
    split
    · exact .refl s
    · split
      · exact .refl s
      · exact State.Undisturbed.advances (t := s.forgetCar _) .portless
  · exact (reqPairOpen_undisturbed s _ _ _).advances
  · exact (reqPairCancel_undisturbed s _).advances
  · unfold reqPairRead
    split
    · exact .refl s
    · split
      · exact .refl s
      · split
        · exact .refl s
        · split
          · exact .refl s
          · split <;> exact .refl s
  · unfold reqRevive
    split
    · exact .refl s
    · exact State.Undisturbed.advances (t := s.modCar _ _) .portless
  · exact State.Undisturbed.advances (t := (reqLimits _ _ _ _ s).1) (.untouched rfl rfl rfl rfl rfl)
  · exact reqMode_advances s _ _ _ _
  · unfold reqRest
    split
    · exact .enterRest ‹_› hl
    · exact .refl s
  · unfold reqWake
    dsimp only
    split
    · exact .beginWake ‹_›
    · exact .refl s
  · exact .softReset s
  · exact .refl s

theorem State.Advances.respond {s : State} {f : State → Answer} (h : s.Advances (f s).1) (code : BitVec 6) :
    s.Advances (s.respond code f) := by
  unfold State.respond
  split
  · exact (State.Undisturbed.portless (t := s.dropRequest)).advances
  · exact h.andThen .portless

theorem State.Advances.complete {s : State} (hl : s.PairingLawful) (r : Assembly) : s.Advances (s.complete r) := by
  unfold State.complete
  split
  · exact (State.Undisturbed.portless (t := s.dropRequest)).advances
  · split
    · exact (State.Undisturbed.portless (t := s.queueReply _)).advances
    · split
      · exact (State.Undisturbed.portless (t := s.queueReply _)).advances
      · exact .respond (requestBody_advances hl _ _ _ _ _) _

/-- The position of the completing frame disturbs nothing, whichever is taken first (R14). -/
theorem State.Advances.completeAtPosition {s : State} (hl : s.PairingLawful) (r : Assembly) :
    s.Advances (s.completeAtPosition r) := by
  have h1 : s.Undisturbed { s with free := s.free + 1 } := .untouched rfl rfl rfl rfl rfl
  have hl1 : State.PairingLawful { s with free := s.free + 1 } :=
    hl.of_ports rfl rfl rfl rfl ⟨rfl, rfl⟩ ⟨rfl, rfl, rfl⟩ rfl
  unfold State.completeAtPosition
  split
  · exact (State.Undisturbed.freePosition s).andThen (.complete hl.freePosition r)
  · dsimp only
    split
    · exact h1.andThen ((State.Advances.complete hl1 r).andThen (.freePosition _))
    · exact h1.andThen ((State.Undisturbed.freePosition _).andThen (.complete hl1.freePosition r))

theorem State.Advances.beginRequest {s : State} (hl : s.PairingLawful) (r : Assembly) : s.Advances (s.beginRequest r) := by
  unfold State.beginRequest
  split
  · exact .completeAtPosition hl r
  · exact State.Undisturbed.andThen (t := { s with assembly := some r }) (.untouched rfl rfl rfl rfl rfl)
      (State.Undisturbed.freePosition _).advances

theorem State.Advances.dataFrame {s : State} (hl : s.PairingLawful) (w : Word16) : s.Advances (s.dataFrame w) := by
  unfold State.dataFrame
  split
  · exact (State.Undisturbed.freePosition s).advances
  · dsimp only
    split
    · exact State.Undisturbed.andThen (t := { s with assembly := none }) (.untouched rfl rfl rfl rfl rfl)
        (.completeAtPosition (hl.withAssembly none) _)
    · exact State.Undisturbed.andThen (t := { s with assembly := some _ }) (.untouched rfl rfl rfl rfl rfl)
        (State.Undisturbed.freePosition _).advances

/-! ### The commands -/

/-- Every effect moves the part along the edges and keeps its laws. -/
theorem effect_advances (c : Instr) {s : State} (hl : s.PairingLawful) : s.Advances (effect c s) := by
  cases c with
  | cycleFrame race e b => exact .cycleFrame s race e b
  | driveFrame slot t b l p => exact (State.Undisturbed.driveFrame s slot t b l p).advances
  | headFrame code count arg => exact (State.Undisturbed.arriveOther s).andThen (.beginRequest hl.arriveOther _)
  | dataFrame w => exact (State.Undisturbed.arrive s).andThen (.dataFrame hl.arrive w)
  | fillFrame => exact ((State.Undisturbed.arriveOther s).trans (.freePosition _)).advances
  | auxFrame k b => exact ((State.Undisturbed.arriveOther s).trans (.position _ _)).advances
  | frameError => exact (State.Undisturbed.frameError s).advances
  | kindError => exact (State.Undisturbed.kindError s).advances
  | frameBrokenOff => exact (State.Undisturbed.frameError s).advances
  | carAnswerWindowClose address answered => exact (State.Undisturbed.closeCarAddress s address answered).advances
  | assignAnswerWindowClose p answered => exact (State.Undisturbed.closeAssignWindow s p answered).advances
  | railOutputFree => exact (State.Undisturbed.railFree s).advances
  | insertionQueuePlace => exact (State.Undisturbed.queuePlace s).advances
  | hello p k b =>
    rw [effect_hello]
    exact (State.Undisturbed.onMessage (fun u => .untouched) s).advances
  | approach p code =>
    rw [effect_approach]
    refine (State.Undisturbed.readerMessage (fun u => ?_) s).advances
    split
    · exact .untouched
    · exact .refl u
  | guard p code =>
    rw [effect_guard]
    exact (State.Undisturbed.readerMessage (fun u => .portless) s).advances
  | exitCross p code =>
    rw [effect_exitCross]
    exact (State.Undisturbed.readerMessage (fun u => .untouched) s).advances
  | exitStraight p code =>
    rw [effect_exitStraight]
    exact (State.Undisturbed.readerMessage (fun u => .untouched) s).advances
  | ready p b =>
    rw [effect_ready]
    exact (State.Undisturbed.flapMessage (fun u _ => .untouched) s).advances
  | moving p =>
    rw [effect_moving]
    exact (State.Undisturbed.flapMessage (fun u _ => .untouched) s).advances
  | moduleFault p code =>
    rw [effect_moduleFault]
    exact (State.Undisturbed.flapMessage
      (fun u h => .untouched (hp := State.takeModuleFault_sleep (Port.awake_of_working h) code)) s).advances
  | selfThrow p code =>
    rw [effect_selfThrow]
    exact (State.Undisturbed.roleMessage (fun u => .untouched) s).advances
  | identity p id =>
    rw [effect_identity]
    refine (State.Undisturbed.roleMessage (fun u => ?_) s).advances
    split
    · exact .takeIdentity u p id
    · exact .refl u
  | portLineError p =>
    rw [effect_portLineError]
    exact (State.Undisturbed.onMessage (fun u => .portError u p) s).advances
  | portMessageBrokenOff p =>
    rw [effect_portMessageBrokenOff]
    exact (State.Undisturbed.onMessage (fun u => .portError u p) s).advances
  | portLineFree p =>
    exact (State.Undisturbed.modPort (f := fun q => q.lineFree (s.after q.config.flapTimeout))
      (Port.sleep_of_state (Port.lineFree_state _ _))).advances
  | flapCommandLeft p =>
    exact (State.Undisturbed.modPort (f := fun q => q.flapCommandLeft (s.after q.config.flapTimeout))
      (Port.sleep_of_state (Port.flapCommandLeft_state _ _))).advances
  | startUpSettleExpiry => exact .startUpSettled s
  | wakeSettleExpiry => exact .wakeSettled s
  | silenceDeadlineExpiry => exact .silenceExpires s
  | ownCycleTimerExpiry => exact .ownCycleExpires s
  | resetDeadlineExpiry p => exact (State.Undisturbed.resetExpires s p).advances
  | flapDeadlineExpiry p => exact (State.Undisturbed.flapExpires s p).advances
  | windowDeadlineExpiry p => exact (State.Undisturbed.windowExpires s p).advances
  | showDeadlineExpiry p => exact (State.Undisturbed.showExpires s p).advances
  | entryExpiry z k => exact (State.Undisturbed.entryExpires s z _).advances
  | guardExpiry z => exact (State.Undisturbed.guardExpires s z).advances
  | _ => exact .refl s

/-- Every command moves the part along the edges and keeps its laws. -/
theorem exec_advances {c : Instr} {s t : State} (hl : s.PairingLawful) (h : exec c s = .next t) : s.Advances t := by
  cases hc : requestCode c with
  | some code =>
    obtain ⟨arg, d1, d2, d3, hb⟩ := exec_of_requestCode hc
    rw [hb] at h
    exact taken_keeps (P := s.Advances) (.refl s) (fun _ => .respond (requestBody_advances hl _ _ _ _ _) _) h
  | none =>
    by_cases hk : isResetCommand c = false
    · rw [exec_eq_effect hc hk] at h
      exact taken_keeps (P := s.Advances) (.refl s) (fun _ => effect_advances c hl) h
    · cases c with
      | powerOn | resetPinAssertion | supplyDip => cases h; exact (State.Undisturbed.holdReset s _).advances
      | internalResetRelease high => cases h; exact .releaseReset s high
      | _ => exact absurd rfl hk

theorem step_advances {s t : State} (hl : s.PairingLawful) (h : step s = .next t) : s.Advances t := by
  unfold step at h
  split at h
  · obtain rfl := Host.Outcome.next.inj h
    exact (State.Undisturbed.idle s).advances
  · rename_i rest _
    exact State.Undisturbed.andThen (t := { s with pending := rest }) (.untouched rfl rfl rfl rfl rfl)
      (exec_advances (hl.of_ports rfl rfl rfl rfl ⟨rfl, rfl⟩ ⟨rfl, rfl, rfl⟩ rfl) h)

/-- Settles O59: every command leaves the part as it is or is one of Run Control's steps, REST, WAKE, PORT_ROLE, MODE or a reset, each
of which moves along an edge and keeps the laws. -/
theorem stepsKeepThePartLawful : Obligations.StepsKeepThePartLawful := by
  unfold Obligations.StepsKeepThePartLawful
  intro s t h hs
  obtain ⟨hedge, hdeadlines, hstrap, hrest⟩ := step_advances ((State.pairingLawful_iff s).2 hs) h
  exact ⟨hedge, fun hr => (hrest (hr.kept hs.2)).lawful, hdeadlines, hstrap⟩

end Sys2Proof.Machine

/-! The laws in the state after reset (R148), the idle step (R141; log entries 3 and 18) and the hard-reset sources (R148, R149); O2, O4
and O60. -/

namespace Sys2Proof.Machine

/-! ### The laws after reset -/

theorem State.reset_car (a : CarIx) : State.reset.car a = Car.reset := by simp [State.reset, State.hardReset]

theorem State.reset_slot (h : SlotIx) : State.reset.slot h = Slot.reset := by simp [State.reset, State.hardReset]

theorem State.reset_port (p : PortIx) : State.reset.port p = Port.reset p := by simp [State.reset, State.hardReset]

/-- Settles O60: the sections, the pairings, the ranges and the buffers are lawful after every hard reset; cars and slots hold nothing,
every port is OFF, and the start-up settle alone runs. -/
theorem theLawsHoldAfterReset : Obligations.TheLawsHoldAfterReset := by
  obtain ⟨hlists, hports, hflaps⟩ := (State.sectionsLawful_iff _).1 (State.hardReset_sections false ⟨true, false, false, false⟩ [])
  obtain ⟨hsessions, hqueue⟩ :=
    (State.pairingLawful_iff _).1 (State.hardReset_pairingLawful false ⟨true, false, false, false⟩ [])
  obtain ⟨hspeeds, hcounters, hbuffers⟩ := State.hardReset_inRange false ⟨true, false, false, false⟩ []
  refine ⟨fun a h => ?_, fun a b id ha => ?_, fun a ha => ?_, fun a => ?_, hspeeds, hcounters, hbuffers, hlists, hports, hflaps,
    hsessions, hqueue, ⟨fun h => (by cases h), fun _ p => ?_⟩, ?_, fun h => h⟩
  · rw [State.reset_car, State.reset_slot]
    exact ⟨nofun, nofun⟩
  · rw [State.reset_car] at ha
    cases ha
  · rw [State.reset_car] at ha
    cases ha
  · rw [State.reset_car]
    exact Car.reset_linkLawful
  · rw [State.reset_port]
    exact nofun
  · unfold State.DeadlinesLawful
    decide

/-! ### The events that have come -/

@[simp] theorem mem_oneIf {b : Bool} {i c : Instr} : c ∈ oneIf b i ↔ b = true ∧ c = i := by
  cases b <;> simp [oneIf]

/-- The hub's own events that have come (R12, R124, R128, R141). -/
theorem State.mem_dueEvents (s : State) (c : Instr) : c ∈ s.dueEvents ↔
    (s.placeFree = true ∧ c = .insertionQueuePlace) ∨ c ∈ s.dueRun ∨ (∃ p, c ∈ s.duePort p) ∨ ∃ z, c ∈ s.dueZone z := by
  simp [State.dueEvents]

theorem State.mem_dueRun (s : State) (c : Instr) : c ∈ s.dueRun ↔
    (s.reached s.startupDue = true ∧ c = .startUpSettleExpiry) ∨ (s.reached s.wakeDue = true ∧ c = .wakeSettleExpiry) ∨
      (s.reached s.silenceDue = true ∧ c = .silenceDeadlineExpiry) ∨
      (s.reached s.ownCycleDue = true ∧ c = .ownCycleTimerExpiry) := by
  simp [State.dueRun]

theorem State.mem_duePort (s : State) (p : PortIx) (c : Instr) : c ∈ s.duePort p ↔
    (s.reached (s.port p).resetDue = true ∧ c = .resetDeadlineExpiry p) ∨
      (s.reached (s.port p).flapDue = true ∧ c = .flapDeadlineExpiry p) ∨
      (s.reached ((s.session p).bind (·.windowDue)) = true ∧ c = .windowDeadlineExpiry p) ∨
      (s.reached ((s.session p).bind (·.showDue)) = true ∧ c = .showDeadlineExpiry p) := by
  simp [State.duePort]

theorem State.mem_dueZone (s : State) (z : ZoneIx) (c : Instr) : c ∈ s.dueZone z ↔
    (∃ k : Fin 3, s.reached (((s.zone z).entries[k.val]?).map (·.due)) = true ∧ c = .entryExpiry z k) ∨
      (s.reached ((s.zone z).guard.map (·.due)) = true ∧ c = .guardExpiry z) := by
  have hk (k : Fin 3) : k ∈ ([2, 1, 0] : List (Fin 3)) := by revert k; decide
  simp only [State.dueZone, List.mem_append, List.mem_flatMap, mem_oneIf, hk, true_and]

theorem State.reached_bind_iff {α : Type} (s : State) (x : Option α) (f : α → Option Nat) :
    s.reached (x.bind f) = true ↔ ∃ y ∈ x, ∃ d ∈ f y, d ≤ s.now := by
  cases x <;> simp [State.reached_iff]

theorem State.tick_pending {s : State} (h : s.pending = []) :
    s.tick.pending = State.dueEvents { s with now := s.now + 1 } := by
  simp [State.tick, h]

theorem State.placeFree_iff (s : State) : s.placeFree = true ↔ s.insertionQueue.length < 3 ∧ s.queueWaiting ≠ [] := by
  simp [State.placeFree]

/-- Settles O2: the idle step is a tick, of which each event is found in the list of those that have come. -/
theorem idleStepIsOneTick : Obligations.IdleStepIsOneTick := by
  unfold Obligations.IdleStepIsOneTick
  intro s hp
  have hstep : step s = .next s.idle := by rw [step, hp]
  rw [hstep]
  refine ⟨fun h => by rw [State.idle, if_pos h], fun h => ⟨s.tick, by rw [State.idle, h]; rfl, s.tick_same, fun p => ?_, ?_⟩⟩
  · rw [State.port_tick]
    exact Port.moduleTick_cases _ _
  · simp only [State.tick_pending hp, State.mem_dueEvents, State.mem_dueRun, State.mem_duePort, State.mem_dueZone]
    refine ⟨?_, ?_, ?_, ?_, fun p => ?_, fun p => ?_, fun p => ?_, fun p => ?_, fun z k => ?_, fun z => ?_, ?_⟩
    case refine_7 | refine_8 => simp [State.reached_bind_iff]
    case refine_11 => simp [State.placeFree_iff]
    all_goals simp [State.reached_iff]

/-! ### The hard-reset sources -/

theorem taken_eq_of_held {s : State} (h : s.resetHeld = true) (f : State → State) : taken s f = .next s := by
  simp [taken, h]

/-- While the internal reset is held only the four reset commands act (R148; log entry 7). -/
theorem exec_of_held {c : Instr} {s : State} (h : s.resetHeld = true) (hc : isResetCommand c = false) :
    exec c s = .next s := by
  cases hr : requestCode c with
  | some code =>
    obtain ⟨arg, d1, d2, d3, hb⟩ := exec_of_requestCode hr
    rw [hb, taken_eq_of_held h]
  | none => rw [exec_eq_effect hr hc, taken_eq_of_held h]

theorem State.holdReset_eq (s : State) (cause : Cause) : s.holdReset cause = { s with
    resetHeld := true, cause := cause, railOut := none, window := none, closing := [], returnWindow := [], rxBits := []
    ports := (s.holdReset cause).ports } := by
  unfold State.holdReset State.mapPorts
  rfl

theorem State.port_holdReset (s : State) (cause : Cause) (p : PortIx) :
    (s.holdReset cause).port p = { s.port p with leaving := none, moduleSending := false } := by
  simp [State.holdReset]

/-- Settles O4: each source is the assertion of the internal reset with the cause of its row. -/
theorem resetSourcesHoldTheReset : Obligations.ResetSourcesHoldTheReset := by
  unfold Obligations.ResetSourcesHoldTheReset
  refine ⟨fun c s h hc => exec_of_held h hc, fun c cause s h => ⟨s.holdReset cause, ?_, s.holdReset_eq cause,
    s.port_holdReset cause⟩⟩
  rcases h with ⟨rfl, rfl⟩ | ⟨rfl, rfl⟩ | ⟨rfl, rfl⟩ <;> rfl

end Sys2Proof.Machine

/-! The expiries of Run Control (R139, R142 to R144, R147, R151; log entry 4); O51. -/

namespace Sys2Proof.Machine

/-! ### Frames that fall due -/

/-- A frame that falls due leaves on a free output (R10). -/
theorem State.fallDue_of_free {s : State} (h : s.railOut = none) (hw : s.waitingLine = []) (x : LineItem) :
    s.fallDue x = { s with railOut := some x.rail, window := x.window, closing := s.closing ++ s.window.toList } :=
  (s.fallDue_fallsDue x).1 h hw

/-- A frame that falls due on an output in use waits behind at most one other, or is discarded (R10). -/
theorem State.fallDue_of_busy {s : State} (h : s.railOut ≠ none ∨ s.waitingLine ≠ []) (x : LineItem) :
    s.fallDue x = { s with waitingLine := if s.waitingLine.length < 2 then s.waitingLine ++ [x] else s.waitingLine } := by
  obtain ⟨-, hwait, hfull⟩ := s.fallDue_fallsDue x
  split_ifs with hl
  · exact hwait h hl
  · exact hfull (Nat.not_lt.1 hl)

/-- A frame that falls due concerns the rail output alone. -/
theorem State.fallDue_eq (s : State) (x : LineItem) : s.fallDue x = { s with
    railOut := (s.fallDue x).railOut, window := (s.fallDue x).window, closing := (s.fallDue x).closing
    waitingLine := (s.fallDue x).waitingLine } := by
  by_cases h : s.railOut = none ∧ s.waitingLine = []
  · rw [State.fallDue_of_free h.1 h.2]
  · rw [State.fallDue_of_busy (not_and_or.1 h)]

/-! ### Expiries that act in one part state -/

section
variable {s : State} {x : PartState} {due : Option Nat}

/-- In another part state, and before its tick, a deadline's expiry does nothing (R151). -/
theorem State.expire_in_of_idle (h : s.part ≠ x ∨ ∀ d, due = some d → s.now < d) (f : State → State) :
    s.expire due (fun s => if s.part = x then f s else s) = s := by
  rcases h with h | h
  · unfold State.expire
    split
    · exact if_neg h
    · rfl
  · exact State.expire_of_early h _

theorem State.expire_in_of_reached {d : Nat} (hp : s.part = x) (hd : due = some d) (hn : d ≤ s.now) (f : State → State) :
    s.expire due (fun s => if s.part = x then f s else s) = f s := by
  rw [hd, State.expire_of_reached hn, if_pos hp]

end

/-! ### Entry to HALT -/

/-- What HALT begins with, its first own CYCLE frame not yet due (R143). -/
def State.halted (s : State) : State := { s.disarmAll.zeroFine.notify .silence with
  part := .halt, silenceDue := none, ownCycleDue := some (s.after 20) }

theorem State.enterHalt_eq (s : State) : s.enterHalt = s.halted.fallDue (.frame ownCycle) := by
  unfold State.enterHalt State.halted
  rfl

/-- HALT stands every car, sets SILENCE and starts the own-cycle timer (R143). -/
theorem State.halted_eq (s : State) : s.halted = { s with
    part := .halt, silenceDue := none, ownCycleDue := some (s.now + 20), cars := s.halted.cars
    notices := setFlag s.notices .silence } := by
  unfold State.halted State.disarmAll State.zeroFine State.mapCars State.notify
  rfl

theorem State.car_halted (s : State) (a : CarIx) : s.halted.car a = { s.car a with armed := false, fine := 0 } := by
  simp [State.halted, State.disarmAll, State.zeroFine]

/-! ### The expiries -/

section
variable {s : State} (h : s.resetHeld = false)
include h

theorem exec_startUpSettleExpiry : exec .startUpSettleExpiry s = .next (s.expire s.startupDue fun s =>
    if s.part = .startup then State.enterRun { s with startupDue := none } else s) := exec_of_effect h rfl rfl

theorem exec_wakeSettleExpiry : exec .wakeSettleExpiry s = .next (s.expire s.wakeDue fun s =>
    if s.part = .waking then State.enterRun { s with wakeDue := none } else s) := exec_of_effect h rfl rfl

theorem exec_silenceDeadlineExpiry : exec .silenceDeadlineExpiry s = .next (s.expire s.silenceDue fun s =>
    if s.part = .run then s.enterHalt else s) := exec_of_effect h rfl rfl

theorem exec_ownCycleTimerExpiry : exec .ownCycleTimerExpiry s = .next (s.expire s.ownCycleDue fun s =>
    if s.part = .halt then State.fallDue { s with ownCycleDue := s.ownCycleDue.map (· + 20) } (.frame ownCycle) else s) :=
  exec_of_effect h rfl rfl

/-- In HALT, the own CYCLE frame whose tick is reached falls due (R144). -/
theorem exec_ownCycleTimerExpiry_of_reached {d : Nat} (hp : s.part = .halt) (hd : s.ownCycleDue = some d)
    (hn : d ≤ s.now) : exec .ownCycleTimerExpiry s =
      .next (State.fallDue { s with ownCycleDue := some (d + 20) } (.frame ownCycle)) := by
  rw [exec_ownCycleTimerExpiry h, State.expire_in_of_reached hp hd hn, hd]
  rfl

end

/-- Settles O51: each expiry acts in its own part state; the own CYCLE frames fall due as every frame of HALT does. -/
theorem runControlDeadlinesExpire : Obligations.RunControlDeadlinesExpire := by
  unfold Obligations.RunControlDeadlinesExpire
  intro s h
  refine ⟨fun d hp hd hn => ?_, fun hi => ?_, fun d hp hd hn => ?_, fun hi => ?_, fun d hp hd hn => ?_, fun hi => ?_,
    fun d hp hd hn => ?_, fun hi => ?_⟩
  · rw [exec_startUpSettleExpiry h, State.expire_in_of_reached hp hd hn]
    rfl
  · rw [exec_startUpSettleExpiry h, State.expire_in_of_idle hi]
  · rw [exec_wakeSettleExpiry h, State.expire_in_of_reached hp hd hn]
    rfl
  · rw [exec_wakeSettleExpiry h, State.expire_in_of_idle hi]
  · rw [exec_silenceDeadlineExpiry h, State.expire_in_of_reached hp hd hn, s.enterHalt_eq]
    have hu := s.halted_eq
    have hcar := s.car_halted
    generalize s.halted = u at hu hcar
    refine ⟨_, rfl, ?_, fun a => ?_, fun hf hw => ?_, fun hb => ?_⟩
    · rw [u.fallDue_eq, hu]
    · rw [u.fallDue_eq]
      exact hcar a
    · rw [State.fallDue_of_free (by rwa [hu]) (by rwa [hu]), hu]
      exact ⟨rfl, rfl, rfl, hw⟩
    · rw [State.fallDue_of_busy (by rwa [hu]), hu]
      exact ⟨rfl, rfl, rfl, rfl⟩
  · rw [exec_silenceDeadlineExpiry h, State.expire_in_of_idle hi]
  · rw [exec_ownCycleTimerExpiry_of_reached h hp hd hn]
    refine ⟨fun hf hw => ?_, fun hb => ?_⟩
    · rw [State.fallDue_of_free (by exact hf) (by exact hw)]
      rfl
    · rw [State.fallDue_of_busy (by exact hb)]
      rfl
  · rw [exec_ownCycleTimerExpiry h, State.expire_in_of_idle hi]

end Sys2Proof.Machine

/-! What Run Control does with a CYCLE frame (R140, R142, R144, R147), where it leaves (R6, R8, R11), and the messages of a port at the
wake (R109); O14. -/

namespace Sys2Proof.Machine

/-! ### What a port line holds -/

/-- A message issued stands last of those that leave and wait (R21). -/
theorem Port.issue_order (q : Port) (m : HubMsg) :
    (q.issue m).leaving.toList ++ (q.issue m).waiting = q.leaving.toList ++ q.waiting ++ [m] := by
  by_cases h : q.leaving = none ∧ q.waiting = [] ∧ q.moduleSending = false
  · obtain ⟨hl, hw, hs⟩ := h
    rw [Port.issue_of_free m hl hw hs, hl, hw]
    rfl
  · rw [Port.issue_of_busy m (by simpa only [not_and_or, Bool.not_eq_false] using h), List.append_assoc]

/-- The wake powers a DORMANT port on and starts its reset deadline (R109). -/
theorem Port.wake_of_dormant {q : Port} (h : q.state = .dormant) (due : Nat) :
    q.wake due = { q.issue (.power true) with state := .resetting, resetDue := some due } := if_pos h

theorem Port.wake_of_awake {q : Port} (h : q.state ≠ .dormant) (due : Nat) : q.wake due = q := if_neg h

/-! ### The steps of a CYCLE frame -/

theorem State.cycleWindow_of_none {s : State} (h : s.assembly = none) : s.cycleWindow = s.openWindow := by
  simp [State.cycleWindow, h]

theorem State.openWindow_counters (s : State) : s.openWindow.assembly = s.assembly ∧ s.openWindow.dropped = s.dropped ∧
    s.openWindow.notices = s.notices ∧ s.openWindow.free = s.free := by
  unfold State.openWindow
  split <;> exact ⟨rfl, rfl, rfl, rfl⟩

/-- A race record that reads GREEN with lane changes enabled keeps the latches (R140). -/
theorem State.writeRace_cars_of_open {s : State} {race : RaceState} {e : Bool} (hr : race = .green) (he : e = true) :
    (s.writeRace race e).cars = s.cars := by
  simp [State.writeRace, State.laneOpen, hr, he]

/-- Every other race record clears them (R140). -/
theorem State.car_writeRace_of_closed {s : State} {race : RaceState} {e : Bool} (h : race ≠ .green ∨ e = false) (a : CarIx) :
    (s.writeRace race e).car a = { s.car a with armed := false } := by
  have hc : State.laneOpen { s with race := race, laneEnable := e } = false := (State.laneOpen_eq_false_iff _).2 h
  simp [State.writeRace, hc, State.disarmAll]

/-- The race record is written, whatever it then reads (R140). -/
@[simp] theorem State.writeRace_race (s : State) (race : RaceState) (e : Bool) :
    (s.writeRace race e).race = race ∧ (s.writeRace race e).laneEnable = e := by
  unfold State.writeRace
  dsimp only
  split <;> simp [State.disarmAll]

theorem State.cycleRun_of_settling {s : State} (h : s.part = .startup ∨ s.part = .waking) : s.cycleRun = s := by
  rcases h with h | h <;> simp [State.cycleRun, h]

theorem State.cycleRun_of_run {s : State} (h : s.part = .run) :
    s.cycleRun = { s with silenceDue := some (s.now + s.silenceTimeout) } := by
  simp [State.cycleRun, h, State.startSilence]

theorem State.cycleRun_of_halt {s : State} (h : s.part = .halt) : s.cycleRun = { s with
    part := .run, silenceDue := some (s.now + s.silenceTimeout), ownCycleDue := none } := by
  simp [State.cycleRun, h, State.enterRun, State.startSilence]

theorem State.cycleRun_of_rest {s : State} (h : s.part = .rest) : s.cycleRun = s.beginWake := by
  simp [State.cycleRun, h]

/-- A CYCLE frame while no request is under assembly: beside the race record, only the return window, the replies, the rail output, the
latches and what Run Control switches change. -/
theorem State.cycleFrame_eq {s : State} (h : s.assembly = none) (race : RaceState) (e : Bool) (b : BitVec 13) :
    s.cycleFrame race e b = { s with
      race := race, laneEnable := e, rxBits := [], returnWindow := (s.cycleFrame race e b).returnWindow
      replies := (s.cycleFrame race e b).replies, railOut := (s.cycleFrame race e b).railOut
      window := (s.cycleFrame race e b).window, closing := (s.cycleFrame race e b).closing
      waitingLine := (s.cycleFrame race e b).waitingLine, part := (s.cycleFrame race e b).part
      silenceDue := (s.cycleFrame race e b).silenceDue, ownCycleDue := (s.cycleFrame race e b).ownCycleDue
      wakeDue := (s.cycleFrame race e b).wakeDue, cars := (s.cycleFrame race e b).cars
      ports := (s.cycleFrame race e b).ports } := by
  obtain ⟨ha, hd, hn, hf⟩ := s.arrive.openWindow_counters
  rw [← State.cycleWindow_of_none (s := s.arrive) h] at ha hd hn hf
  apply State.ext
  case assembly => exact (s.cycleFrame_assembly race e b).trans h.symm
  case notices | dropped | free => simpa [State.cycleFrame]
  all_goals simp [State.cycleFrame]

/-- What Run Control is given of a CYCLE frame: the race record written, in the part state of its arrival (R140). -/
def State.raceWritten (s : State) (race : RaceState) (e : Bool) (b : BitVec 13) : State :=
  (s.arrive.cycleWindow.position (.frame (.cycle race e b))).writeRace race e

theorem State.cycleFrame_raceWritten (s : State) (race : RaceState) (e : Bool) (b : BitVec 13) :
    s.cycleFrame race e b = (s.raceWritten race e b).cycleRun := rfl

/-- Until Run Control acts, a CYCLE frame changes neither the part nor its deadlines nor the ports. -/
theorem State.raceWritten_same (s : State) (race : RaceState) (e : Bool) (b : BitVec 13) :
    (s.raceWritten race e b).part = s.part ∧ (s.raceWritten race e b).silenceDue = s.silenceDue ∧
      (s.raceWritten race e b).ownCycleDue = s.ownCycleDue ∧ (s.raceWritten race e b).wakeDue = s.wakeDue ∧
      (s.raceWritten race e b).ports = s.ports ∧ (s.raceWritten race e b).now = s.now ∧
      (s.raceWritten race e b).silenceTimeout = s.silenceTimeout := by
  simp [State.raceWritten]

theorem State.cycleFrame_cars_of_open {s : State} {race : RaceState} {e : Bool} (hr : race = .green) (he : e = true)
    (b : BitVec 13) : (s.cycleFrame race e b).cars = s.cars := by
  simp [State.cycleFrame, State.writeRace_cars_of_open hr he]

theorem State.car_cycleFrame_of_closed {s : State} {race : RaceState} {e : Bool} (h : race ≠ .green ∨ e = false)
    (b : BitVec 13) (a : CarIx) : (s.cycleFrame race e b).car a = { s.car a with armed := false } := by
  have hc : (s.cycleFrame race e b).car a = (s.raceWritten race e b).car a := by
    simp [State.cycleFrame_raceWritten]
  rw [hc, State.raceWritten, State.car_writeRace_of_closed h]
  simp

/-- Settles O14: the four cases of `cycleRun` for the part, those of `writeRace` for the latches, and the frame's position. -/
theorem cycleFrameWritesTheRaceRecord : Obligations.CycleFrameWritesTheRaceRecord := by
  unfold Obligations.CycleFrameWritesTheRaceRecord
  intro race e b s h ha
  obtain ⟨hpart, hsil, hown, hwake, hports, hnow, htimeout⟩ := s.raceWritten_same race e b
  obtain ⟨⟨hrail, hwindow, hclosing, hline⟩, -⟩ := s.cycleFrame_output race e b
  refine ⟨s.cycleFrame race e b, exec_cycleFrame h race e b, State.cycleFrame_eq ha race e b,
    fun hr he => State.cycleFrame_cars_of_open hr he b, fun hc => State.car_cycleFrame_of_closed hc b, fun hp => ?_,
    fun hp => ?_, fun hp => ?_, fun hp => ?_, fun hu => ?_⟩
  · rw [State.cycleFrame_raceWritten, State.cycleRun_of_settling (by rwa [hpart])]
    exact ⟨hpart, hsil, hown, hwake, hports⟩
  · rw [State.cycleFrame_raceWritten, State.cycleRun_of_run (by rwa [hpart])]
    exact ⟨hpart.trans hp, by rw [hnow, htimeout], hown, hwake, hports⟩
  · rw [State.cycleFrame_raceWritten, State.cycleRun_of_halt (by rwa [hpart])]
    exact ⟨rfl, by rw [hnow, htimeout], rfl, hwake, hports⟩
  · rw [State.position_of_rest hp] at hrail hwindow hclosing hline
    refine ⟨?_, ?_, ?_, ?_, hrail, hwindow, hclosing, hline, fun p => ?_⟩
    all_goals rw [State.cycleFrame_raceWritten, State.cycleRun_of_rest (by rwa [hpart])]
    · rfl
    · exact congrArg (fun n => some (n + 20)) hnow
    · simpa using hsil
    · simpa using hown
    · rw [State.port_beginWake]
      have hq : (s.raceWritten race e b).port p = s.port p := congrArg (·[p.val]) hports
      rw [hq]
      refine ⟨fun hn => Port.wake_of_awake hn _, fun hd => ?_⟩
      rw [Port.wake_of_dormant hd, hnow]
      exact ⟨by rw [Port.issue_eq], Port.issue_order _ _⟩
  · rw [hrail, hwindow, hclosing, hline, State.position_of_unshared hu]
    exact ⟨rfl, rfl, rfl, rfl⟩

end Sys2Proof.Machine

/-! REST and WAKE (R109, R145, R147, R158); O41. -/

namespace Sys2Proof.Machine

theorem State.identWords_eq (s : State) : s.identWords =
    [0x2E71, 0x0624, 0x0011, (0 : BitVec 14) ++ BitVec.ofBool s.directFallback ++ BitVec.ofBool s.strap] := by
  rw [State.identWords, identWord_eq]

/-- The flap of a SWITCH port moves in THROWING and RETURNING (R145). -/
theorem Port.flapMoving_iff (q : Port) : q.flapMoving = true ↔
    q.role = .switch ∧ (q.state = .throwing ∨ q.state = .returning) := by
  simp [Port.flapMoving]

/-- What must hold for REST (R145): the part in RUN, no flap in motion, no entry and no session but CLOSED ones. -/
theorem State.canRest_iff (s : State) : s.canRest = true ↔ s.part = .run ∧
    (∀ p, (s.port p).role = .switch → (s.port p).state ≠ .throwing ∧ (s.port p).state ≠ .returning) ∧
    (∀ z, (s.zone z).entries = []) ∧ ∀ p x, s.session p = some x → x.state = .closed := by
  have hflap (p : PortIx) : (!(s.port p).flapMoving) = true ↔
      ((s.port p).role = .switch → (s.port p).state ≠ .throwing ∧ (s.port p).state ≠ .returning) := by
    rw [Bool.not_eq_true', ← Bool.not_eq_true, Port.flapMoving_iff, not_and, not_or]
  have hsession (p : PortIx) : ((s.session p).all fun x => decide (x.state = .closed)) = true ↔
      ∀ x, s.session p = some x → x.state = .closed := by
    cases s.session p <;> simp
  simp only [State.canRest, Bool.and_eq_true, decide_eq_true_eq, List.all_eq_true, List.mem_finRange, true_imp_iff,
    List.isEmpty_iff, hflap, hsession, and_assoc]

/-- A port at the entry to REST: POWER(OFF) after what is leaving, and no motion, deadline or mark left (R109; log entry 36). -/
theorem Port.rest_of_on {q : Port} (h : q.state ≠ .off) : q.rest = { Port.issue { q with waiting := [] } (.power false) with
    state := .dormant, resetDue := none, flapDue := none, flapAwaiting := false, extension := 0, returnPending := false
    lateMotion := false, roleTaken := none } := if_neg h

theorem Port.rest_of_off {q : Port} (h : q.state = .off) : q.rest = q := if_pos h

theorem State.enterRest_eq (s : State) : s.enterRest = { s with
    part := .rest, silenceDue := none, waitingLine := [], cars := s.enterRest.cars, ports := s.enterRest.ports } := by
  apply State.ext <;> simp
  all_goals rfl

theorem State.car_enterRest (s : State) (a : CarIx) : s.enterRest.car a = { s.car a with fine := 0 } := by
  simp [State.enterRest, State.zeroFine]

theorem State.beginWake_eq (s : State) : s.beginWake = { s with
    part := .waking, wakeDue := some (s.now + 20), ports := s.beginWake.ports } := by
  apply State.ext <;> simp
  all_goals rfl

/-- Settles O41: REST is the entry to REST exactly where its conditions allow it, and WAKE begins the wake in REST alone. -/
theorem restAndWakeSwitchThePart : Obligations.RestAndWakeSwitchThePart := by
  unfold Obligations.RestAndWakeSwitchThePart
  intro s ht
  refine ⟨s.identWords, s.identWords_eq, fun hc => ?_, fun hrun hflaps hzones hsessions => ?_, fun hp => ?_, fun hp => ?_⟩
  · have hno : ¬ s.canRest = true := by
      rw [State.canRest_iff]
      rintro ⟨hrun, hflaps, hzones, hsessions⟩
      rcases hc with hc | ⟨p, hr, hm⟩ | ⟨z, hz⟩ | ⟨p, x, hx, ho⟩
      · exact hc hrun
      · exact hm.elim (hflaps p hr).1 (hflaps p hr).2
      · exact hz (hzones z)
      · exact ho (hsessions p x hx)
    exact exec_answered ht rfl (if_neg hno)
  · have hyes : s.canRest = true := s.canRest_iff.2 ⟨hrun, hflaps, hzones, hsessions⟩
    refine ⟨s.enterRest, exec_answered ht rfl (if_pos hyes), s.enterRest_eq, s.car_enterRest, fun p => ?_⟩
    rw [State.port_enterRest]
    exact ⟨Port.rest_of_off, Port.rest_of_on⟩
  · exact exec_answered ht rfl (congrArg (·, Status.ok, s.identWords) (if_neg hp))
  · refine ⟨s.beginWake, exec_answered ht rfl (congrArg (·, Status.ok, s.identWords) (if_pos hp)), s.beginWake_eq, fun p => ?_⟩
    rw [State.port_beginWake]
    exact ⟨fun hn => Port.wake_of_awake hn _, fun hd => Port.wake_of_dormant hd _⟩

end Sys2Proof.Machine

/-! The soft reset (R15, R43, R64, R66, R87, R110, R134, R150; log entries 14, 22, 29 and 36); O6. -/

namespace Sys2Proof.Machine

/-! ### A port at the soft reset (R110) -/

theorem Port.softReset_of_off {q : Port} (h : q.state = .off) (due : Nat) : q.softReset due =
    { q with errors := 0, counters := ⟨0, 0, 0, 0, 0, 0, 0⟩, lastDecision := none } := if_pos h

/-- What a port that is on sends at the soft reset: what waits is discarded, a DORMANT port is powered on, and the module is reset. -/
def Port.restarted (q : Port) (due : Nat) : Port := Port.resetModule (Port.powerIfDormant { q with waiting := [] }) due

theorem Port.softReset_of_on {q : Port} (h : q.state ≠ .off) (due : Nat) : q.softReset due =
    { (q.restarted due).clearMotion.clearCounts with faultCode := none, lateMotion := q.lateMotion || q.flapMoving } :=
  if_neg h

/-- Messages and the reset deadline aside, a port that is on loses its motion, its counts and its fault. -/
theorem Port.softReset_eq {q : Port} (h : q.state ≠ .off) (due : Nat) : q.softReset due = { q with
    state := .resetting, resetDue := some due, errors := 0, counters := ⟨0, 0, 0, 0, 0, 0, 0⟩, lastDecision := none
    faultCode := none, returnPending := false, extension := 0, flapDue := none, flapAwaiting := false
    leaving := (q.softReset due).leaving, waiting := (q.softReset due).waiting
    lateMotion := q.lateMotion || (decide (q.role = .switch) &&
      (decide (q.state = .throwing) || decide (q.state = .returning))) } := by
  rw [Port.softReset_of_on h, Port.restarted, Port.resetModule_eq, Port.powerIfDormant_eq]
  rfl

theorem Port.powerIfDormant_order (q : Port) : q.powerIfDormant.leaving.toList ++ q.powerIfDormant.waiting =
    q.leaving.toList ++ q.waiting ++ if q.state = .dormant then [.power true] else [] := by
  unfold Port.powerIfDormant
  split
  · exact Port.issue_order q _
  · exact (List.append_nil _).symm

theorem Port.restarted_order (q : Port) (due : Nat) : (q.restarted due).leaving.toList ++ (q.restarted due).waiting =
    q.leaving.toList ++ (if q.state = .dormant then [.power true] else []) ++ [.moduleReset] := by
  have hreset := Port.issue_order (Port.powerIfDormant { q with waiting := [] }) .moduleReset
  rw [Port.powerIfDormant_order, List.append_nil] at hreset
  exact hreset

theorem Port.softReset_order {q : Port} (h : q.state ≠ .off) (due : Nat) :
    (q.softReset due).leaving.toList ++ (q.softReset due).waiting =
      q.leaving.toList ++ (if q.state = .dormant then [.power true] else []) ++ [.moduleReset] := by
  rw [Port.softReset_of_on h]
  exact q.restarted_order due

/-! ### The tables and the other records -/

theorem State.session_softReset (s : State) (p : PortIx) : s.softReset.session p = (s.session p).map Session.closed := by
  simp only [State.softReset, State.softResetTables, State.session_eq, Vector.getElem_ofFn]

theorem State.zone_softReset (s : State) (z : ZoneIx) : s.softReset.zone z = (s.zone z).softReset := by
  simp [State.softReset, State.softResetTables]

/-- Beside the tables, the soft reset leaves these records so (R150). -/
theorem State.softReset_eq (s : State) : s.softReset = { s with
    slots := s.softReset.slots, cars := s.softReset.cars, sessions := s.softReset.sessions, ports := s.softReset.ports
    zones := s.softReset.zones, insertionQueue := [], queueWaiting := [], waitingLine := []
    window := s.window.map AnswerWindow.cut, closing := s.closing.map AnswerWindow.cut
    part := .startup, race := .stop, laneEnable := false
    startupDue := some (s.now + 200), wakeDue := none, silenceDue := none, ownCycleDue := none
    cause := { s.cause with soft := true }
    assembly := none, replies := [], notices := 0, lastCar := none, lastPort := none
    frameErrors := 0, kindErrors := 0, dropped := 0 } := by
  simp only [State.softReset, State.softResetTables, State.after_eq]

/-- The answer of SOFT_RESET stands alone in the reply queue (R150). -/
theorem exec_softReset {s : State} (h : s.TakesRequests) : exec .softReset s = .next (s.softReset.replied 0x1D .ok []) :=
  exec_answered h rfl rfl

/-- Settles O6: the records of the hub are those of `softReset_eq`, the tables' those of the lemmas about each record. -/
theorem softResetKeepsConfigurationAlone : Obligations.SoftResetKeepsConfigurationAlone := by
  unfold Obligations.SoftResetKeepsConfigurationAlone
  intro s ht
  refine ⟨_, exec_softReset ht, ?_⟩
  have hslot := s.slot_softReset
  have hcar := s.softReset_car
  have hsession := s.session_softReset
  have hport := s.port_softReset
  have hzone := s.zone_softReset
  obtain ⟨⟨hcurves, hcap, -⟩, ⟨hframes, hkinds, hdropped⟩, hreplies, -, -, hassembly⟩ := s.softReset_fields
  obtain ⟨⟨-, hrx, hwindow⟩, -⟩ := s.softReset_line
  obtain ⟨hrail, hline, hqueue, hopen, hclosing, -⟩ := s.softReset_rails
  have hu := s.softReset_eq
  generalize s.softReset = u at *
  refine ⟨?control, ⟨?replies, hassembly, ?_, ?_, ?_, hframes, hkinds, hdropped⟩,
    ⟨hqueue, ?_, hline, hrail, hopen, hclosing, hrx, hwindow⟩, hslot, hcar, ?_, ?_, hcurves, hcap, ?_, hsession,
    fun p ho => (hport p).trans (Port.softReset_of_off ho _), fun p ho => ?on, hzone, ?_, ?_⟩
  case control =>
    rw [hu]
    exact ⟨rfl, rfl, rfl, rfl, rfl, rfl, rfl, rfl, rfl, rfl, ht.1⟩
  case replies => exact congrArg (· ++ [_]) hreplies
  case on =>
    have hp : (u.replied 0x1D .ok []).port p = (s.port p).softReset (s.now + 100) := hport p
    rw [hp]
    exact ⟨Port.softReset_eq ho _, Port.softReset_order ho _⟩
  all_goals
    rw [hu]
    rfl

end Sys2Proof.Machine
